-- ==== Sys2Proof/Word.lean ====
section
/-! DEFINITION. The words of the Bihon 4820's frames and records, and the plainest arithmetic of the manual (00 §6.2). -/

namespace Sys2Proof

/-- One byte of a request frame, a reply frame or a record (R193). -/
abbrev Byte := BitVec 8

/-- A set of the 13 notice kinds as software reads and writes it: bit 0 is GRANT, bit 12 is READY (R194). -/
abbrev NoticeBits := BitVec 13

end Sys2Proof
end

