-- ==== Sys2Proof/Config.lean ====
section
/-! DEFINITION. The manual's fixed numbers, each with the rule that gives it, and the model's free value. -/

namespace Sys2Proof.Config

/-- R17: the claim table has 16 slots. -/
def claimSlots : Nat := 16
/-- R19: a port owns at most 8 claims. -/
def claimsPerPort : Nat := 8
/-- R19: the essential cap, in mW. -/
def essentialCap : Nat := 12000
/-- R17, R20: the largest requested amount, in mW. -/
def requestedMax : Nat := 30000
/-- R23: the start-up claim's amount, in mW. -/
def startUpAmount : Nat := 2500
/-- R40: the default contract, 5000 mV and 500 mA. -/
def defaultVoltage : Nat := 5000
def defaultCurrent : Nat := 500
/-- R44: the range of a contract's voltage and the largest current. -/
def contractVoltageMin : Nat := 5000
def contractVoltageMax : Nat := 20000
def contractCurrentMax : Nat := 5000
/-- R51: the droop floor, in mA. -/
def droopFloor : Nat := 100
/-- R40, R51: the recovery timer, in ms. -/
def recoveryMs : Nat := 30000
/-- R55, R58: the ceiling stack's depth and the largest ceiling, in mW. -/
def ceilingDepth : Nat := 8
def ceilingMax : Nat := 100000
/-- R60: the die temperatures of derating and of shutdown. -/
def derateFrom : Int := 100
def shutdownAt : Int := 125
/-- R69: the least working voltage, in mV. -/
def workingVoltageMin : Nat := 2800
/-- R76: the lag that doubles a weight, in mV. -/
def lagMargin : Nat := 50
/-- R78: the least useful charge setpoint, in mA. -/
def starveBelow : Nat := 100
/-- R79: the supply threshold, in mV, and the currents of the two supply paths, in mA. -/
def supplyThreshold : Nat := 3400
def pathACurrent : Nat := 6000
def linkCurrent : Nat := 3000
/-- R68, R97: channel B's largest demand, in mA. -/
def demandBMax : Nat := 3000
/-- R90: profile memory's slots. -/
def profileSlots : Nat := 48
/-- R101: samples in a minute of a step, and where the step timer stops. -/
def samplesPerMinute : Nat := 600
def stepTimerMax : Nat := 864001
/-- R107: the most steps entered on one event. -/
def walkLimit : Nat := 4
/-- R104: the qualifying samples that end a VOLTAGE step. -/
def taperRun : Nat := 3
/-- R116: a requester's backoff, in ms. -/
def backoffMs : Nat := 100
/-- R134, R135, R143: the balance queue's depth, the largest count, the quantum in µAh. -/
def queueDepth : Nat := 4
def countMax : Nat := 4095
def quantum : Nat := 500
/-- R137: the ranges of a job's rate and tolerance. -/
def rateMin : Nat := 100
def rateMax : Nat := 2000
def toleranceMin : Nat := 5
def toleranceMax : Nat := 200
/-- R135: how long the ramp-down of a lost link counts for the job, in ms. -/
def tailMs : Nat := 40
/-- R139, R144: a destination at or above this voltage is full. -/
def destinationFull : Nat := 4350
/-- R152, R159: a holder's time in an EFFECTIVE hold, in ms. -/
def holdMs : Nat := 2000
/-- R167: the raising and clearing thresholds of the sampled faults. -/
def cellOvAt : Nat := 4500
def cellHotAt : Int := 650
def cellUvBelow : Nat := 2800
def cellUvClearAt : Nat := 3000
def dieHotAt : Int := 125
def dieHotClearBelow : Int := 110
def linkFaultAbove : Nat := 3300
/-- R175: the release conditions of the latched faults. -/
def cellOvReleaseAt : Nat := 4400
def cellHotReleaseAt : Int := 550
/-- R198, R203: the monitor hold-off timer, in ms. -/
def holdOffMs : Nat := 10000
/-- R11: the sample periods, in ms. -/
def periodActive : Nat := 100
def periodMonitor : Nat := 2000
/-- R13: the most charge one sample reports, in µAh. -/
def linkChargeMax : Nat := 1000
/-- R179: the target address of every port. -/
def targetAddress : Nat := 0x4B
/-- R180: the most bytes of a request frame. -/
def frameBytes : Nat := 32

/-- THE FREE VALUE (log 8): how far a ramping stage's output has come when a new setpoint meets the ramp. R1 says only
that the output moves monotonically toward its target. The n-th reading of the run is this constant applied to n. -/
opaque rampProgress : Nat → Nat

/-- THE FREE VALUE of log 25: the place byte of the status record while the first-fault record is NONE, to which R196
gives no value. -/
opaque placeOfNone : Byte

/-- THE FREE VALUE of log 33: the status record's byte for a die temperature that one signed byte does not hold, to which
R196 gives no value. -/
opaque dieByteOf : Int → Byte

end Sys2Proof.Config
end

