-- ==== Sys2Proof/Syntax.lean ====
section
/-! DEFINITION. The commands of the part: one constructor of `Instr` for each row of spec/opcode_table.json. -/

namespace Sys2Proof

/-- The three serial target ports (R179). -/
inductive Port where
  | main | hub | input
  deriving DecidableEq, Repr

/-- The two cells, and the channels that charge them (00 §6.3). -/
inductive Cell where
  | a | b
  deriving DecidableEq, Repr

/-- The three uses that ask the arbiter for the hinge link (R116). -/
inductive Requester where
  | supply | chargeB | balance
  deriving DecidableEq, Repr

/-- How a request's bytes were framed (R181 step 4, R194): the payload length byte, absent when the transaction ended after
the code, and the number of payload bytes in the frame. Where these do not fit the request, `stray` is what the transaction
wrote after the length byte, bytes beyond the frame's 32nd included (R180); where they fit, the parameters are those bytes
and `stray` is empty. -/
structure Framing where
  lengthByte : Option Nat
  carried : Nat
  stray : List Byte
  deriving DecidableEq, Repr

/-- The framing of a request whose payload has the length n that the request table gives. -/
def Framing.ofLength (n : Nat) : Framing := { lengthByte := some n, carried := n, stray := [] }

/-- R180: a write transaction at a port's target address, with the number of bytes written after the address. -/
structure BusWrite where
  port : Port
  count : Nat
  deriving DecidableEq, Repr

/-- The step record as STEP_WRITE's payload carries it, before any judgement (R197). -/
structure RawStep where
  kind : Nat
  current : Nat
  volt : Nat
  endCurrent : Nat
  duration : Nat
  timeout : Nat
  cold : Int
  hot : Int
  next : Nat
  deriving DecidableEq, Repr

/-- What the sequencer measures over one sampling interval, before the limits of R12 and R13: the link charge is what
the link carried since the previous arrival. -/
structure RawSample where
  vA : Int
  vB : Int
  iA : Int
  iB : Int
  tA : Int
  tB : Int
  vIn : Int
  tDie : Int
  linkCurrent : Nat
  linkCharge : Nat
  deriving DecidableEq, Repr

/-- The commands. A request names its port and its framing, then its parameters in payload order (R194). An operand
`order` names the order in which the blocks take the event where the manual leaves that order open (log 9); an operand
`level` is the level VBUS has when a power-on reset reads it (R16). -/
inductive Instr where
  /-- STATUS_READ, R188. -/
  | statusRead (p : Port) (fr : Framing)
  /-- NOTICE_READ, R185. -/
  | noticeRead (p : Port) (fr : Framing)
  /-- NOTICE_MASK, R186: the mask field's 16 bits. -/
  | noticeMask (p : Port) (fr : Framing) (mask : Nat)
  /-- PORT_RESET, R189. -/
  | portReset (p : Port) (fr : Framing) (order : Nat)
  /-- CLAIM, R20 to R24. -/
  | claim (p : Port) (fr : Framing) (cls requested floor : Nat)
  /-- AMEND, R26 to R28. -/
  | amend (p : Port) (fr : Framing) (id requested floor : Nat)
  /-- RELEASE, R25, R29. -/
  | release (p : Port) (fr : Framing) (id : Nat)
  /-- CLAIM_READ, R30. -/
  | claimRead (p : Port) (fr : Framing) (id : Nat)
  /-- CEIL_PUSH, R56. -/
  | ceilPush (p : Port) (fr : Framing) (ceiling : Nat)
  /-- CEIL_POP, R57. -/
  | ceilPop (p : Port) (fr : Framing)
  /-- HOLD, R154. -/
  | hold (p : Port) (fr : Framing)
  /-- UNHOLD, R160. -/
  | unhold (p : Port) (fr : Framing) (order : Nat)
  /-- CH_START, R109. -/
  | chStart (p : Port) (fr : Framing) (cell slot : Nat)
  /-- CH_STOP, R110. -/
  | chStop (p : Port) (fr : Framing) (cell : Nat)
  /-- STEP_WRITE, R111. -/
  | stepWrite (p : Port) (fr : Framing) (slot : Nat) (r : RawStep)
  /-- STEP_READ, R113. -/
  | stepRead (p : Port) (fr : Framing) (slot : Nat)
  /-- BAL_QUEUE, R137. -/
  | balQueue (p : Port) (fr : Framing) (direction mode count rate tolerance : Nat)
  /-- BAL_CANCEL, R146. -/
  | balCancel (p : Port) (fr : Framing) (tag : Nat)
  /-- CONTRACT_SET, R44, R45. -/
  | contractSet (p : Port) (fr : Framing) (voltage current : Nat)
  /-- INPUT_RELEASE, R47. -/
  | inputRelease (p : Port) (fr : Framing)
  /-- INPUT_RESUME, R49. -/
  | inputResume (p : Port) (fr : Framing)
  /-- FAULT_CLEAR, R175. -/
  | faultClear (p : Port) (fr : Framing) (target : Nat)
  /-- SHIP_ENTER, R204. -/
  | shipEnter (p : Port) (fr : Framing)
  /-- DEVICE_RESET, R201. -/
  | deviceReset (p : Port) (fr : Framing)
  /-- UNKNOWN_REQUEST_FRAME, R181 step 3: a frame whose code names no request: the bytes written, the code first. -/
  | unknownRequestFrame (p : Port) (bytes : List Byte)
  /-- FRAME_TURNED_AWAY, R180: the write transaction that is turned away. -/
  | frameTurnedAway (w : BusWrite)
  /-- POWER_ON_RESET, R198. -/
  | powerOnReset (level : Bool)
  /-- RSTN_ASSERT, R201: a falling edge of RSTn. -/
  | rstnAssert
  /-- RSTN_RELEASE, R200. -/
  | rstnRelease
  /-- ATTACH, R42; in SHIP it ends SHIP (R205). -/
  | attach (level : Bool)
  /-- DETACH, R43. -/
  | detach
  /-- WAKE_PRESS, R205. -/
  | wakePress (level : Bool)
  /-- SAMPLE_ARRIVAL, R14. -/
  | sampleArrival (measured : RawSample) (order : Nat)
  /-- RECOVERY_TIMER_EXPIRY, R52. -/
  | recoveryTimerExpiry
  /-- DORMANCY_EXPIRY, R35. -/
  | dormancyExpiry (p : Port)
  /-- TENURE_EXPIRY, R126. -/
  | tenureExpiry
  /-- BACKOFF_EXPIRY, R129. -/
  | backoffExpiry (r : Requester)
  /-- HOLD_EXPIRY, R159. -/
  | holdExpiry (p : Port) (order : Nat)
  /-- MONITOR_HOLD_OFF_EXPIRY, R203. -/
  | monitorHoldOffExpiry
  /-- STEP_TIMEOUT, R103. -/
  | stepTimeout (c : Cell)
  /-- STEP_DURATION_END, R102. -/
  | stepDurationEnd (c : Cell)
  /-- INPUT_STAGE_SETTLED, R48. -/
  | inputStageSettled
  /-- CELL_A_PATH_SETTLED, R157. -/
  | cellAPathSettled
  /-- HINGE_LINK_SETTLED, R123: whether the hold control takes the event before the arbiter (R157). -/
  | hingeLinkSettled (holdFirst : Bool)
  /-- PUBLICATION, R82. -/
  | publication (order : Nat)
  /-- COPY_COMPLETE, R199. -/
  | copyComplete
  /-- HOLD_ENTRY_CHECK, R155: the check that follows port p's HOLD. -/
  | holdEntryCheck (p : Port)
  /-- INPUT_OV_REPORT, R173. -/
  | inputOvReport
  /-- OWN_SUPPLY_LOSS, R198. -/
  | ownSupplyLoss
  /-- REPLY_PLACED, R182. -/
  | replyPlaced (p : Port)
  deriving DecidableEq, Repr

end Sys2Proof
end

