-- ==== Sys2Proof/Machine/State.lean ====
section
/-! DEFINITION. The state of the part: every piece of state the manual names, block by block, the reasons a step could
stop, and the machine right after a power-on reset. -/

namespace Sys2Proof.Machine

/-- A timer: stopped, or running toward an expiry at this time in ms (00 §6.5). -/
abbrev Timer := Option Nat

/-! ### Stages (chapter 01) -/

/-- R1: a power stage's target, output and ramp state. While RAMPING, `output` holds the output the ramp started from. -/
structure Stage (α : Type) where
  target : α
  output : α
  ramping : Bool
  deriving DecidableEq, Repr

/-- R3, R8: the directions of the hinge link. -/
inductive Dir where
  | none | bToNode | nodeToB | aToB | bToA
  deriving DecidableEq, Repr

/-- R3: a direction with a magnitude. -/
structure Flow where
  dir : Dir
  mag : Nat
  deriving DecidableEq, Repr

/-- R3: a target of zero magnitude has direction NONE. -/
def Flow.zero : Flow := { dir := .none, mag := 0 }

/-- The cell A path beside its charge stage: its supply allowance in mW and whether a bridge is in force (R6, R7). -/
structure PathA where
  stage : Stage Nat
  supply : Nat
  bridge : Bool
  deriving DecidableEq, Repr

/-- R12: one sample. -/
structure Sample where
  vA : Nat
  vB : Nat
  iA : Int
  iB : Int
  tA : Int
  tB : Int
  vIn : Nat
  tDie : Int
  linkCurrent : Nat
  linkCharge : Nat
  deriving DecidableEq, Repr

/-- The values read where no sample has arrived yet; no pass and no request reads them (R14). -/
def Sample.none : Sample :=
  { vA := 0, vB := 0, iA := 0, iB := 0, tA := 0, tB := 0, vIn := 0, tDie := 0, linkCurrent := 0, linkCharge := 0 }

/-- R11, R13, R14: the measurement sequencer. -/
structure Sequencer where
  running : Bool
  lastArrival : Nat
  prevArrival : Nat
  nextArrival : Nat
  latest : Option Sample
  charge : Nat
  deriving DecidableEq, Repr

/-! ### Claim table (chapter 02) -/

inductive Owner where
  | internal | port (p : Port)
  deriving DecidableEq, Repr

inductive ClaimClass where
  | essential | elective
  deriving DecidableEq, Repr

inductive Standing where
  | granted | partly | deferred | suspended
  deriving DecidableEq, Repr

/-- R17: a claim record. Its age is its place in the table's list (R18). `admission` names the admission that placed it
in its slot (R31); `floor` is 0 where the record holds none. -/
structure Claim where
  id : Nat
  owner : Owner
  cls : ClaimClass
  requested : Nat
  floor : Nat
  grant : Nat
  standing : Standing
  admission : Nat
  deriving DecidableEq, Repr

/-- R17, R18: the claims in admission order, oldest first, and the number the next admission takes. -/
structure ClaimTable where
  claims : List Claim
  nextAdmission : Nat
  deriving DecidableEq, Repr

/-! ### Input controller and ceiling stack (chapter 03) -/

inductive InputState where
  | detached | dflt | contracted | releasing | released
  deriving DecidableEq, Repr

/-- R40: a contract record, mV and mA. -/
structure Contract where
  voltage : Nat
  current : Nat
  deriving DecidableEq, Repr

/-- R40: the input controller, with the over-voltage reports made and not yet delivered (R54, R173), oldest first. -/
structure InputCtl where
  state : InputState
  held : Option Contract
  pendingContract : Option Contract
  droopLimit : Nat
  recovery : Timer
  requester : Option Port
  reports : List Bool
  deriving DecidableEq, Repr

/-- R55: one entry of the ceiling stack. -/
structure Ceiling where
  owner : Port
  limit : Nat
  deriving DecidableEq, Repr

/-! ### Protection monitor (chapter 09) -/

/-- R166: the faults of a cell. -/
structure CellFaults where
  ov : Bool
  hot : Bool
  uv : Bool
  deriving DecidableEq, Repr

/-- R166: the faults of the part as a whole. -/
structure DeviceFaults where
  dieHot : Bool
  inputOv : Bool
  linkFault : Bool
  deriving DecidableEq, Repr

inductive FaultKind where
  | cellOv | cellHot | cellUv | dieHot | inputOv | linkFault
  deriving DecidableEq, Repr

inductive FaultPlace where
  | cellA | cellB | device
  deriving DecidableEq, Repr

/-- R60: the thermal state. -/
inductive Thermal where
  | none | derating (t : Nat) | zero
  deriving DecidableEq, Repr

/-- R166: the protection monitor. -/
structure Protection where
  cellA : CellFaults
  cellB : CellFaults
  device : DeviceFaults
  first : Option (FaultKind × FaultPlace)
  thermal : Thermal
  deriving DecidableEq, Repr

/-! ### Budget allocator (chapter 04) -/

inductive BudgetLimit where
  | input | ceiling | thermal
  deriving DecidableEq, Repr

/-- R68: the snapshot a pass reads. -/
structure Snapshot where
  inputState : InputState
  contract : Contract
  droopLimit : Nat
  ceiling : Option Nat
  thermal : Thermal
  inputOv : Bool
  dieHot : Bool
  latchedA : Bool
  latchedB : Bool
  isolatedA : Bool
  isolatedB : Bool
  linkFault : Bool
  claims : List Claim
  demandA : Nat
  demandB : Nat
  holder : Option Requester
  holdOff : Bool
  vA : Nat
  vB : Nat
  deriving DecidableEq, Repr

/-- R82: the publication record. -/
structure Publication where
  count : Nat
  pConv : Nat
  pBud : Nat
  limit : BudgetLimit
  essential : Nat
  deficit : Nat
  elective : Nat
  pChg : Nat
  gA : Nat
  gB : Nat
  cA : Nat
  cB : Nat
  starvedA : Bool
  starvedB : Bool
  sA : Nat
  sB : Nat
  shortfall : Nat
  supply : Bool
  deriving DecidableEq, Repr

/-- R64: the allocator: IDLE (no snapshot) or COMPUTING, rerun-pending, the publication record, and whether a
publication has been made since the last reset (log 11). -/
structure Allocator where
  pass : Option Snapshot
  rerun : Bool
  record : Publication
  published : Bool
  deriving DecidableEq, Repr

/-! ### Profile memory and channels (chapter 05) -/

inductive StepKind where
  | precharge | current | voltage | topoff | rest | endStep
  deriving DecidableEq, Repr

/-- R91: a step record; a field its kind does not carry is 0. -/
structure StepRecord where
  kind : StepKind
  current : Nat
  volt : Nat
  endCurrent : Nat
  duration : Nat
  timeout : Nat
  cold : Int
  hot : Int
  next : Nat
  deriving DecidableEq, Repr

/-- R91: an END record carries no field beyond its kind. -/
def StepRecord.ended : StepRecord :=
  { kind := .endStep, current := 0, volt := 0, endCurrent := 0, duration := 0, timeout := 0, cold := 0, hot := 0, next := 0 }

inductive ChannelState where
  | idle | active | done | fault
  deriving DecidableEq, Repr

/-- R94: the limit reasons. -/
structure Reasons where
  hold : Bool
  temp : Bool
  noInput : Bool
  noLink : Bool
  deficit : Bool
  dieHot : Bool
  starved : Bool
  deriving DecidableEq, Repr

/-- The empty reason set. -/
def Reasons.none : Reasons :=
  { hold := false, temp := false, noInput := false, noLink := false, deficit := false, dieHot := false, starved := false }

inductive ChannelFault where
  | none | stepTimeout | chainLoop | cellFault
  deriving DecidableEq, Repr

/-- R93: a channel. `request` is channel B's CHARGE_B request; channel A's stays withdrawn. -/
structure Channel where
  state : ChannelState
  slot : Option Nat
  timer : Nat
  run : Nat
  lastSetpoint : Nat
  reasons : Reasons
  code : ChannelFault
  published : Nat
  stale : Bool
  presented : Nat
  request : Bool
  deriving DecidableEq, Repr

/-! ### Hinge arbiter (chapter 06) -/

/-- R118: the link state with its holder; the holder is NONE in FREE and CHANGEOVER. -/
inductive LinkState where
  | free | held (r : Requester) | changeover
  deriving DecidableEq, Repr

/-- R116: the waiting set. -/
structure Waiting where
  supply : Bool
  chargeB : Bool
  balance : Bool
  deriving DecidableEq, Repr

/-- R116: the arbiter. -/
structure Arbiter where
  link : LinkState
  waiting : Waiting
  lastPair : Option Requester
  tenure : Timer
  tenureExpired : Bool
  yieldPending : Bool
  backoffChargeB : Timer
  backoffBalance : Timer
  faultLock : Bool
  deriving DecidableEq, Repr

/-! ### Balance engine (chapter 07) -/

inductive Direction where
  | aToB | bToA | towardLower
  deriving DecidableEq, Repr

inductive Way where
  | aToB | bToA
  deriving DecidableEq, Repr

inductive Mode where
  | count | untilLevel
  deriving DecidableEq, Repr

inductive JobState where
  | queued | running | suspended
  deriving DecidableEq, Repr

inductive EndReason where
  | countDone | levelReached | sourceLow | destFull | cancelled | fault | reset
  deriving DecidableEq, Repr

/-- R135, R142: a run of a job that has ended: from its grant to the end of its tail, 40 ms after the loss. -/
structure Run where
  start : Nat
  stop : Nat
  deriving DecidableEq, Repr

/-- R135: a job of the balance queue. `runs` holds the runs ended whose tail reaches past the latest arrival, the latest
last; R135's tail until is the end of the last of them (log 24). -/
structure Job where
  tag : Nat
  originator : Port
  direction : Direction
  mode : Mode
  count : Nat
  rate : Nat
  tolerance : Option Nat
  resolved : Option Way
  moved : Nat
  residue : Nat
  state : JobState
  heldSince : Option Nat
  runs : List Run
  deriving DecidableEq, Repr

/-- R135: tail until. -/
def Job.tailUntil (j : Job) : Option Nat := j.runs.getLast?.map Run.stop

/-- R149: a last result. -/
structure LastResult where
  tag : Nat
  reason : EndReason
  moved : Nat
  deriving DecidableEq, Repr

/-- Something each of the three ports has one of. -/
structure PerPort (α : Type) where
  main : α
  hub : α
  input : α
  deriving DecidableEq, Repr

def PerPort.get {α : Type} (x : PerPort α) : Port → α
  | .main => x.main
  | .hub => x.hub
  | .input => x.input

def PerPort.set {α : Type} (x : PerPort α) (p : Port) (v : α) : PerPort α :=
  match p with
  | .main => { x with main := v }
  | .hub => { x with hub := v }
  | .input => { x with input := v }

def PerPort.all {α : Type} (v : α) : PerPort α := { main := v, hub := v, input := v }

/-- R134: the balance engine, head of the queue first. `dieHot` is DIE_HOT as the protection monitor last reported it to the
engine (R138, R148): between a sample's tests and that report it may differ from the device fault set. -/
structure Balance where
  queue : List Job
  tagCounter : Nat
  last : PerPort (Option LastResult)
  dieHot : Bool
  deriving DecidableEq, Repr

/-! ### Hold control (chapter 08) -/

inductive HoldState where
  | off | pending | effective
  deriving DecidableEq, Repr

/-- R152: one port's part in the hold, with its entry checks (R155, log 16): whether a HOLD of the port that entered
PENDING still waits for its reply, and how many entry checks are due. -/
structure Holder where
  joined : Bool
  expiry : Timer
  unanswered : Bool
  due : Nat
  deriving DecidableEq, Repr

/-- R152: the hold control. -/
structure HoldCtl where
  state : HoldState
  holders : PerPort Holder
  view : LinkState
  deriving DecidableEq, Repr

/-! ### Ports (chapter 10) -/

/-- R195: the reply codes. -/
inductive ReplyCode where
  | ok | pending | notReady | unknown | badLength | notPermitted | badValue
  | full | overCap | notOwner | notFound | busy | inUse | refused
  deriving DecidableEq, Repr

/-- R195: a reply frame; its length byte is the payload's length. -/
structure Reply where
  code : ReplyCode
  payload : List Byte
  deriving DecidableEq, Repr

/-- R179: a port. `slot` is the request slot with the bytes of its frame; `handed` is the reply the owning block has handed
and the port has not placed yet (R182, log 4); `acks` is what the port acknowledged of the latest write transaction that
carried a byte: the address first, then each byte (R180, log 19). -/
structure PortState where
  slot : Option (List Byte)
  busy : Bool
  handed : Option Reply
  reply : Reply
  notices : NoticeBits
  mask : NoticeBits
  dormant : Bool
  dormancy : Timer
  acks : List Bool
  deriving DecidableEq, Repr

/-! ### Power-state control, settings (chapter 11) -/

inductive PowerState where
  | active | monitor | ship
  deriving DecidableEq, Repr

inductive Phase where
  | loading | running
  deriving DecidableEq, Repr

/-- R198: the power-state control, with the two lines it watches: the part's own supply and RSTn. -/
structure PowerCtl where
  state : PowerState
  phase : Phase
  copied : Bool
  holdOff : Timer
  supplied : Bool
  rstnLow : Bool
  deriving DecidableEq, Repr

/-- R206: the settings; the dormancy time is in seconds and the tenure in ms. -/
structure Settings where
  dormancy : Nat
  tenure : Nat
  autoStart : Bool
  slotA : Nat
  slotB : Nat
  deriving DecidableEq, Repr

/-- R199, R206: the one-time-programmed storage: settings and profile image as programmed. -/
structure Otp where
  settings : Settings
  profile : List RawStep
  deriving DecidableEq, Repr

/-! ### The whole part -/

/-- The state of the part. -/
structure State where
  pending : List Instr
  now : Nat
  freeUses : Nat
  power : PowerCtl
  present : Bool
  settings : Settings
  otp : Otp
  seq : Sequencer
  inputStage : Stage Nat
  pathA : PathA
  linkStage : Stage Flow
  table : ClaimTable
  input : InputCtl
  ceilings : List Ceiling
  alloc : Allocator
  profile : List StepRecord
  chA : Channel
  chB : Channel
  arb : Arbiter
  bal : Balance
  hold : HoldCtl
  prot : Protection
  ports : PerPort PortState
  deriving DecidableEq, Repr

/-- The faults a step could stop with. There is none: the manual gives every command an effect in every state, and a
fault of the part (chapter 09) is state. No meaning raises one, which is safe: nothing stops. -/
inductive Fault where
  deriving DecidableEq, Repr

/-- The refusals a step could stop with. -/
inductive Refusal where
  /-- Raised by an arm of `exec` whose command has no meaning yet; no arm is of this kind. Safe: the machine stops. -/
  | notModelled (mnemonic : String)
  deriving DecidableEq, Repr

/-- What a command answers. -/
abbrev Out := Host.Outcome State Fault Refusal

/-! ### Accessors -/

def State.channel (s : State) : Cell → Channel
  | .a => s.chA
  | .b => s.chB

def State.setChannel (s : State) (c : Cell) (ch : Channel) : State :=
  match c with
  | .a => { s with chA := ch }
  | .b => { s with chB := ch }

def State.port (s : State) (p : Port) : PortState := s.ports.get p

def State.setPort (s : State) (p : Port) (q : PortState) : State := { s with ports := s.ports.set p q }

def State.setPower (s : State) (x : PowerCtl) : State := { s with power := x }
def State.setSeq (s : State) (x : Sequencer) : State := { s with seq := x }
def State.setInput (s : State) (x : InputCtl) : State := { s with input := x }
def State.setTable (s : State) (x : ClaimTable) : State := { s with table := x }
def State.setAlloc (s : State) (x : Allocator) : State := { s with alloc := x }
def State.setArb (s : State) (x : Arbiter) : State := { s with arb := x }
def State.setBal (s : State) (x : Balance) : State := { s with bal := x }
def State.setHold (s : State) (x : HoldCtl) : State := { s with hold := x }
def State.setProt (s : State) (x : Protection) : State := { s with prot := x }
def State.setPathA (s : State) (x : PathA) : State := { s with pathA := x }

/-- The latest sample (R14). -/
def State.sample (s : State) : Sample := s.seq.latest.getD Sample.none

/-- The arbiter's holder (R116). -/
def Arbiter.holder (a : Arbiter) : Option Requester :=
  match a.link with
  | .held r => some r
  | .free => none
  | .changeover => none

/-! ### Reset values -/

/-- R206: the factory settings. -/
def Settings.factory : Settings := { dormancy := 10, tenure := 2000, autoStart := true, slotA := 0, slotB := 0 }

/-- R206: the factory profile image, slots 0 to 3. -/
def factorySteps : List RawStep :=
  [ { kind := 0, current := 200, volt := 3100, endCurrent := 0, duration := 0, timeout := 30, cold := 0, hot := 45, next := 1 },
    { kind := 1, current := 2000, volt := 4400, endCurrent := 0, duration := 0, timeout := 180, cold := 0, hot := 45, next := 2 },
    { kind := 2, current := 2000, volt := 4400, endCurrent := 100, duration := 0, timeout := 120, cold := 0, hot := 45, next := 3 },
    { kind := 4, current := 0, volt := 4300, endCurrent := 0, duration := 1440, timeout := 0, cold := 0, hot := 45, next := 1 } ]

/-- An END record as programmed. -/
def rawEnd : RawStep :=
  { kind := 5, current := 0, volt := 0, endCurrent := 0, duration := 0, timeout := 0, cold := 0, hot := 0, next := 0 }

/-- R206: the factory OTP, slots 4 to 47 holding END. -/
def Otp.factory : Otp := { settings := Settings.factory, profile := factorySteps ++ List.replicate 44 rawEnd }

/-- R23: the start-up claim. -/
def startUpClaim : Claim :=
  { id := 0, owner := .internal, cls := .essential, requested := Config.startUpAmount, floor := 0, grant := 0,
    standing := .deferred, admission := 0 }

/-- R89: the publication record after a reset. -/
def Publication.zero : Publication :=
  { count := 0, pConv := 0, pBud := 0, limit := .input, essential := 0, deficit := 0, elective := 0, pChg := 0, gA := 0,
    gB := 0, cA := 0, cB := 0, starvedA := false, starvedB := false, sA := 0, sB := 0, shortfall := 0, supply := false }

/-- R115: a channel after a reset. -/
def Channel.atReset : Channel :=
  { state := .idle, slot := none, timer := 0, run := 0, lastSetpoint := 0, reasons := Reasons.none, code := .none,
    published := 0, stale := true, presented := 0, request := false }

/-- R133: the arbiter after a reset. -/
def Arbiter.atReset (faultLock : Bool) : Arbiter :=
  { link := .free, waiting := { supply := false, chargeB := false, balance := false }, lastPair := none, tenure := none,
    tenureExpired := false, yieldPending := false, backoffChargeB := none, backoffBalance := none, faultLock := faultLock }

def CellFaults.none : CellFaults := { ov := false, hot := false, uv := false }
def DeviceFaults.none : DeviceFaults := { dieHot := false, inputOv := false, linkFault := false }

/-- R192: a port after a reset. -/
def PortState.atReset : PortState :=
  { slot := none, busy := false, handed := none, reply := { code := .notReady, payload := [] }, notices := 0, mask := 0,
    dormant := false, dormancy := none, acks := [] }

def Holder.out : Holder := { joined := false, expiry := none, unanswered := false, due := 0 }

/-- R63: the input controller after a reset that finds the comparator reading `present`. -/
def InputCtl.atReset (present : Bool) : InputCtl :=
  { state := if present then .dflt else .detached, held := none, pendingContract := none,
    droopLimit := Config.defaultCurrent, recovery := none, requester := none, reports := [] }

/-- R198: the machine right after a power-on reset, by the reset tables of R10, R39, R63, R89, R115, R133, R151, R165,
R178 and R192. VBUS is absent and RSTn released (log 1); the copy has not completed (log 2). -/
def State.reset : State :=
  { pending := []
    now := 0
    freeUses := 0
    power := { state := .active, phase := .loading, copied := false, holdOff := none, supplied := true, rstnLow := false }
    present := false
    settings := Settings.factory
    otp := Otp.factory
    seq := { running := true, lastArrival := 0, prevArrival := 0, nextArrival := Config.periodActive, latest := none, charge := 0 }
    inputStage := { target := 0, output := 0, ramping := false }
    pathA := { stage := { target := 0, output := 0, ramping := false }, supply := 0, bridge := false }
    linkStage := { target := Flow.zero, output := Flow.zero, ramping := false }
    table := { claims := [startUpClaim], nextAdmission := 1 }
    input := InputCtl.atReset false
    ceilings := []
    alloc := { pass := none, rerun := false, record := Publication.zero, published := false }
    profile := List.replicate Config.profileSlots StepRecord.ended
    chA := Channel.atReset
    chB := Channel.atReset
    arb := Arbiter.atReset false
    bal := { queue := [], tagCounter := 0, last := PerPort.all none, dieHot := false }
    hold := { state := .off, holders := PerPort.all Holder.out, view := .free }
    prot := { cellA := CellFaults.none, cellB := CellFaults.none, device := DeviceFaults.none, first := none, thermal := .none }
    ports := PerPort.all PortState.atReset }

end Sys2Proof.Machine
end

