-- ==== Sys2Proof/Machine/Operands.lean ====
section
/-! DEFINITION. Operand forms: the manual's rounding, byte order, the request table, the judgement and clamping of
parameters, samples, step records and settings. -/

namespace Sys2Proof.Machine

/-! ### Arithmetic (00 §6.2) -/

/-- A division rounded up. -/
def divUp (a b : Nat) : Nat := (a + b - 1) / b

/-- Rounded down to 10 mA. -/
def floorTen (n : Nat) : Nat := n / 10 * 10

/-- The value of n held within lo..hi. -/
def clampNat (lo hi n : Nat) : Nat := max lo (min hi n)

def clampInt (lo hi i : Int) : Int := max lo (min hi i)

/-- The distance between two voltages. -/
def gap (a b : Nat) : Nat := (a - b) + (b - a)

/-! ### Bytes (R193) -/

/-- n bytes of v, low byte first; the high bits that do not fit are dropped. -/
def bytesOf : Nat → Nat → List Byte
  | 0, _ => []
  | n + 1, v => BitVec.ofNat 8 v :: bytesOf n (v / 256)

/-- The number that bytes spell, low byte first. -/
def numberOf : List Byte → Nat
  | [] => 0
  | b :: rest => b.toNat + 256 * numberOf rest

/-- A signed field of n bytes in two's complement. -/
def signedBytesOf (n : Nat) (i : Int) : List Byte := bytesOf n (i % (256 ^ n : Nat)).toNat

/-- The signed number that one byte spells. -/
def signedByte (b : Byte) : Int := b.toInt

/-- A set field: bit 0 first, in the order listed. -/
def bitsOf : List Bool → Nat
  | [] => 0
  | b :: rest => b.toNat + 2 * bitsOf rest

/-! ### Orders that the manual leaves open (log 9) -/

/-- `x` put at place i of a list. -/
def insertAt {α : Type} (x : α) (i : Nat) (l : List α) : List α := l.take i ++ x :: l.drop i

/-- The order that the number k names among the orders of a list; order 0 is the list as it stands. -/
def arrange {α : Type} : Nat → List α → List α
  | _, [] => []
  | k, x :: rest => insertAt x (k % (rest.length + 1)) (arrange (k / (rest.length + 1)) rest)

/-! ### The request table (R194) -/

/-- The 24 requests. -/
inductive Request where
  | statusRead | noticeRead | noticeMask | portReset | claim | amend | release | claimRead | ceilPush | ceilPop | hold
  | unhold | chStart | chStop | stepWrite | stepRead | balQueue | balCancel | contractSet | inputRelease | inputResume
  | faultClear | shipEnter | deviceReset
  deriving DecidableEq, Repr

/-- R194: the request's code. -/
def Request.code : Request → Nat
  | .statusRead => 0x01
  | .noticeRead => 0x02
  | .noticeMask => 0x03
  | .portReset => 0x04
  | .claim => 0x10
  | .amend => 0x11
  | .release => 0x12
  | .claimRead => 0x13
  | .ceilPush => 0x18
  | .ceilPop => 0x19
  | .hold => 0x1C
  | .unhold => 0x1D
  | .chStart => 0x20
  | .chStop => 0x21
  | .stepWrite => 0x22
  | .stepRead => 0x23
  | .balQueue => 0x28
  | .balCancel => 0x29
  | .contractSet => 0x30
  | .inputRelease => 0x31
  | .inputResume => 0x32
  | .faultClear => 0x38
  | .shipEnter => 0x3C
  | .deviceReset => 0x3D

/-- R194: the request's payload length. -/
def Request.length : Request → Nat
  | .noticeMask => 2
  | .claim => 5
  | .amend => 5
  | .release => 1
  | .claimRead => 1
  | .ceilPush => 4
  | .chStart => 2
  | .chStop => 1
  | .stepWrite => 15
  | .stepRead => 1
  | .balQueue => 7
  | .balCancel => 1
  | .contractSet => 4
  | .faultClear => 1
  | .statusRead => 0
  | .noticeRead => 0
  | .portReset => 0
  | .ceilPop => 0
  | .hold => 0
  | .unhold => 0
  | .inputRelease => 0
  | .inputResume => 0
  | .shipEnter => 0
  | .deviceReset => 0

/-- The ports a request may be sent from. -/
inductive Ports where
  | all | mainHub | inputOnly | mainOnly
  deriving DecidableEq, Repr

def Ports.allows : Ports → Port → Bool
  | .all, _ => true
  | .mainHub, p => p != .input
  | .inputOnly, p => p == .input
  | .mainOnly, p => p == .main

/-- R194: the ports the table allows a request from. -/
def Request.ports : Request → Ports
  | .statusRead => .all
  | .noticeRead => .all
  | .noticeMask => .all
  | .portReset => .all
  | .claim => .all
  | .amend => .all
  | .release => .all
  | .claimRead => .all
  | .ceilPush => .all
  | .ceilPop => .all
  | .hold => .all
  | .unhold => .all
  | .chStart => .mainHub
  | .chStop => .mainHub
  | .stepWrite => .mainHub
  | .stepRead => .mainHub
  | .balQueue => .mainHub
  | .balCancel => .mainHub
  | .contractSet => .inputOnly
  | .inputRelease => .mainHub
  | .inputResume => .mainHub
  | .faultClear => .mainHub
  | .shipEnter => .mainOnly
  | .deviceReset => .mainOnly

/-- Every request, in the table's order. -/
def Request.every : List Request :=
  [.statusRead, .noticeRead, .noticeMask, .portReset, .claim, .amend, .release, .claimRead, .ceilPush, .ceilPop, .hold,
   .unhold, .chStart, .chStop, .stepWrite, .stepRead, .balQueue, .balCancel, .contractSet, .inputRelease, .inputResume,
   .faultClear, .shipEnter, .deviceReset]

/-- The request a code names (R181 step 3). -/
def Request.ofCode (n : Nat) : Option Request := Request.every.find? (fun r => r.code == n)

/-- R181 step 4: the length byte is there, and is both the request's payload length and the number of bytes carried. -/
def Framing.fits (fr : Framing) (r : Request) : Bool :=
  fr.lengthByte == some r.length && fr.carried == r.length

/-! ### Enumerated fields (R193, R194, R197) -/

def classOf : Nat → Option ClaimClass
  | 0 => some .essential
  | 1 => some .elective
  | _ => none

def cellOf : Nat → Option Cell
  | 0 => some .a
  | 1 => some .b
  | _ => none

def directionOf : Nat → Option Direction
  | 0 => some .aToB
  | 1 => some .bToA
  | 2 => some .towardLower
  | _ => none

def modeOf : Nat → Option Mode
  | 0 => some .count
  | 1 => some .untilLevel
  | _ => none

def stepKindOf : Nat → Option StepKind
  | 0 => some .precharge
  | 1 => some .current
  | 2 => some .voltage
  | 3 => some .topoff
  | 4 => some .rest
  | 5 => some .endStep
  | _ => none

/-- R175: what a FAULT_CLEAR names. -/
inductive ClearTarget where
  | cell (c : Cell) | link
  deriving DecidableEq, Repr

def clearTargetOf : Nat → Option ClearTarget
  | 0 => some (.cell .a)
  | 1 => some (.cell .b)
  | 2 => some .link
  | _ => none

/-! ### Claims (R20, R26) -/

/-- R20 steps 2 to 4, R26 step 4: the amounts judged for a class, and clamped. -/
def judgeAmounts (cls : ClaimClass) (requested floor : Nat) : Option (Nat × Nat) :=
  if requested = 0 then none
  else
    let amount := min requested Config.requestedMax
    match cls with
    | .essential => some (amount, 0)
    | .elective => if floor = 0 then none else some (amount, min floor amount)

/-! ### Step records (R91, R111, R199) -/

/-- R91: which fields a kind carries. -/
def StepKind.carriesCurrent : StepKind → Bool
  | .precharge => true
  | .current => true
  | .voltage => true
  | .topoff => true
  | .rest => false
  | .endStep => false

def StepKind.carriesDuration : StepKind → Bool
  | .topoff => true
  | .rest => true
  | .precharge => false
  | .current => false
  | .voltage => false
  | .endStep => false

def StepKind.carriesTimeout : StepKind → Bool
  | .precharge => true
  | .current => true
  | .voltage => true
  | .topoff => false
  | .rest => false
  | .endStep => false

/-- R92: the charging kinds are the ones that carry a current. -/
def StepKind.charging (k : StepKind) : Bool := k.carriesCurrent

/-- R111: the current recorded, or none where it is refused; 0 where the kind carries none. -/
def judgeCurrent (k : StepKind) (n : Nat) : Option Nat :=
  if k.carriesCurrent then (if floorTen n < 10 then none else some (min (floorTen n) 4000)) else some 0

def judgeVolt (k : StepKind) (n : Nat) : Option Nat :=
  if k = .endStep then some 0 else if n < 3000 then none else some (min n 4450)

def judgeEndCurrent (k : StepKind) (n : Nat) : Option Nat :=
  if k = .voltage then (if n < 20 || 1000 < n then none else some n) else some 0

def judgeDuration (k : StepKind) (n : Nat) : Option Nat :=
  if k.carriesDuration then (if n = 0 then none else some (min n 1440)) else some 0

def judgeTimeout (k : StepKind) (n : Nat) : Nat := if k.carriesTimeout then min n 1440 else 0

def judgeWindow (k : StepKind) (cold hot : Int) : Option (Int × Int) :=
  if k = .endStep then some (0, 0)
  else if cold < -20 || 60 < cold || hot < -20 || 60 < hot || hot ≤ cold then none
  else some (cold, hot)

def judgeNext (k : StepKind) (n : Nat) : Option Nat :=
  if k = .endStep then some 0 else if Config.profileSlots ≤ n then none else some n

/-- R111 steps 3 and 4: the record that STEP_WRITE records, or none where it is refused BAD_VALUE. -/
def judgeStep (r : RawStep) : Option StepRecord := do
  let k ← stepKindOf r.kind
  let current ← judgeCurrent k r.current
  let volt ← judgeVolt k r.volt
  let endCurrent ← judgeEndCurrent k r.endCurrent
  let duration ← judgeDuration k r.duration
  let window ← judgeWindow k r.cold r.hot
  let next ← judgeNext k r.next
  some { kind := k, current := current, volt := volt, endCurrent := endCurrent, duration := duration,
         timeout := judgeTimeout k r.timeout, cold := window.1, hot := window.2, next := next }

/-- R199: a slot of the image as loaded; a record that STEP_WRITE would refuse, or an absent one, is END. -/
def loadStep (image : List RawStep) (n : Nat) : StepRecord :=
  match image[n]? with
  | some r => (judgeStep r).getD StepRecord.ended
  | none => StepRecord.ended

/-- R199: profile memory as the copy loads it. -/
def loadProfile (image : List RawStep) : List StepRecord := (List.range Config.profileSlots).map (loadStep image)

/-- R199, R206: each setting at the nearer end of its range. -/
def loadSettings (x : Settings) : Settings :=
  { dormancy := min x.dormancy 60, tenure := clampNat 250 8000 x.tenure, autoStart := x.autoStart,
    slotA := min x.slotA 47, slotB := min x.slotB 47 }

/-! ### Samples (R12, R13) -/

/-- R12: the sample of what was measured, each quantity at the nearer end of its range, and the link charge as given. -/
def Sample.ofMeasured (m : RawSample) (charge : Nat) : Sample :=
  { vA := (clampInt 0 5000 m.vA).toNat
    vB := (clampInt 0 5000 m.vB).toNat
    iA := clampInt (-8000) 8000 m.iA
    iB := clampInt (-8000) 8000 m.iB
    tA := clampInt (-400) 1500 m.tA
    tB := clampInt (-400) 1500 m.tB
    vIn := (clampInt 0 25000 m.vIn).toNat
    tDie := clampInt (-40) 150 m.tDie
    linkCurrent := min m.linkCurrent 4000
    linkCharge := charge }

def Sample.volt (x : Sample) : Cell → Nat
  | .a => x.vA
  | .b => x.vB

def Sample.amps (x : Sample) : Cell → Int
  | .a => x.iA
  | .b => x.iB

def Sample.temp (x : Sample) : Cell → Int
  | .a => x.tA
  | .b => x.tB

/-! ### Balance jobs (R137) -/

def judgeRate (n : Nat) : Nat := clampNat Config.rateMin Config.rateMax n

/-- R137 step 4. -/
def judgeTolerance (d : Direction) (m : Mode) (n : Nat) : Option Nat :=
  if m = .untilLevel || d = .towardLower then some (clampNat Config.toleranceMin Config.toleranceMax n) else none

end Sys2Proof.Machine
end

