-- ==== Sys2Proof/Decode.lean ====
section
/-! DEFINITION. Decoding: the table's words, of which there are none, and the request frames of R193 and R194, bytes to
commands and back. -/

namespace Sys2Proof

/-- The command that a word of the opcode table spells. No row of the table gives bits: there is no such word. -/
def decodeTableWord (_nbits _w : Nat) : Option Instr := none

open Sys2Proof.Machine

/-! ### Fields of a payload (R193) -/

/-- The unsigned field of n bytes at an offset; bytes that are not there read as 0. -/
def fieldAt (l : List Byte) (offset n : Nat) : Nat := numberOf ((l.drop offset).take n)

/-- The signed byte at an offset. -/
def signedAt (l : List Byte) (offset : Nat) : Int := signedByte (l.getD offset 0)

/-- R197: the step record at an offset of a payload. -/
def rawStepAt (l : List Byte) (o : Nat) : RawStep :=
  { kind := fieldAt l o 1, current := fieldAt l (o + 1) 2, volt := fieldAt l (o + 3) 2, endCurrent := fieldAt l (o + 5) 2,
    duration := fieldAt l (o + 7) 2, timeout := fieldAt l (o + 9) 2, cold := signedAt l (o + 11), hot := signedAt l (o + 12),
    next := fieldAt l (o + 13) 1 }

/-! ### Frames to commands -/

/-- The request r at port p with the payload l. `order` names the order of the blocks where the command has one
(log 9). Where the framing is wrong the parameters are not judged, and read as what bytes there are. -/
def commandOf (p : Port) (order : Nat) (fr : Framing) (l : List Byte) : Request → Instr
  | .statusRead => .statusRead p fr
  | .noticeRead => .noticeRead p fr
  | .noticeMask => .noticeMask p fr (fieldAt l 0 2)
  | .portReset => .portReset p fr order
  | .claim => .claim p fr (fieldAt l 0 1) (fieldAt l 1 2) (fieldAt l 3 2)
  | .amend => .amend p fr (fieldAt l 0 1) (fieldAt l 1 2) (fieldAt l 3 2)
  | .release => .release p fr (fieldAt l 0 1)
  | .claimRead => .claimRead p fr (fieldAt l 0 1)
  | .ceilPush => .ceilPush p fr (fieldAt l 0 4)
  | .ceilPop => .ceilPop p fr
  | .hold => .hold p fr
  | .unhold => .unhold p fr order
  | .chStart => .chStart p fr (fieldAt l 0 1) (fieldAt l 1 1)
  | .chStop => .chStop p fr (fieldAt l 0 1)
  | .stepWrite => .stepWrite p fr (fieldAt l 0 1) (rawStepAt l 1)
  | .stepRead => .stepRead p fr (fieldAt l 0 1)
  | .balQueue => .balQueue p fr (fieldAt l 0 1) (fieldAt l 1 1) (fieldAt l 2 2) (fieldAt l 4 2) (fieldAt l 6 1)
  | .balCancel => .balCancel p fr (fieldAt l 0 1)
  | .contractSet => .contractSet p fr (fieldAt l 0 2) (fieldAt l 2 2)
  | .inputRelease => .inputRelease p fr
  | .inputResume => .inputResume p fr
  | .faultClear => .faultClear p fr (fieldAt l 0 1)
  | .shipEnter => .shipEnter p fr
  | .deviceReset => .deviceReset p fr

/-- R180, R194: the framing of the request r in a frame whose code is followed by the bytes written; the frame holds the
first 30 of those that follow the length byte. -/
def framingOf (r : Request) : List Byte → Framing
  | [] => { lengthByte := none, carried := 0, stray := [] }
  | n :: payload =>
    let carried := min payload.length (Config.frameBytes - 2)
    if n.toNat = r.length && carried = r.length then Framing.ofLength r.length
    else { lengthByte := some n.toNat, carried := carried, stray := payload }

/-- R180, R181, R194: the command that a write transaction of these bytes is. A transaction without bytes takes no frame;
the parameters are read from the first 32 bytes. -/
def decodeFrame (p : Port) (order : Nat) (bytes : List Byte) : Option Instr :=
  match bytes with
  | [] => none
  | code :: written =>
    match Request.ofCode code.toNat with
    | none => some (.unknownRequestFrame p bytes)
    | some r => some (commandOf p order (framingOf r written) ((written.take (Config.frameBytes - 1)).drop 1) r)

/-- R179: the command that a write transaction to a target address is; a port answers at its own address alone. -/
def decodeWrite (p : Port) (order address : Nat) (bytes : List Byte) : Option Instr :=
  if address = Config.targetAddress then decodeFrame p order bytes else none

/-! ### Commands to frames -/

/-- R197: the 14 bytes of a step record as a request carries it. -/
def rawStepBytes (r : RawStep) : List Byte :=
  bytesOf 1 r.kind ++ bytesOf 2 r.current ++ bytesOf 2 r.volt ++ bytesOf 2 r.endCurrent ++ bytesOf 2 r.duration
    ++ bytesOf 2 r.timeout ++ signedBytesOf 1 r.cold ++ signedBytesOf 1 r.hot ++ bytesOf 1 r.next

/-- R194: the frame of a request whose framing fits it. -/
def frameOf (r : Request) (payload : List Byte) : Option (List Byte) :=
  some (bytesOf 1 r.code ++ bytesOf 1 r.length ++ payload)

/-- R194: the frame that a request command spells, with the framing the request table gives, and the bytes of a frame
whose code names no request; none for the other commands. -/
def encodeFrame : Instr → Option (List Byte)
  | .statusRead _ _ => frameOf .statusRead []
  | .noticeRead _ _ => frameOf .noticeRead []
  | .noticeMask _ _ mask => frameOf .noticeMask (bytesOf 2 mask)
  | .portReset _ _ _ => frameOf .portReset []
  | .claim _ _ cls requested floor => frameOf .claim (bytesOf 1 cls ++ bytesOf 2 requested ++ bytesOf 2 floor)
  | .amend _ _ id requested floor => frameOf .amend (bytesOf 1 id ++ bytesOf 2 requested ++ bytesOf 2 floor)
  | .release _ _ id => frameOf .release (bytesOf 1 id)
  | .claimRead _ _ id => frameOf .claimRead (bytesOf 1 id)
  | .ceilPush _ _ ceiling => frameOf .ceilPush (bytesOf 4 ceiling)
  | .ceilPop _ _ => frameOf .ceilPop []
  | .hold _ _ => frameOf .hold []
  | .unhold _ _ _ => frameOf .unhold []
  | .chStart _ _ cell slot => frameOf .chStart (bytesOf 1 cell ++ bytesOf 1 slot)
  | .chStop _ _ cell => frameOf .chStop (bytesOf 1 cell)
  | .stepWrite _ _ slot r => frameOf .stepWrite (bytesOf 1 slot ++ rawStepBytes r)
  | .stepRead _ _ slot => frameOf .stepRead (bytesOf 1 slot)
  | .balQueue _ _ direction mode count rate tolerance =>
    frameOf .balQueue (bytesOf 1 direction ++ bytesOf 1 mode ++ bytesOf 2 count ++ bytesOf 2 rate ++ bytesOf 1 tolerance)
  | .balCancel _ _ tag => frameOf .balCancel (bytesOf 1 tag)
  | .contractSet _ _ voltage current => frameOf .contractSet (bytesOf 2 voltage ++ bytesOf 2 current)
  | .inputRelease _ _ => frameOf .inputRelease []
  | .inputResume _ _ => frameOf .inputResume []
  | .faultClear _ _ target => frameOf .faultClear (bytesOf 1 target)
  | .shipEnter _ _ => frameOf .shipEnter []
  | .deviceReset _ _ => frameOf .deviceReset []
  | .unknownRequestFrame _ bytes => some bytes
  | .frameTurnedAway _ => none
  | .powerOnReset _ => none
  | .rstnAssert => none
  | .rstnRelease => none
  | .attach _ => none
  | .detach => none
  | .wakePress _ => none
  | .sampleArrival _ _ => none
  | .recoveryTimerExpiry => none
  | .dormancyExpiry _ => none
  | .tenureExpiry => none
  | .backoffExpiry _ => none
  | .holdExpiry _ _ => none
  | .monitorHoldOffExpiry => none
  | .stepTimeout _ => none
  | .stepDurationEnd _ => none
  | .inputStageSettled => none
  | .cellAPathSettled => none
  | .hingeLinkSettled _ => none
  | .publication _ => none
  | .copyComplete => none
  | .holdEntryCheck _ => none
  | .inputOvReport => none
  | .ownSupplyLoss => none
  | .replyPlaced _ => none

/-- The port, the request and the framing of a request command. -/
def requestOf : Instr → Option (Port × Request × Framing)
  | .statusRead p fr => some (p, .statusRead, fr)
  | .noticeRead p fr => some (p, .noticeRead, fr)
  | .noticeMask p fr _ => some (p, .noticeMask, fr)
  | .portReset p fr _ => some (p, .portReset, fr)
  | .claim p fr _ _ _ => some (p, .claim, fr)
  | .amend p fr _ _ _ => some (p, .amend, fr)
  | .release p fr _ => some (p, .release, fr)
  | .claimRead p fr _ => some (p, .claimRead, fr)
  | .ceilPush p fr _ => some (p, .ceilPush, fr)
  | .ceilPop p fr => some (p, .ceilPop, fr)
  | .hold p fr => some (p, .hold, fr)
  | .unhold p fr _ => some (p, .unhold, fr)
  | .chStart p fr _ _ => some (p, .chStart, fr)
  | .chStop p fr _ => some (p, .chStop, fr)
  | .stepWrite p fr _ _ => some (p, .stepWrite, fr)
  | .stepRead p fr _ => some (p, .stepRead, fr)
  | .balQueue p fr _ _ _ _ _ => some (p, .balQueue, fr)
  | .balCancel p fr _ => some (p, .balCancel, fr)
  | .contractSet p fr _ _ => some (p, .contractSet, fr)
  | .inputRelease p fr => some (p, .inputRelease, fr)
  | .inputResume p fr => some (p, .inputResume, fr)
  | .faultClear p fr _ => some (p, .faultClear, fr)
  | .shipEnter p fr => some (p, .shipEnter, fr)
  | .deviceReset p fr => some (p, .deviceReset, fr)
  | .unknownRequestFrame _ _ => none
  | .frameTurnedAway _ => none
  | .powerOnReset _ => none
  | .rstnAssert => none
  | .rstnRelease => none
  | .attach _ => none
  | .detach => none
  | .wakePress _ => none
  | .sampleArrival _ _ => none
  | .recoveryTimerExpiry => none
  | .dormancyExpiry _ => none
  | .tenureExpiry => none
  | .backoffExpiry _ => none
  | .holdExpiry _ _ => none
  | .monitorHoldOffExpiry => none
  | .stepTimeout _ => none
  | .stepDurationEnd _ => none
  | .inputStageSettled => none
  | .cellAPathSettled => none
  | .hingeLinkSettled _ => none
  | .publication _ => none
  | .copyComplete => none
  | .holdEntryCheck _ => none
  | .inputOvReport => none
  | .ownSupplyLoss => none
  | .replyPlaced _ => none

/-- R194: the bytes written after the code of a request whose framing does not fit it. -/
def Framing.written (fr : Framing) : List Byte :=
  match fr.lengthByte with
  | some n => bytesOf 1 n ++ fr.stray
  | none => []

/-- R180: every byte that a frame's write transaction wrote after the address. -/
def writtenBytes (i : Instr) : List Byte :=
  match requestOf i with
  | some (_, r, fr) => if Machine.Framing.fits fr r then (encodeFrame i).getD [] else bytesOf 1 r.code ++ fr.written
  | none => (encodeFrame i).getD []

end Sys2Proof
end

