-- ==== Sys2Proof/Machine/Flags.lean ====
section
/-! DEFINITION. Flags and conditions: notice kinds and the attention line, the fault conditions, the thermal state, the
limit reasons and the window test. -/

namespace Sys2Proof.Machine

/-! ### Notices (R184, R186, R187, R194) -/

/-- The 13 notice kinds. -/
inductive Notice where
  | grant | deficit | shortfall | holdEffective | holdExpired | balDone | chStep | chEnd | contract | droop
  | inputReleased | fault | ready
  deriving DecidableEq, Repr

/-- R194: the kind's bit. -/
def Notice.bit : Notice → Nat
  | .grant => 0
  | .deficit => 1
  | .shortfall => 2
  | .holdEffective => 3
  | .holdExpired => 4
  | .balDone => 5
  | .chStep => 6
  | .chEnd => 7
  | .contract => 8
  | .droop => 9
  | .inputReleased => 10
  | .fault => 11
  | .ready => 12

/-- The set that holds one kind. -/
def Notice.only (k : Notice) : NoticeBits := BitVec.ofNat 13 (2 ^ k.bit)

/-- R184: whether a set holds a kind. -/
def holdsNotice (k : Notice) (set : NoticeBits) : Bool := set.getLsbD k.bit

/-- R186: the mask that a NOTICE_MASK records; bits that name no kind are dropped. -/
def maskOf (field : Nat) : NoticeBits := BitVec.ofNat 13 field

/-- R187: whether a port's notice set and mask assert its attention line. -/
def PortState.attention (q : PortState) : Bool := (q.notices &&& ~~~q.mask) != 0

/-- R187, R198: the attention line as the processor sees it; a part without supply pulls no line. -/
def State.attention (s : State) (p : Port) : Bool := s.power.supplied && (s.port p).attention

/-! ### Faults (R166, R167, R169, R175) -/

def Protection.cell (x : Protection) : Cell → CellFaults
  | .a => x.cellA
  | .b => x.cellB

def Protection.setCell (x : Protection) (c : Cell) (f : CellFaults) : Protection :=
  match c with
  | .a => { x with cellA := f }
  | .b => { x with cellB := f }

/-- R166: a cell holds a latched fault. -/
def CellFaults.latched (f : CellFaults) : Bool := f.ov || f.hot

def CellFaults.any (f : CellFaults) : Bool := f.ov || f.hot || f.uv
def DeviceFaults.any (f : DeviceFaults) : Bool := f.dieHot || f.inputOv || f.linkFault

/-- R169: some fault set is not empty. -/
def Protection.anyFault (x : Protection) : Bool := x.cellA.any || x.cellB.any || x.device.any

def State.latched (s : State) (c : Cell) : Bool := (s.prot.cell c).latched
/-- R166: a cell under CELL_UV is isolated. -/
def State.isolated (s : State) (c : Cell) : Bool := (s.prot.cell c).uv

def placeOf : Cell → FaultPlace
  | .a => .cellA
  | .b => .cellB

/-- R60, R172: the thermal state that a die temperature gives after the DIE_HOT test. -/
def thermalOf (dieHot : Bool) (t : Int) : Thermal :=
  if dieHot || Config.shutdownAt ≤ t then .zero
  else if Config.derateFrom ≤ t then .derating t.toNat
  else .none

/-! ### The tests of a sample (R167, R169, R172) -/

/-- R169: the sets become those of `after`; a raise that finds all the sets empty is the first fault. -/
def Protection.take (x : Protection) (raised : Bool) (k : FaultKind) (place : FaultPlace) (after : Protection) : Protection :=
  { after with first := if raised && !x.anyFault then some (k, place) else x.first }

/-- R167: CELL_OV. -/
def Protection.testOv (c : Cell) (v : Nat) (x : Protection) : Protection :=
  let f := x.cell c
  let ov := decide (Config.cellOvAt ≤ v)
  x.take (ov && !f.ov) .cellOv (placeOf c) (x.setCell c { f with ov := f.ov || ov })

/-- R167: CELL_HOT. -/
def Protection.testHot (c : Cell) (t : Int) (x : Protection) : Protection :=
  let f := x.cell c
  let hot := decide (Config.cellHotAt ≤ t)
  x.take (hot && !f.hot) .cellHot (placeOf c) (x.setCell c { f with hot := f.hot || hot })

/-- R167, R171: CELL_UV, raised and cleared. -/
def Protection.testUv (c : Cell) (v : Nat) (x : Protection) : Protection :=
  let f := x.cell c
  let uv := if f.uv then decide (v < Config.cellUvClearAt) else decide (v < Config.cellUvBelow)
  x.take (uv && !f.uv) .cellUv (placeOf c) (x.setCell c { f with uv := uv })

/-- R167, R172: DIE_HOT, raised and cleared. -/
def Protection.testDieHot (t : Int) (x : Protection) : Protection :=
  let f := x.device
  let hot := if f.dieHot then decide (Config.dieHotClearBelow ≤ t) else decide (Config.dieHotAt ≤ t)
  x.take (hot && !f.dieHot) .dieHot .device { x with device := { f with dieHot := hot } }

/-- R167, R174: LINK_FAULT. -/
def Protection.testLink (current : Nat) (x : Protection) : Protection :=
  let f := x.device
  let fault := decide (Config.linkFaultAbove < current)
  x.take (fault && !f.linkFault) .linkFault .device { x with device := { f with linkFault := f.linkFault || fault } }

/-- R167, R172: the monitor's state after a sample: its tests in the order of its table, then the thermal state. -/
def Protection.judged (y : Sample) (x : Protection) : Protection :=
  let x := (x.testOv .a y.vA).testOv .b y.vB
  let x := (x.testHot .a y.tA).testHot .b y.tB
  let x := (x.testUv .a y.vA).testUv .b y.vB
  let x := (x.testDieHot y.tDie).testLink y.linkCurrent
  { x with thermal := thermalOf x.device.dieHot y.tDie }

/-- R170: a latched fault has entered a cell's set. -/
def CellFaults.latches (old new : CellFaults) : Bool := (new.ov && !old.ov) || (new.hot && !old.hot)

/-- R168: some fault has entered the sets. -/
def Protection.gains (old new : Protection) : Bool :=
  old.cellA.latches new.cellA || old.cellB.latches new.cellB || (new.cellA.uv && !old.cellA.uv)
    || (new.cellB.uv && !old.cellB.uv) || (new.device.dieHot && !old.device.dieHot)
    || (new.device.inputOv && !old.device.inputOv) || (new.device.linkFault && !old.device.linkFault)

/-- R169, R173: the monitor's state with INPUT_OV as a report leaves it. -/
def Protection.testInputOv (high : Bool) (x : Protection) : Protection :=
  x.take (high && !x.device.inputOv) .inputOv .device { x with device := { x.device with inputOv := high } }

/-! ### Input tests (R51, R54) -/

/-- R40: the contract in force. -/
def InputCtl.inForce (x : InputCtl) : Contract :=
  x.held.getD { voltage := Config.defaultVoltage, current := Config.defaultCurrent }

/-- R41, R47: the input is DEFAULT or CONTRACTED. -/
def InputState.drawing : InputState → Bool
  | .dflt => true
  | .contracted => true
  | .detached => false
  | .releasing => false
  | .released => false

/-- R51: the sample is a droop. -/
def InputCtl.droops (x : InputCtl) (vIn : Nat) : Bool :=
  x.state.drawing && decide (vIn < x.inForce.voltage * 9 / 10)

/-- R54: the reference voltage of the over-voltage test. -/
def InputCtl.reference (x : InputCtl) : Nat :=
  if x.state.drawing then x.inForce.voltage
  else (x.pendingContract.map Contract.voltage).getD x.inForce.voltage

/-- R54: the report of a sample: over-voltage, or within limit. -/
def InputCtl.overVoltage (x : InputCtl) (vIn : Nat) : Bool :=
  x.state != .detached && decide (x.reference * 11 / 10 < vIn)

/-! ### Limit reasons (R94, R97, R99) -/

/-- R97: a reason other than STARVED is held. -/
def Reasons.stopsDemand (r : Reasons) : Bool :=
  r.hold || r.temp || r.noInput || r.noLink || r.deficit || r.dieHot

/-- R99: a reason other than NO_LINK and STARVED is held. -/
def Reasons.stopsRequest (r : Reasons) : Bool := r.hold || r.temp || r.noInput || r.deficit || r.dieHot

/-- R96: a cell temperature in tenths lies outside a window in whole degrees. -/
def outsideWindow (cold hot t : Int) : Bool := decide (t < cold * 10) || decide (hot * 10 ≤ t)

/-! ### Bits of records (R193, R196) -/

def CellFaults.bits (f : CellFaults) : Nat := bitsOf [f.ov, f.hot, f.uv]
def DeviceFaults.bits (f : DeviceFaults) : Nat := bitsOf [f.dieHot, f.inputOv, f.linkFault]
def Reasons.bits (r : Reasons) : Nat := bitsOf [r.hold, r.temp, r.noInput, r.noLink, r.deficit, r.dieHot, r.starved]
def Waiting.bits (w : Waiting) : Nat := bitsOf [w.supply, w.chargeB, w.balance]

end Sys2Proof.Machine
end

