-- ==== Sys2Proof/Machine/Chain.lean ====
section
/-! DEFINITION. A channel on its own: demand and presented setpoint, step entry, exits, timeouts and the walk of a step
chain (chapter 05), as functions of the channel, the profile memory and one sample. -/

namespace Sys2Proof.Machine

/-- R90: the record a slot holds. -/
def recordAt (profile : List StepRecord) (n : Nat) : StepRecord := profile.getD n StepRecord.ended

/-- The present step's record; a channel without a present slot has none, read here as END. -/
def Channel.step (profile : List StepRecord) (ch : Channel) : StepRecord :=
  match ch.slot with
  | some n => recordAt profile n
  | none => StepRecord.ended

/-- R97: channel B's demand is capped. -/
def capDemand : Cell → Nat → Nat
  | .a, n => n
  | .b, n => min n Config.demandBMax

/-- R97: the channel's demand. -/
def Channel.demand (c : Cell) (profile : List StepRecord) (ch : Channel) : Nat :=
  if ch.state == .active && (ch.step profile).kind.charging && !ch.reasons.stopsDemand then
    capDemand c (ch.step profile).current
  else 0

/-- R98: the presented setpoint worked out afresh. -/
def Channel.represent (c : Cell) (profile : List StepRecord) (ch : Channel) : Channel :=
  { ch with presented := min ch.published (ch.demand c profile) }

/-- R98: the regulation voltage presented with the setpoint. -/
def Channel.regulation (profile : List StepRecord) (ch : Channel) : Option Nat :=
  if ch.presented = 0 then none
  else match (ch.step profile).kind with
    | .voltage => some (ch.step profile).volt
    | .topoff => some (ch.step profile).volt
    | .precharge => none
    | .current => none
    | .rest => none
    | .endStep => none

/-- R99: channel B wants the link. -/
def Channel.wantsLink (profile : List StepRecord) (ch : Channel) : Bool :=
  ch.state == .active && (ch.step profile).kind.charging && !ch.reasons.stopsRequest

/-- R95, R96: TEMP judged for the present step's window. -/
def Channel.judgeTemp (c : Cell) (profile : List StepRecord) (x : Sample) (ch : Channel) : Channel :=
  { ch with reasons := { ch.reasons with
      temp := outsideWindow (ch.step profile).cold (ch.step profile).hot (x.temp c) } }

/-- R102: the exit of a step, for a cell voltage, a step timer and an end-current run. -/
def exitHolds (r : StepRecord) (v timer run : Nat) : Bool :=
  match r.kind with
  | .precharge => decide (r.volt ≤ v)
  | .current => decide (r.volt ≤ v)
  | .voltage => decide (Config.taperRun ≤ run)
  | .topoff => decide (r.duration * Config.samplesPerMinute ≤ timer)
  | .rest => decide (v < r.volt) || decide (r.duration * Config.samplesPerMinute ≤ timer)
  | .endStep => false

/-- R103: the timeout of a step is exceeded. -/
def timeoutHolds (r : StepRecord) (timer : Nat) : Bool :=
  r.kind.carriesTimeout && r.timeout != 0 && decide (r.timeout * Config.samplesPerMinute < timer)

/-- R105: leaving ACTIVE. -/
def Channel.leave (ch : Channel) (st : ChannelState) : Channel :=
  { ch with state := st, reasons := Reasons.none, stale := true, presented := 0 }

/-- R103, R107, R108: entering FAULT with a code; the present slot stays. -/
def Channel.fail (ch : Channel) (code : ChannelFault) : Channel := { ch.leave .fault with code := code }

/-- R106: a slot that does not hold END becomes the present slot. -/
def Channel.enter (c : Cell) (profile : List StepRecord) (x : Sample) (n : Nat) (ch : Channel) : Channel :=
  let ch := (({ ch with slot := some n, timer := 0, run := 0 }).judgeTemp c profile x).represent c profile
  { ch with lastSetpoint := ch.presented }

/-- R106, R107: the walk that enters a slot, with the number of entries it may still make. -/
def Channel.walk (c : Cell) (profile : List StepRecord) (x : Sample) : Nat → Nat → Channel → Channel
  | 0, _, ch => ch.fail .chainLoop
  | k + 1, n, ch =>
    if (recordAt profile n).kind = .endStep then { ch.leave .done with slot := some n }
    else
      let ch := ch.enter c profile x n
      if exitHolds (recordAt profile n) (x.volt c) ch.timer ch.run then
        Channel.walk c profile x k (recordAt profile n).next ch
      else ch

/-- What one event of a channel comes to: the channel after it, whether it entered a step (R106), whether it entered
DONE or FAULT (R105), and whether it raises a pass trigger. -/
structure Change where
  ch : Channel
  entered : Bool
  ended : Bool
  trigger : Bool
  deriving DecidableEq, Repr

/-- An event that leaves the channel as it was. -/
def Change.nothing (ch : Channel) : Change := { ch := ch, entered := false, ended := false, trigger := false }

def Channel.stopped (ch : Channel) : Bool := ch.state == .done || ch.state == .fault

/-- R94, R100: an event of an ACTIVE channel that walks nowhere: it raises a trigger if the reason set changed. -/
def Change.reasons (old new : Channel) : Change :=
  { ch := new, entered := false, ended := false, trigger := old.reasons != new.reasons }

/-- R106, R107: a walk made from an event. -/
def Change.walk (c : Cell) (profile : List StepRecord) (x : Sample) (n : Nat) (ch : Channel) : Change :=
  let new := Channel.walk c profile x Config.walkLimit n ch
  { ch := new, entered := (recordAt profile n).kind != .endStep, ended := new.stopped, trigger := true }

/-- R105: an event that leaves ACTIVE for FAULT. -/
def Change.fail (ch : Channel) (code : ChannelFault) : Change :=
  { ch := ch.fail code, entered := false, ended := true, trigger := true }

/-- R95, R107, R109: an accepted start. `causes` are the reasons whose causes stand; STARVED is absent and TEMP is
judged at the entry. A channel that left ACTIVE since the last snapshot has the published setpoint 0 (log 12). -/
def Change.start (c : Cell) (profile : List StepRecord) (x : Sample) (n : Nat) (causes : Reasons) (ch : Channel) : Change :=
  Change.walk c profile x n
    { ch with state := .active, slot := none, code := .none, reasons := causes, timer := 0, run := 0,
              published := if ch.stale then 0 else ch.published }

/-- R101: whether the step timer advances on a sample. -/
def Channel.counts (profile : List StepRecord) (ch : Channel) : Bool :=
  if (ch.step profile).kind.charging then ch.presented != 0
  else (ch.step profile).kind == .rest && !ch.reasons.temp

/-- R101. -/
def Channel.advance (profile : List StepRecord) (ch : Channel) : Channel :=
  { ch with timer := if ch.counts profile then min (ch.timer + 1) Config.stepTimerMax else ch.timer }

/-- R104: the sample qualifies. -/
def Channel.qualifies (profile : List StepRecord) (ch : Channel) : Bool :=
  ch.presented != 0 && decide ((ch.step profile).endCurrent < ch.presented) && ch.presented == ch.lastSetpoint

/-- R104: the end-current run in a VOLTAGE step. -/
def Channel.countRun (c : Cell) (profile : List StepRecord) (x : Sample) (ch : Channel) : Channel :=
  if (ch.step profile).kind = .voltage then
    { ch with run := if ch.qualifies profile && decide (x.amps c < ((ch.step profile).endCurrent : Int))
                     then min (ch.run + 1) Config.taperRun else 0 }
  else ch

/-- R100 steps 1 to 3. -/
def Channel.observe (c : Cell) (profile : List StepRecord) (x : Sample) (ch : Channel) : Channel :=
  (((ch.judgeTemp c profile x).represent c profile).advance profile).countRun c profile x

/-- R104: the setpoint recorded at the end of a sample arrival. -/
def Change.recorded (y : Change) : Change := { y with ch := { y.ch with lastSetpoint := y.ch.presented } }

/-- R100: a channel's part of a sample arrival. -/
def Change.sample (c : Cell) (profile : List StepRecord) (x : Sample) (ch : Channel) : Change :=
  if ch.state = .active then
    let seen := ch.observe c profile x
    let r := ch.step profile
    if exitHolds r (x.volt c) seen.timer seen.run then (Change.walk c profile x r.next seen).recorded
    else if timeoutHolds r seen.timer then (Change.fail seen .stepTimeout).recorded
    else (Change.reasons ch seen).recorded
  else Change.nothing ch

/-- R103: the step timer of the present step has exceeded its timeout and its exit does not hold. -/
def Channel.timedOut (c : Cell) (profile : List StepRecord) (x : Sample) (ch : Channel) : Bool :=
  ch.state == .active && !exitHolds (ch.step profile) (x.volt c) ch.timer ch.run && timeoutHolds (ch.step profile) ch.timer

/-- R102: the step timer of the present TOPOFF or REST step has reached its duration. -/
def Channel.durationOver (profile : List StepRecord) (ch : Channel) : Bool :=
  ch.state == .active && (ch.step profile).kind.carriesDuration
    && decide ((ch.step profile).duration * Config.samplesPerMinute ≤ ch.timer)

/-- R94: a change of the reasons of an ACTIVE channel, and the setpoint that follows from it (R98). -/
def Change.withReasons (c : Cell) (profile : List StepRecord) (r : Reasons) (ch : Channel) : Change :=
  if ch.state = .active then Change.reasons ch (({ ch with reasons := r }).represent c profile)
  else Change.nothing ch

/-- R97: a channel's part of a publication: its charge setpoint, its STARVED flag, whether P_bud is 0 and whether D is
greater than 0. -/
def Change.publication (c : Cell) (profile : List StepRecord) (setpoint : Nat) (starved noInput deficit : Bool)
    (ch : Channel) : Change :=
  let reasons := if ch.state = .active then
      { ch.reasons with starved := if ch.stale then ch.reasons.starved else starved, noInput := noInput, deficit := deficit }
    else ch.reasons
  Change.reasons ch (({ ch with published := if ch.stale then 0 else setpoint, reasons := reasons }).represent c profile)

/-- R110: a stop. -/
def Change.stop (ch : Channel) : Change :=
  match ch.state with
  | .idle => Change.nothing ch
  | .active => { ch := { ch.leave .idle with slot := none, code := .none }, entered := false, ended := false, trigger := true }
  | .done => { ch := { ch with state := .idle, slot := none, code := .none }, entered := false, ended := false, trigger := true }
  | .fault => { ch := { ch with state := .idle, slot := none, code := .none }, entered := false, ended := false, trigger := true }

/-- R108: a latched fault raised on the channel's cell. -/
def Change.cellFault (ch : Channel) : Change :=
  if ch.state = .active then Change.fail ch .cellFault else Change.nothing ch

end Sys2Proof.Machine
end

