-- ==== Sys2Proof/Machine/Pass.lean ====
section
/-! DEFINITION. The working of one allocation pass: the six stages of chapter 04, from a snapshot to a publication. -/

namespace Sys2Proof.Machine

/-! ### Stages 1 and 2: input power and budget -/

/-- R70: whether the pass takes input power. -/
def Snapshot.powered (x : Snapshot) : Bool :=
  (x.inputState == .dflt || x.inputState == .contracted) && !x.inputOv

/-- R70: P_raw. -/
def Snapshot.pRaw (x : Snapshot) : Nat :=
  if x.powered then x.contract.voltage * min x.contract.current x.droopLimit / 1000 else 0

/-- R70: P_conv. -/
def Snapshot.pConv (x : Snapshot) : Nat := x.pRaw * 940 / 1024

/-- R60: the thermal ceiling, or none. -/
def thermalCeiling (t : Thermal) (pConv : Nat) : Option Nat :=
  match t with
  | .none => none
  | .derating d => some (pConv * (125 - d) / 25)
  | .zero => some 0

/-- One more bound on a budget: it takes part where it is present, and it is reported only where it is smaller than
every bound before it (R61). -/
def bound (b : Option Nat) (name : BudgetLimit) (sofar : Nat × BudgetLimit) : Nat × BudgetLimit :=
  match b with
  | none => sofar
  | some n => if n < sofar.1 then (n, name) else sofar

/-- R61, R71: P_bud and the budget limit. -/
def Snapshot.budget (x : Snapshot) : Nat × BudgetLimit :=
  bound (thermalCeiling x.thermal x.pConv) .thermal (bound x.ceiling .ceiling (x.pConv, .input))

def Snapshot.pBud (x : Snapshot) : Nat := x.budget.1

/-! ### Stage 3: essential claims -/

/-- R21, R72: the essential total of a list of claims. -/
def essentialTotal (l : List Claim) : Nat := ((l.filter (fun c => c.cls == .essential)).map Claim.requested).sum

def Snapshot.essential (x : Snapshot) : Nat := essentialTotal x.claims

/-- R72: the deficit D and the remainder R. -/
def Snapshot.deficit (x : Snapshot) : Nat := x.essential - x.pBud
def Snapshot.remainder (x : Snapshot) : Nat := x.pBud - x.essential

/-! ### Stage 4: elective claims -/

/-- What a publication gives one claim of its snapshot (R82). -/
structure GrantOut where
  admission : Nat
  grant : Nat
  standing : Standing
  deriving DecidableEq, Repr

/-- R73: one elective claim judged against the R that remains. -/
def serveElective (c : Claim) (r : Nat) : Nat × Standing :=
  if c.requested ≤ r then (c.requested, .granted)
  else if c.floor ≤ r then (r, .partly)
  else (0, .deferred)

/-- R72, R73: one claim: its grant and standing. -/
def serve (c : Claim) (r : Nat) : Nat × Standing :=
  match c.cls with
  | .essential => (c.requested, .granted)
  | .elective => if c.standing = .suspended then (0, .suspended) else serveElective c r

/-- R73: what a claim takes from R; an essential claim has been taken out of R before. -/
def taken (c : Claim) (r : Nat) : Nat :=
  match c.cls with
  | .essential => 0
  | .elective => (serve c r).1

/-- R72, R73: the grants of a list in admission order, and the R left after its last claim. -/
def serveAll : List Claim → Nat → List GrantOut × Nat
  | [], r => ([], r)
  | c :: rest, r =>
    let out := serveAll rest (r - taken c r)
    ({ admission := c.admission, grant := (serve c r).1, standing := (serve c r).2 } :: out.1, out.2)

def Snapshot.grants (x : Snapshot) : List GrantOut := (serveAll x.claims x.remainder).1
def Snapshot.pChg (x : Snapshot) : Nat := (serveAll x.claims x.remainder).2

/-! ### Stage 5: the charge split -/

/-- R69: a working voltage. -/
def workingVoltage (v : Nat) : Nat := max v Config.workingVoltageMin

/-- R74: whether charging receives nothing in this pass. -/
def Snapshot.chargeBlocked (x : Snapshot) : Bool := !x.holdOff || decide (0 < x.deficit) || x.dieHot

/-- R74: the admitted demands. -/
def Snapshot.idA (x : Snapshot) : Nat := if x.chargeBlocked || x.latchedA then 0 else x.demandA
def Snapshot.idB (x : Snapshot) : Nat :=
  if x.chargeBlocked || x.latchedB || x.holder != some .chargeB then 0 else x.demandB

/-- R75: the admitted demands in node power. -/
def costA (v i : Nat) : Nat := divUp (v * i) 1000
def costB (v i : Nat) : Nat := divUp (divUp (v * i) 1000 * 1024) 980

/-- R77: a charge grant in current, bounded by the admitted demand. -/
def currentA (v g i : Nat) : Nat := min i (floorTen (g * 1000 / v))
def currentB (v g i : Nat) : Nat := min i (floorTen (g * 980 / 1024 * 1000 / v))

/-- R76: the weights of the split. -/
def weightA (va vb da : Nat) : Nat := if va + Config.lagMargin < vb then 2 * da else da
def weightB (va vb db : Nat) : Nat := if vb + Config.lagMargin < va then 2 * db else db

/-- R76: P_chg divided between the cells, before the excess moves. -/
def splitA (p va vb da db : Nat) : Nat :=
  p * weightA va vb da / (weightA va vb da + weightB va vb db)

/-- R76: the input-side charge grants. -/
def chargeGrants (p va vb da db : Nat) : Nat × Nat :=
  if da + db ≤ p then (da, db)
  else
    let a := splitA p va vb da db
    let b := p - a
    let a' := min a da
    let b' := b + (a - a')
    (a' + (b' - min b' db), min b' db)

/-- What stage 5 gives one channel. -/
structure Charge where
  grant : Nat
  setpoint : Nat
  starved : Bool
  deriving DecidableEq, Repr

/-- R78: the starvation test of one channel. -/
def starvedTest (demand setpoint : Nat) : Bool :=
  decide (0 < demand) && decide (setpoint < Config.starveBelow) && decide (setpoint < demand)

def Charge.nothing (starved : Bool) : Charge := { grant := 0, setpoint := 0, starved := starved }

/-- R75 to R78: the charge split from the admitted demands. -/
def chargeSplit (p va vb ia ib : Nat) : Charge × Charge :=
  let da := costA va ia
  let db := costB vb ib
  if da + db = 0 then (Charge.nothing false, Charge.nothing false)
  else
    let g := chargeGrants p va vb da db
    let ca := currentA va g.1 ia
    let cb := currentB vb g.2 ib
    match starvedTest ia ca, starvedTest ib cb with
    | false, false => ({ grant := g.1, setpoint := ca, starved := false }, { grant := g.2, setpoint := cb, starved := false })
    | true, true => (Charge.nothing true, Charge.nothing true)
    | true, false =>
      let gb := min p db
      (Charge.nothing true, { grant := gb, setpoint := currentB vb gb ib, starved := false })
    | false, true =>
      let ga := min p da
      ({ grant := ga, setpoint := currentA va ga ia, starved := false }, Charge.nothing true)

/-- R74 to R78: stage 5. -/
def Snapshot.charge (x : Snapshot) : Charge × Charge :=
  if x.chargeBlocked then (Charge.nothing false, Charge.nothing false)
  else chargeSplit x.pChg (workingVoltage x.vA) (workingVoltage x.vB) x.idA x.idB

/-! ### Stage 6: the supply split -/

/-- R79: headrooms and caps. -/
def headroom (out : Bool) (v : Nat) : Nat := if out then 0 else v - Config.supplyThreshold
def bridgeCap (v : Nat) : Nat := v * Config.pathACurrent / 1000
def Snapshot.capA (x : Snapshot) : Nat := if x.isolatedA then 0 else bridgeCap x.vA
def Snapshot.outB (x : Snapshot) : Bool := x.isolatedB || x.linkFault
def Snapshot.capB (x : Snapshot) : Nat := if x.outB then 0 else x.vB * Config.linkCurrent / 1000 * 980 / 1024

/-- R80: the supply shares sA and sB of a deficit. -/
def supplySplit (d ha hb capA capB : Nat) : Nat × Nat :=
  if ha + hb = 0 then
    let sA := min d capA
    (sA, min (d - sA) capB)
  else
    let sA0 := d * ha / (ha + hb)
    let sB0 := d - sA0
    let sA := min sA0 capA
    let wantB := sB0 + (sA0 - sA)
    let sB := min wantB capB
    (min (sA + (wantB - sB)) capA, sB)

/-- R79, R80: stage 6. -/
def Snapshot.supply (x : Snapshot) : Nat × Nat :=
  if x.deficit = 0 then (0, 0)
  else supplySplit x.deficit (headroom x.isolatedA x.vA) (headroom x.outB x.vB) x.capA x.capB

/-! ### The publication -/

/-- R82: the figures of a pass; `count` is the count they are published with. -/
def Snapshot.figures (x : Snapshot) (count : Nat) : Publication :=
  { count := count
    pConv := x.pConv
    pBud := x.budget.1
    limit := x.budget.2
    essential := x.essential
    deficit := x.deficit
    elective := x.remainder - x.pChg
    pChg := x.pChg
    gA := x.charge.1.grant
    gB := x.charge.2.grant
    cA := x.charge.1.setpoint
    cB := x.charge.2.setpoint
    starvedA := x.charge.1.starved
    starvedB := x.charge.2.starved
    sA := x.supply.1
    sB := x.supply.2
    shortfall := x.deficit - x.supply.1 - x.supply.2
    supply := decide (0 < x.supply.2) }

end Sys2Proof.Machine
end

