-- ==== Sys2Proof/Machine/Ops.lean ====
section
/-! DEFINITION. Operations the blocks share: notices, the clock, the allocator's triggers and snapshot, the stages taking
setpoints, the hold control's test, the power state, and a port handing a reply. -/

namespace Sys2Proof.Machine

/-! ### Notices (R184) -/

/-- R184: a kind is added to a port's notice set. -/
def raiseNotice (k : Notice) (p : Port) (s : State) : State :=
  s.setPort p { s.port p with notices := (s.port p).notices ||| k.only }

/-- The kinds raised to the main and hub ports. -/
def raiseMainHub (k : Notice) (s : State) : State := raiseNotice k .hub (raiseNotice k .main s)

def raiseAll (k : Notice) (s : State) : State := raiseNotice k .input (raiseMainHub k s)

/-- A notice to the owner of a claim; INTERNAL has no notice set (R23). -/
def raiseOwner (k : Notice) (o : Owner) (s : State) : State :=
  match o with
  | .internal => s
  | .port p => raiseNotice k p s

/-- A notice raised only where a condition holds. -/
def raiseIf (b : Bool) (f : State → State) (s : State) : State := if b then f s else s

/-! ### The clock (log 5, log 6) -/

/-- An event that the manual places at time t comes no earlier than t. -/
def reach (t : Nat) (s : State) : State := { s with now := max s.now t }

/-! ### The part is working (R191, R198, R204) -/

/-- The part has supply and is not in SHIP. -/
def State.operating (s : State) : Bool := s.power.supplied && s.power.state != .ship

/-! ### Passes (R64 to R68) -/

/-- R58: the effective ceiling. -/
def effectiveCeiling : List Ceiling → Option Nat
  | [] => none
  | e :: rest => some (match effectiveCeiling rest with
      | none => e.limit
      | some n => min e.limit n)

/-- R68: the snapshot of a pass. -/
def State.snapshot (s : State) : Snapshot :=
  { inputState := s.input.state
    contract := s.input.inForce
    droopLimit := s.input.droopLimit
    ceiling := effectiveCeiling s.ceilings
    thermal := s.prot.thermal
    inputOv := s.prot.device.inputOv
    dieHot := s.prot.device.dieHot
    latchedA := s.latched .a
    latchedB := s.latched .b
    isolatedA := s.isolated .a
    isolatedB := s.isolated .b
    linkFault := s.prot.device.linkFault
    claims := s.table.claims
    demandA := s.chA.demand .a s.profile
    demandB := s.chB.demand .b s.profile
    holder := s.arb.holder
    holdOff := s.hold.state == .off
    vA := s.sample.vA
    vB := s.sample.vB }

/-- R66, R97: a pass starts: the snapshot is taken, and handing the demands clears the stale marks. -/
def startPass (s : State) : State :=
  { s with
    alloc := { s.alloc with pass := some s.snapshot, rerun := false }
    chA := { s.chA with stale := false }
    chB := { s.chB with stale := false } }

/-- R66, R67: the allocator takes a trigger. -/
def trigger (s : State) : State :=
  if s.power.phase = .loading || !s.operating then s
  else match s.alloc.pass with
    | none => startPass s
    | some _ => s.setAlloc { s.alloc with rerun := true }

/-! ### Power state (R11, R202, R203) -/

/-- R11, R203: MONITOR is left for ACTIVE. -/
def leaveMonitor (s : State) : State :=
  if s.power.state = .monitor then
    { s with power := { s.power with state := .active }
             seq := { s.seq with nextArrival := max s.now (s.seq.lastArrival + Config.periodActive) } }
  else s

/-- R202: the MONITOR condition. -/
def State.quiet (s : State) : Bool :=
  s.power.phase == .running && s.power.state == .active && s.power.holdOff.isNone && s.power.supplied
    && s.input.state == .detached && s.hold.state == .off && s.chA.state != .active && s.chB.state != .active
    && s.bal.queue.isEmpty && s.ports.main.dormant && s.ports.hub.dormant && s.ports.input.dormant

/-- R202: the test of the MONITOR condition. -/
def monitorTest (s : State) : State :=
  if s.quiet then
    { s with power := { s.power with state := .monitor }
             seq := { s.seq with nextArrival := s.seq.lastArrival + Config.periodMonitor } }
  else s

/-! ### The hold control's test (R156, R157) -/

/-- R6: the cell A path is settled at zero charge current. -/
def PathA.atRest (x : PathA) : Bool := !x.stage.ramping && x.stage.target == 0

/-- The hinge link is SETTLED with a target of zero. -/
def State.linkSettledZero (s : State) : Bool := !s.linkStage.ramping && s.linkStage.target == Flow.zero

/-- R156: the rest condition. -/
def State.atRest (s : State) : Bool :=
  s.pathA.atRest && (s.hold.view == .free || s.hold.view == .held .supply || s.linkSettledZero)

/-- R157: a holder's timer as the hold becomes EFFECTIVE. -/
def Holder.effective (now : Nat) (h : Holder) : Holder :=
  { h with expiry := if h.joined then some (now + Config.holdMs) else none }

/-- R157: the hold becomes EFFECTIVE. The channels and the engine already hold HOLD and the suspension, so the report
changes nothing in them. -/
def becomeEffective (s : State) : State :=
  let h := s.hold.holders
  let s := raiseIf h.main.joined (raiseNotice .holdEffective .main) s
  let s := raiseIf h.hub.joined (raiseNotice .holdEffective .hub) s
  let s := raiseIf h.input.joined (raiseNotice .holdEffective .input) s
  trigger (s.setHold { s.hold with
    state := .effective
    holders := { main := h.main.effective s.now, hub := h.hub.effective s.now, input := h.input.effective s.now } })

/-- R157: the test of the rest condition while the hold is PENDING. -/
def holdTest (s : State) : State :=
  if s.hold.state = .pending && s.atRest then becomeEffective s else s

/-! ### Stages (R1 to R3) -/

/-- R1: a stage with the present output `out` takes a setpoint; the second part tells whether a settled event is
reported at once. -/
def Stage.take {α : Type} [DecidableEq α] (out new : α) (x : Stage α) : Stage α × Bool :=
  if new = x.target then (x, false)
  else if new = out then ({ target := new, output := new, ramping := false }, true)
  else ({ target := new, output := out, ramping := true }, false)

/-- The settled event of a ramping stage: its output has reached its target. -/
def Stage.settle {α : Type} (x : Stage α) : Stage α := { x with output := x.target, ramping := false }

/-- A point of the way from a to b, b left out, chosen by the free number k (log 8). -/
def between (a b k : Nat) : Nat :=
  if a < b then a + k % (b - a) else if b < a then a - k % (a - b) else a

/-- A magnitude in a direction; zero has direction NONE (R3). -/
def Flow.of (d : Dir) (n : Nat) : Flow := if n = 0 then Flow.zero else { dir := d, mag := n }

/-- R3: a point of the way from one flow to another, through zero where the directions differ. -/
def Flow.between (a b : Flow) (k : Nat) : Flow :=
  if a.dir = b.dir || b.mag = 0 then Flow.of a.dir (Machine.between a.mag b.mag k)
  else if a.mag = 0 then Flow.of b.dir (Machine.between a.mag b.mag k)
  else if k % (a.mag + b.mag) ≤ a.mag then Flow.of a.dir (a.mag - k % (a.mag + b.mag))
  else Flow.of b.dir (k % (a.mag + b.mag) - a.mag)

/-- The present output of a stage that carries a plain magnitude. -/
def Stage.outputNow (k : Nat) (x : Stage Nat) : Nat :=
  if x.ramping then between x.output x.target (Config.rampProgress k) else x.output

/-- The present output of the hinge link. -/
def Stage.flowNow (k : Nat) (x : Stage Flow) : Flow :=
  if x.ramping then Flow.between x.output x.target (Config.rampProgress k) else x.output

/-- One more free value has been read. -/
def State.tickFree (s : State) : State := { s with freeUses := s.freeUses + 1 }

/-- R4: the input stage as VBUS is lost: its output is zero whatever its target, and a zero target is reached. -/
def Stage.cut (x : Stage Nat) : Stage Nat := { x with output := 0, ramping := x.target != 0 }

/-- R4: the input stage's output; zero while VBUS is absent. -/
def State.inputOutput (s : State) : Nat := if s.present then s.inputStage.outputNow s.freeUses else 0

/-- R4: the input stage takes a limit; its settled event is the input controller's to judge. -/
def takeInput (limit : Nat) (s : State) : State :=
  if limit = s.inputStage.target then s
  else { s.tickFree with inputStage := (s.inputStage.take s.inputOutput limit).1 }

/-- R6: the cell A path takes a charge setpoint, but no non-zero one while VBUS is absent; a settled event reported at
once goes to the hold control. -/
def takeCharge (setpoint : Nat) (s : State) : State :=
  if (!s.present && setpoint != 0) || setpoint == s.pathA.stage.target then s
  else
    let y := s.pathA.stage.take (s.pathA.stage.outputNow s.freeUses) setpoint
    let s := s.tickFree.setPathA { s.pathA with stage := y.1 }
    if y.2 then holdTest s else s

/-- R8: the direction of a running job. -/
def wayDir : Way → Dir
  | .aToB => .aToB
  | .bToA => .bToA

/-- R8: what a BALANCE holder asks of the link. -/
def Balance.flow (b : Balance) : Flow :=
  match b.queue with
  | [] => Flow.zero
  | j :: _ =>
    if j.state = .running then
      (match j.resolved with
       | some w => Flow.of (wayDir w) j.rate
       | none => Flow.zero)
    else Flow.zero

/-- R8, R9: the target the hinge link takes from the arbiter's state. -/
def State.linkTarget (s : State) : Flow :=
  match s.arb.link with
  | .free => Flow.zero
  | .changeover => Flow.zero
  | .held .supply => Flow.of .bToNode s.alloc.record.sB
  | .held .chargeB => if s.present then Flow.of .nodeToB s.chB.presented else Flow.zero
  | .held .balance => s.bal.flow

/-- R8: the link takes its target; a settled event reported at once goes to the hold control, and the arbiter's part of
it is where a CHANGEOVER starts (R123). -/
def linkFollow (s : State) : State :=
  if s.linkTarget = s.linkStage.target then s
  else
    let y := s.linkStage.take (s.linkStage.flowNow s.freeUses) s.linkTarget
    let s := { s.tickFree with linkStage := y.1 }
    if y.2 then holdTest s else s

/-- R41: the limit the input controller calls for. -/
def InputCtl.limit (x : InputCtl) : Nat := if x.state.drawing then x.droopLimit else 0

/-- R41, R63: the controller hands the stage its limit, but not during LOADING. -/
def handLimit (s : State) : State :=
  if s.power.phase = .loading then s else takeInput s.input.limit s

/-! ### Replies (R182) -/

/-- R182: the reply that the owning block, or the port interface itself, hands the port. -/
def handReply (p : Port) (code : ReplyCode) (payload : List Byte) (s : State) : State :=
  s.setPort p { s.port p with handed := some { code := code, payload := payload } }

/-- A refusal, which has no payload (R195). -/
def refuse (p : Port) (code : ReplyCode) (s : State) : State := handReply p code [] s

end Sys2Proof.Machine
end

