-- ==== Sys2Proof/Machine/Arbiter.lean ====
section
/-! DEFINITION. The hinge arbiter (chapter 06). Its operations take the engine's answer to a grant of BALANCE as an
argument (`onBalance`), because that answer, the start checks of R139, may itself give the link back. -/

namespace Sys2Proof.Machine

/-! ### Sets and timers of the arbiter -/

def Waiting.has (w : Waiting) : Requester → Bool
  | .supply => w.supply
  | .chargeB => w.chargeB
  | .balance => w.balance

def Waiting.put (w : Waiting) (r : Requester) (b : Bool) : Waiting :=
  match r with
  | .supply => { w with supply := b }
  | .chargeB => { w with chargeB := b }
  | .balance => { w with balance := b }

/-- R119: the requester's backoff timer; SUPPLY has none. -/
def Arbiter.backoff (a : Arbiter) : Requester → Timer
  | .supply => none
  | .chargeB => a.backoffChargeB
  | .balance => a.backoffBalance

def Arbiter.setBackoff (a : Arbiter) (r : Requester) (t : Timer) : Arbiter :=
  match r with
  | .supply => a
  | .chargeB => { a with backoffChargeB := t }
  | .balance => { a with backoffBalance := t }

/-- R119: eligible. -/
def Arbiter.eligible (a : Arbiter) (r : Requester) : Bool := a.waiting.has r && (a.backoff r).isNone

/-- R119: the choice. -/
def Arbiter.choose (a : Arbiter) : Option Requester :=
  if a.faultLock then none
  else if a.waiting.supply then some .supply
  else match a.eligible .chargeB, a.eligible .balance with
    | true, true => if a.lastPair = some .chargeB then some .balance else some .chargeB
    | true, false => some .chargeB
    | false, true => some .balance
    | false, false => none

/-- R126: the requester that a holder yields to. -/
def otherOf : Requester → Requester
  | .chargeB => .balance
  | .balance => .chargeB
  | .supply => .supply

/-! ### Reports (R121, R122, R132) -/

/-- R94, R98, R121, R122: channel B takes a report of a grant (`noLink` false) or a loss (`noLink` true) of its link. -/
def reportToB (noLink : Bool) (s : State) : State :=
  let y := Change.withReasons .b s.profile { s.chB.reasons with noLink := noLink } s.chB
  let s := linkFollow { s with chB := y.ch }
  if y.trigger then trigger s else s

/-- R132, R157: the link state reported to the hold control. -/
def reportLink (s : State) : State := holdTest (s.setHold { s.hold with view := s.arb.link })

/-- R140, R122: why a holder loses the link. -/
inductive LossCause where
  | withdrawal | preemption | yield | linkFault
  deriving DecidableEq, Repr

/-- R140, R141: a running job whose run ends at the time `now`, with its tail still to come. -/
def Job.stops (now : Nat) (st : JobState) (j : Job) : Job :=
  { j with state := st, heldSince := none
           runs := j.runs ++ [{ start := j.heldSince.getD now, stop := now + Config.tailMs }] }

/-- R140: the engine takes a loss by BALANCE. A withdrawal finds the head out of RUNNING; LINK_FAULT is taken at the
monitor's own report of it (R148). -/
def reportLossToEngine (cause : LossCause) (s : State) : State :=
  match cause, s.bal.queue with
  | .preemption, j :: rest =>
    if j.state = .running then s.setBal { s.bal with queue := j.stops s.now .queued :: rest } else s
  | .yield, j :: rest =>
    if j.state = .running then s.setBal { s.bal with queue := j.stops s.now .queued :: rest } else s
  | .preemption, [] => s
  | .yield, [] => s
  | .withdrawal, _ => s
  | .linkFault, _ => s

/-! ### Grants and choices (R119 to R121) -/

/-- R121: the arbiter's own part of a grant. -/
def Arbiter.granted (now tenure : Nat) (r : Requester) (a : Arbiter) : Arbiter :=
  match r with
  | .supply =>
    { a with link := .held .supply, waiting := a.waiting.put .supply false, tenure := none, tenureExpired := false,
             yieldPending := false }
  | .chargeB =>
    { a with link := .held .chargeB, waiting := a.waiting.put .chargeB false, lastPair := some .chargeB,
             tenure := some (now + tenure), tenureExpired := false, yieldPending := false }
  | .balance =>
    { a with link := .held .balance, waiting := a.waiting.put .balance false, lastPair := some .balance,
             tenure := some (now + tenure), tenureExpired := false, yieldPending := false }

/-- R121: a grant. -/
def grantLink (onBalance : State → State) (r : Requester) (s : State) : State :=
  let s := linkFollow (s.setArb (s.arb.granted s.now s.settings.tenure r))
  let s := match r with
    | .supply => s
    | .chargeB => reportToB false s
    | .balance => onBalance s
  trigger (reportLink s)

/-- R120: a choice made in FREE; a grant is held back while the link still ramps to zero. -/
def chooseFree (onBalance : State → State) (s : State) : State :=
  match s.arb.choose with
  | some r => if s.linkSettledZero then grantLink onBalance r s else s
  | none => s

/-- R123: the end of a CHANGEOVER. -/
def endChangeover (onBalance : State → State) (s : State) : State :=
  match s.arb.choose with
  | some r => grantLink onBalance r s
  | none => reportLink (s.setArb { s.arb with link := .free })

/-! ### Losses (R122) -/

/-- R122: the arbiter's own part of a loss by r; `stands` tells whether the request still stands. -/
def Arbiter.lost (now : Nat) (r : Requester) (stands : Bool) (a : Arbiter) : Arbiter :=
  match r with
  | .supply => { a with link := .changeover, waiting := a.waiting.put .supply stands }
  | .chargeB =>
    { a with link := .changeover, waiting := a.waiting.put .chargeB stands,
             backoffChargeB := some (now + Config.backoffMs), tenure := none, tenureExpired := false, yieldPending := false }
  | .balance =>
    { a with link := .changeover, waiting := a.waiting.put .balance stands,
             backoffBalance := some (now + Config.backoffMs), tenure := none, tenureExpired := false, yieldPending := false }

/-- R122, R123: a loss by the holder r. -/
def loseLink (onBalance : State → State) (cause : LossCause) (r : Requester) (s : State) : State :=
  let s := linkFollow (s.setArb (s.arb.lost s.now r (cause != .withdrawal)))
  let s := match r with
    | .supply => s
    | .chargeB => reportToB true s
    | .balance => reportLossToEngine cause s
  let s := trigger (reportLink s)
  if s.linkSettledZero then endChangeover onBalance s else s

/-! ### Requests (R117, R124 to R128) -/

/-- R126 to R128: a yield starts. -/
def startYield (onBalance : State → State) (r : Requester) (s : State) : State :=
  match r with
  | .chargeB => loseLink onBalance .yield .chargeB s
  | .balance => s.setArb { s.arb with yieldPending := true }
  | .supply => s

/-- R117, R124, R126: an arrival in HELD. -/
def arriveHeld (onBalance : State → State) (r holder : Requester) (s : State) : State :=
  match r with
  | .supply => loseLink onBalance .preemption holder s
  | .chargeB => if s.arb.tenureExpired && holder == .balance then startYield onBalance holder s else s
  | .balance => if s.arb.tenureExpired && holder == .chargeB then startYield onBalance holder s else s

/-- R117: a request is raised at the arbiter. -/
def raiseLink (onBalance : State → State) (r : Requester) (s : State) : State :=
  if s.arb.link = .held r || s.arb.waiting.has r then s
  else
    let s := s.setArb { s.arb with waiting := s.arb.waiting.put r true }
    match s.arb.link with
    | .free => chooseFree onBalance s
    | .held holder => arriveHeld onBalance r holder s
    | .changeover => s

/-- R125, R128: a request is withdrawn at the arbiter. -/
def withdrawLink (onBalance : State → State) (r : Requester) (s : State) : State :=
  if s.arb.link = .held r then loseLink onBalance .withdrawal r s
  else if s.arb.waiting.has r then
    s.setArb { s.arb with waiting := s.arb.waiting.put r false
                          yieldPending := s.arb.yieldPending && r != .chargeB }
  else s

end Sys2Proof.Machine
end

