-- ==== Sys2Proof/Machine/Engine.lean ====
section
/-! DEFINITION. The balance engine (chapter 07), and the arbiter's operations with the engine's start checks put in
place: `raiseReq`, `withdrawReq`, `choiceFree`, `changeoverEnds`, `lossOf`. -/

namespace Sys2Proof.Machine

/-- R138: a head may hold the BALANCE request: the hold state is OFF and DIE_HOT absent, as reported to the engine. -/
def State.balanceAllowed (s : State) : Bool := s.hold.state == .off && !s.bal.dieHot

/-- R138, R148: the engine takes the monitor's report of DIE_HOT. -/
def State.setEngineHot (s : State) (b : Bool) : State := s.setBal { s.bal with dieHot := b }

def State.setQueue (s : State) (q : List Job) : State := s.setBal { s.bal with queue := q }

/-- R138: the first job of the queue becomes the head and takes its state. -/
def newHead (onBalance : State → State) (s : State) : State :=
  match s.bal.queue with
  | [] => s
  | j :: rest =>
    if s.balanceAllowed then raiseLink onBalance .balance (s.setQueue ({ j with state := .queued } :: rest))
    else s.setQueue ({ j with state := .suspended } :: rest)

/-- R202: the queue has become empty, which the power-state control tests. -/
def queueEmptied (s : State) : State := if s.bal.queue.isEmpty then monitorTest s else s

/-- R145 steps 2 and 3: the last result is written and BAL_DONE raised. -/
def recordEnding (j : Job) (reason : EndReason) (s : State) : State :=
  raiseNotice .balDone j.originator (s.setBal { s.bal with
    last := s.bal.last.set j.originator (some { tag := j.tag, reason := reason, moved := j.moved }) })

/-- R145: the head ends. -/
def endHead (onBalance : State → State) (reason : EndReason) (s : State) : State :=
  match s.bal.queue with
  | [] => s
  | j :: rest =>
    let s := s.setQueue rest
    let s := if j.state = .suspended then s else withdrawLink onBalance .balance s
    queueEmptied (newHead onBalance (recordEnding j reason s))

/-! ### Start checks (R139) -/

/-- R139 step 1: the direction a job resolves to, or none where the cells are level. -/
def Job.resolve (x : Sample) (j : Job) : Option Way :=
  match j.resolved with
  | some w => some w
  | none =>
    match j.direction with
    | .aToB => some .aToB
    | .bToA => some .bToA
    | .towardLower =>
      if gap x.vA x.vB ≤ j.tolerance.getD 0 then none
      else if x.vB < x.vA then some .aToB else some .bToA

/-- R135: source and destination. -/
def Way.source : Way → Cell
  | .aToB => .a
  | .bToA => .b
def Way.destination : Way → Cell
  | .aToB => .b
  | .bToA => .a

/-- R139: what the start checks come to: a way to run, or an end reason. -/
def Job.startCheck (x : Sample) (j : Job) : Way ⊕ EndReason :=
  match j.resolve x with
  | none => .inr .levelReached
  | some w =>
    if Config.destinationFull ≤ x.volt w.destination then .inr .destFull
    else if x.volt w.source < Config.supplyThreshold then .inr .sourceLow
    else .inl w

/-- R139: the engine takes a grant to BALANCE. A job that ends here gives the link back; the arbiter's own operations
inside that ending grant no BALANCE, whose backoff has just started, so their answer to one is never asked for. -/
def startChecks (s : State) : State :=
  match s.bal.queue with
  | [] => s
  | j :: rest =>
    if j.state = .queued then
      match j.startCheck s.sample with
      | .inl w => linkFollow (s.setQueue ({ j with state := .running, resolved := some w, heldSince := some s.now } :: rest))
      | .inr reason => endHead id reason s
    else s

/-! ### The arbiter with the start checks in place -/

def raiseReq (r : Requester) (s : State) : State := raiseLink startChecks r s
def withdrawReq (r : Requester) (s : State) : State := withdrawLink startChecks r s
def choiceFree (s : State) : State := chooseFree startChecks s
def changeoverEnds (s : State) : State := endChangeover startChecks s
def lossOf (cause : LossCause) (r : Requester) (s : State) : State := loseLink startChecks cause r s
def yieldOf (r : Requester) (s : State) : State := startYield startChecks r s

/-- R145: the head ends at an event other than its grant. -/
def finishHead (reason : EndReason) (s : State) : State := endHead startChecks reason s

/-! ### Suspension (R141) -/

/-- R141: the hold has left OFF, or DIE_HOT has been raised. -/
def suspendHead (s : State) : State :=
  match s.bal.queue with
  | [] => s
  | j :: rest =>
    match j.state with
    | .suspended => s
    | .queued => withdrawReq .balance (s.setQueue ({ j with state := .suspended } :: rest))
    | .running =>
      withdrawReq .balance (linkFollow (s.setQueue (j.stops s.now .suspended :: rest)))

/-- R141: the hold has returned to OFF, or DIE_HOT has cleared. -/
def releaseHead (s : State) : State :=
  match s.bal.queue with
  | [] => s
  | j :: rest =>
    if j.state = .suspended && s.balanceAllowed then
      raiseReq .balance (s.setQueue ({ j with state := .queued } :: rest))
    else s

/-! ### Counting (R142, R143) -/

/-- R142: the ms at the time t counts for the job: it lies in the run under way, or in an ended run or its tail. -/
def Job.counts (j : Job) (t : Nat) : Bool :=
  (j.state == .running && j.heldSince.any (fun h => decide (h ≤ t)))
    || j.runs.any (fun x => decide (x.start ≤ t) && decide (t < x.stop))

/-- R142: the counted time of a job over an interval. -/
def Job.countedTime (j : Job) (start stop : Nat) : Nat :=
  (List.range (stop - start)).countP (fun k => j.counts (start + k))

/-- R142: the credit of a job whose counted time in an interval of length `whole` is t. -/
def Job.credit (j : Job) (whole t charge : Nat) : Nat :=
  if t = 0 then 0
  else if t = whole then charge
  else min charge (divUp (j.rate * t) 3600)

/-- R142, R143: a credit added to a job; the quanta completed are those of the residue. -/
def Job.credited (j : Job) (credit stop : Nat) : Job :=
  { j with
    moved := min j.count (j.moved + (j.residue + credit) / Config.quantum)
    residue := (j.residue + credit) % Config.quantum
    runs := j.runs.filter (fun x => decide (stop < x.stop)) }

def Job.completed (j : Job) (credit : Nat) : Nat := (j.residue + credit) / Config.quantum

/-- R144: the first end reason that holds on a sample, for a job after its credit. -/
def Job.endsOn (x : Sample) (completed : Nat) (j : Job) : Option EndReason :=
  if j.moved = j.count then some .countDone
  else if j.mode = .untilLevel && decide (0 < completed) && decide (gap x.vA x.vB ≤ j.tolerance.getD 0) then some .levelReached
  else
    match j.state, j.resolved with
    | .running, some w =>
      if Config.destinationFull ≤ x.volt w.destination then some .destFull
      else if x.volt w.source < Config.supplyThreshold then some .sourceLow
      else none
    | .running, none => none
    | .queued, _ => none
    | .suspended, _ => none

/-- R128: the arbiter takes the report of a completed quantum. -/
def quantumReport (s : State) : State :=
  if s.arb.yieldPending && s.arb.link == .held .balance then lossOf .yield .balance s else s

/-- R142 to R144: the engine's part of a sample arrival. -/
def engineSample (s : State) : State :=
  match s.bal.queue with
  | [] => s
  | j :: rest =>
    let credit := j.credit (s.seq.lastArrival - s.seq.prevArrival) (j.countedTime s.seq.prevArrival s.seq.lastArrival)
      s.sample.linkCharge
    let job := j.credited credit s.seq.lastArrival
    let s := s.setQueue (job :: rest)
    let s := if j.state = .running && decide (0 < j.completed credit) then quantumReport s else s
    match job.endsOn s.sample (j.completed credit) with
    | some reason => finishHead reason s
    | none => s

/-! ### Faults (R148) -/

/-- R148: every job of the queue ends with FAULT, head first; n is the number of jobs. -/
def endAll : Nat → State → State
  | 0, s => s
  | n + 1, s => endAll n (finishHead .fault s)

def cellFaultToEngine (s : State) : State := endAll s.bal.queue.length s

/-- R148: LINK_FAULT ends a RUNNING head. -/
def linkFaultToEngine (s : State) : State :=
  match s.bal.queue with
  | [] => s
  | j :: _ => if j.state = .running then finishHead .fault s else s

/-! ### Port reset (R150) -/

/-- R150: the last result of a port after its PORT_RESET. -/
def resetResult (p : Port) (queue : List Job) : Option LastResult :=
  match queue with
  | [] => none
  | j :: _ =>
    if j.originator = p && j.state = .running then some { tag := j.tag, reason := .reset, moved := j.moved } else none

/-- R150: the engine's share of a PORT_RESET. -/
def enginePortReset (p : Port) (s : State) : State :=
  let queue := s.bal.queue
  let kept := s.setBal { s.bal with
    queue := queue.filter (fun j => j.originator != p)
    last := s.bal.last.set p (resetResult p queue) }
  match queue with
  | [] => kept
  | j :: _ =>
    if j.originator = p then
      queueEmptied (newHead startChecks (if j.state = .suspended then kept else withdrawReq .balance kept))
    else kept

end Sys2Proof.Machine
end

