-- ==== Sys2Proof/Machine/Blocks.lean ====
section
/-! DEFINITION. Channels in the part (their stages, their CHARGE_B request, their notices), the hold control, the input
controller, the protection monitor and the start-up control, as operations that the commands call. -/

namespace Sys2Proof.Machine

/-! ### Channels (chapter 05) -/

/-- R99: channel B raises or withdraws CHARGE_B as its state asks after the event: a walk that passes through a REST step and
on into a charging step within one event keeps the request (DESIGN CHOICE, log 17). -/
def syncChargeB (s : State) : State :=
  let want := s.chB.wantsLink s.profile
  if want = s.chB.request then s
  else
    let s := { s with chB := { s.chB with request := want } }
    if want then raiseReq .chargeB s else withdrawReq .chargeB s

/-- R98: the presented setpoint is handed to the channel's stage. -/
def handPresented (c : Cell) (s : State) : State :=
  match c with
  | .a => takeCharge s.chA.presented s
  | .b => syncChargeB (linkFollow s)

/-- One event of a channel: its notices (R105, R106), its stage (R98), its request (R99), the MONITOR test as it leaves
ACTIVE (R202), and its trigger. -/
def commit (c : Cell) (y : Change) (s : State) : State :=
  let was := s.channel c
  let s := s.setChannel c y.ch
  let s := raiseIf y.entered (raiseMainHub .chStep) s
  let s := raiseIf y.ended (raiseMainHub .chEnd) s
  let s := handPresented c s
  let s := if was.state = .active && y.ch.state != .active then monitorTest s else s
  if y.trigger then trigger s else s

/-- R94: a report that changes one reason of a channel. -/
def channelReasons (c : Cell) (f : Reasons → Reasons) (s : State) : State :=
  commit c (Change.withReasons c s.profile (f (s.channel c).reasons) (s.channel c)) s

/-- R95: the reasons that stand as a channel enters ACTIVE. Before the first publication after a reset there is no
publication to give NO_INPUT or DEFICIT (log 11). -/
def State.causes (s : State) (c : Cell) : Reasons :=
  { hold := s.hold.state != .off
    temp := false
    noInput := s.alloc.published && s.alloc.record.pBud == 0
    noLink := c == .b && s.arb.holder != some .chargeB
    deficit := s.alloc.published && decide (0 < s.alloc.record.deficit)
    dieHot := s.prot.device.dieHot
    starved := false }

/-- R109: the start of a channel at a slot. -/
def startChannel (c : Cell) (n : Nat) (s : State) : State :=
  commit c (Change.start c s.profile s.sample n (s.causes c) (s.channel c)) s

/-- R100: a channel's part of a sample arrival. -/
def channelSample (c : Cell) (s : State) : State :=
  commit c (Change.sample c s.profile s.sample (s.channel c)) s

/-! ### The hold control (chapter 08) -/

/-- The blocks that take a report of the hold state or of DIE_HOT. -/
inductive Listener where
  | channel (c : Cell) | engine
  deriving DecidableEq, Repr

def holdBegan : Listener → State → State
  | .channel c, s => channelReasons c (fun r => { r with hold := true }) s
  | .engine, s => suspendHead s

def holdEnded : Listener → State → State
  | .channel c, s => channelReasons c (fun r => { r with hold := false }) s
  | .engine, s => releaseHead s

def everyListener : List Listener := [.channel .a, .channel .b, .engine]

/-- R153: the hold leaves OFF. No grant may reach a channel or the head between the change and its reaction, so the block
whose request only waits reacts before the one that holds the link. -/
def reportHoldBegan (s : State) : State :=
  if s.arb.link = .held .balance then everyListener.foldl (fun s l => holdBegan l s) s
  else [Listener.channel .a, Listener.engine, Listener.channel .b].foldl (fun s l => holdBegan l s) s

/-- R154: OFF to PENDING. -/
def beginHold (s : State) : State := trigger (reportHoldBegan (s.setHold { s.hold with state := .pending }))

/-- R161: the hold returns to OFF; `own` tells whether the change raises a trigger of its own (R164). -/
def endHold (order : Nat) (own : Bool) (s : State) : State :=
  let s := s.setHold { s.hold with state := .off }
  let s := (arrange order everyListener).foldl (fun s l => holdEnded l s) s
  monitorTest (if own then trigger s else s)

def HoldCtl.empty (h : HoldCtl) : Bool := !h.holders.main.joined && !h.holders.hub.joined && !h.holders.input.joined

/-- The number of holders (R154, R160). -/
def HoldCtl.count (h : HoldCtl) : Nat :=
  h.holders.main.joined.toNat + h.holders.hub.joined.toNat + h.holders.input.joined.toNat

def State.holder (s : State) (p : Port) : Holder := s.hold.holders.get p

def State.setHolder (s : State) (p : Port) (h : Holder) : State :=
  s.setHold { s.hold with holders := s.hold.holders.set p h }

/-- R159 to R161: a port leaves the holder set, and the hold returns to OFF if the set is then empty. -/
def leaveHold (p : Port) (order : Nat) (own : Bool) (s : State) : State :=
  let s := s.setHolder p { s.holder p with joined := false, expiry := none }
  if s.hold.empty then endHold order own s else s

/-! ### The input controller (chapter 03) -/

/-- R51 step 1: the droop limit after a droop. -/
def InputCtl.drooped (x : InputCtl) : Nat :=
  max (min Config.droopFloor x.inForce.current) (floorTen (x.droopLimit * 9 / 10))

/-- R51: a droop. -/
def takeDroop (s : State) : State :=
  let old := s.input.droopLimit
  let s := s.setInput { s.input with droopLimit := s.input.drooped, recovery := some (s.now + Config.recoveryMs) }
  let s := raiseNotice .droop .main (raiseNotice .droop .input s)
  if s.input.droopLimit = old then s else trigger (handLimit s)

/-- R51, R54: the input controller's part of a sample arrival. The over-voltage report is an event of its own (R173). -/
def inputSample (s : State) : State :=
  let s := s.setInput { s.input with reports := s.input.reports ++ [s.input.overVoltage s.sample.vIn] }
  if s.input.droops s.sample.vIn then takeDroop s else s

/-- R48: the release of the input completes. -/
def released (s : State) : State :=
  let s := raiseNotice .inputReleased .input s
  let s := match s.input.requester with
    | some p => raiseNotice .inputReleased p s
    | none => s
  s.setInput { s.input with state := .released }

/-- R48: the input controller judges the input stage's settled event. -/
def inputSettled (s : State) : State :=
  if s.input.state = .releasing && s.inputStage.target = 0 then trigger (handLimit (released s)) else s

/-- R48: a release whose stage stands settled at zero, or settles there at once, completes as part of the request. -/
def releaseAtOnce (s : State) : State :=
  if !s.inputStage.ramping && s.inputStage.target = 0 then released s else s

/-! ### The protection monitor (chapter 09) -/

/-- R168, R203: what a raise brings, whatever the fault: FAULT to the ports, MONITOR left, the hold-off timer. -/
def tellRaise (s : State) : State :=
  let s := leaveMonitor (raiseAll .fault s)
  s.setPower { s.power with holdOff := some (s.now + Config.holdOffMs) }

/-- R170: a latched fault reported to the cell's channel. -/
def cellFaultToChannel (c : Cell) (s : State) : State := commit c (Change.cellFault (s.channel c)) s

/-- R172: DIE_HOT raised, as a block takes the report (R94, R141). -/
def dieHotBegan : Listener → State → State
  | .channel c, s => channelReasons c (fun r => { r with dieHot := true }) s
  | .engine, s => suspendHead (s.setEngineHot true)

/-- R172: DIE_HOT cleared, as a block takes the report (R94, R141). -/
def dieHotEnded : Listener → State → State
  | .channel c, s => channelReasons c (fun r => { r with dieHot := false }) s
  | .engine, s => releaseHead (s.setEngineHot false)

/-- R130, R140: the arbiter takes a raise of LINK_FAULT. The loss that it reports with that cause ends a RUNNING head, after
BALANCE has rejoined the waiting set. -/
def lockLink (s : State) : State :=
  let s := s.setArb { s.arb with faultLock := true }
  match s.arb.link with
  | .held r => linkFaultToEngine (lossOf .linkFault r s)
  | .free => s
  | .changeover => s

/-- R131: the arbiter takes the clearing of LINK_FAULT. -/
def unlockLink (s : State) : State :=
  let s := s.setArb { s.arb with faultLock := false }
  match s.arb.link with
  | .free => choiceFree s
  | .held _ => s
  | .changeover => s

/-- R168: a report that a sample's raises and clears make to one block. -/
inductive FaultReport where
  /-- R170: a latched fault of the cell, to its channel. -/
  | cellToChannel (c : Cell)
  /-- R170: a latched fault of a cell, to the engine. -/
  | cellToEngine
  /-- R172: DIE_HOT raised, or cleared. -/
  | dieHot (present : Bool) (l : Listener)
  /-- R174: LINK_FAULT, to the arbiter and to the engine. -/
  | linkToArbiter
  | linkToEngine
  deriving DecidableEq, Repr

/-- R168: the block takes the report. -/
def takeReport (x : FaultReport) (s : State) : State :=
  match x with
  | .cellToChannel c => cellFaultToChannel c s
  | .cellToEngine => cellFaultToEngine s
  | .dieHot true l => dieHotBegan l s
  | .dieHot false l => dieHotEnded l s
  | .linkToArbiter => lockLink s
  | .linkToEngine => linkFaultToEngine s

/-- R168 to R174: the reports that a change of the fault sets makes. -/
def reportsOf (old new : Protection) : List FaultReport :=
  let onCell (c : Cell) := if (old.cell c).latches (new.cell c) then
    [FaultReport.cellToChannel c, .cellToEngine] else []
  onCell .a ++ onCell .b
    ++ (if old.device.dieHot = new.device.dieHot then []
        else everyListener.map (FaultReport.dieHot new.device.dieHot))
    ++ (if old.device.linkFault = new.device.linkFault then [] else [.linkToArbiter, .linkToEngine])

/-- R171: as CELL_UV clears on cell A, the allowance or bridge that the path held ends: cell A may supply again from the
next publication. -/
def endAllowance (s : State) : State := s.setPathA { s.pathA with supply := 0 }

/-- R168, R171: the fault sets, the first-fault record and the thermal state become those given, and a raise is told. -/
def enterFaults (new : Protection) (s : State) : State :=
  raiseIf (s.prot.gains new) tellRaise (raiseIf (s.prot.cellA.uv && !new.cellA.uv) endAllowance (s.setProt new))

/-- R167, R168: the monitor's part of a sample arrival. Its whole state stands as the sample leaves it before any block takes
a report; the reports are taken in the order named (log 9). -/
def monitorSample (order : Nat) (s : State) : State :=
  let new := s.prot.judged s.sample
  if new = s.prot then s
  else trigger ((arrange order (reportsOf s.prot new)).foldl (fun s x => takeReport x s) (enterFaults new s))

/-- R173: an over-voltage report. -/
def inputOvReport (high : Bool) (s : State) : State :=
  if high = s.prot.device.inputOv then s else trigger (enterFaults (s.prot.testInputOv high) s)

/-! ### The start-up control (chapter 11) -/

/-- R34: a port's dormancy timer starts from the event at hand, unless the dormancy time is 0. -/
def State.dormancyFrom (s : State) : Timer :=
  if s.settings.dormancy = 0 then none else some (s.now + s.settings.dormancy * 1000)

def startDormancy (p : Port) (s : State) : State := s.setPort p { s.port p with dormancy := s.dormancyFrom }

/-- R200: autonomous start of one channel. -/
def autoStart (c : Cell) (n : Nat) (s : State) : State := if s.latched c then s else startChannel c n s

/-- R200: the autonomous start is decided. -/
def autoStartAll (s : State) : State :=
  if s.settings.autoStart && s.input.state != .detached then
    autoStart .b s.settings.slotB (autoStart .a s.settings.slotA s)
  else s

/-- R200: LOADING ends. Triggers raised inside the event start no pass; the one trigger at its end covers them (R67). -/
def endLoading (s : State) : State :=
  let s := takeInput s.input.limit s
  let s := startDormancy .input (startDormancy .hub (startDormancy .main s))
  let s := autoStartAll s
  trigger (raiseAll .ready (s.setPower { s.power with phase := .running }))

/-- R200: whether LOADING can end. -/
def State.loaded (s : State) : Bool :=
  s.power.phase == .loading && s.power.copied && s.seq.latest.isSome && !s.power.rstnLow

def endLoadingTest (s : State) : State := if s.loaded then endLoading s else s

end Sys2Proof.Machine
end

