-- ==== Sys2Proof/Machine/Layout.lean ====
section
/-! DEFINITION. Layouts: the records and reply payloads that software reads (R195 to R197), and the reply frame that a
read transaction returns (R183). -/

namespace Sys2Proof.Machine

/-! ### Codes of enumerated fields -/

/-- R195. -/
def ReplyCode.byte : ReplyCode → Byte
  | .ok => 0x00
  | .pending => 0x01
  | .notReady => 0x02
  | .unknown => 0x03
  | .badLength => 0x04
  | .notPermitted => 0x05
  | .badValue => 0x06
  | .full => 0x07
  | .overCap => 0x08
  | .notOwner => 0x09
  | .notFound => 0x0A
  | .busy => 0x0B
  | .inUse => 0x0C
  | .refused => 0x0D

def portCode : Port → Nat
  | .main => 1
  | .hub => 2
  | .input => 3

def Owner.code : Owner → Nat
  | .internal => 0
  | .port p => portCode p

def ClaimClass.code : ClaimClass → Nat
  | .essential => 0
  | .elective => 1

def Standing.code : Standing → Nat
  | .granted => 0
  | .partly => 1
  | .deferred => 2
  | .suspended => 3

def StepKind.code : StepKind → Nat
  | .precharge => 0
  | .current => 1
  | .voltage => 2
  | .topoff => 3
  | .rest => 4
  | .endStep => 5

def PowerState.code : PowerState → Nat
  | .active => 0
  | .monitor => 1
  | .ship => 2

def InputState.code : InputState → Nat
  | .detached => 0
  | .dflt => 1
  | .contracted => 2
  | .releasing => 3
  | .released => 4

def Thermal.code : Thermal → Nat
  | .none => 0
  | .derating _ => 1
  | .zero => 2

def Thermal.degrees : Thermal → Nat
  | .none => 0
  | .derating t => t
  | .zero => 0

def BudgetLimit.code : BudgetLimit → Nat
  | .input => 0
  | .ceiling => 1
  | .thermal => 2

def LinkState.code : LinkState → Nat
  | .free => 0
  | .held _ => 1
  | .changeover => 2

/-- R196: a holder, or the last of the pair. -/
def requesterCode : Option Requester → Nat
  | none => 0
  | some .supply => 1
  | some .chargeB => 2
  | some .balance => 3

def HoldState.code : HoldState → Nat
  | .off => 0
  | .pending => 1
  | .effective => 2

def ChannelState.code : ChannelState → Nat
  | .idle => 0
  | .active => 1
  | .done => 2
  | .fault => 3

def ChannelFault.code : ChannelFault → Nat
  | .none => 0
  | .stepTimeout => 1
  | .chainLoop => 2
  | .cellFault => 3

def FaultKind.code : FaultKind → Nat
  | .cellOv => 1
  | .cellHot => 2
  | .cellUv => 3
  | .dieHot => 4
  | .inputOv => 5
  | .linkFault => 6

def FaultPlace.code : FaultPlace → Nat
  | .cellA => 0
  | .cellB => 1
  | .device => 2

def Direction.code : Direction → Nat
  | .aToB => 0
  | .bToA => 1
  | .towardLower => 2

def Way.code : Way → Nat
  | .aToB => 0
  | .bToA => 1

def Mode.code : Mode → Nat
  | .count => 0
  | .untilLevel => 1

def JobState.code : JobState → Nat
  | .queued => 0
  | .running => 1
  | .suspended => 2

def EndReason.code : EndReason → Nat
  | .countDone => 1
  | .levelReached => 2
  | .sourceLow => 3
  | .destFull => 4
  | .cancelled => 5
  | .fault => 6
  | .reset => 7

/-! ### Records -/

/-- R195, R196: an effective ceiling, 0xFFFFFFFF for none. -/
def ceilingBytes (c : Option Nat) : List Byte := bytesOf 4 (c.getD 0xFFFFFFFF)

/-- R196: a slot, 255 for none. -/
def slotBytes (n : Option Nat) : List Byte := bytesOf 1 (n.getD 255)

/-- R197: the floor as a record shows it, 0 for an ESSENTIAL claim. -/
def Claim.shownFloor (c : Claim) : Nat :=
  match c.cls with
  | .essential => 0
  | .elective => c.floor

/-- R197: the claim record of a claim of the given age. -/
def claimRecord (age : Nat) (c : Claim) : List Byte :=
  bytesOf 1 c.id ++ bytesOf 1 c.owner.code ++ bytesOf 1 c.cls.code ++ bytesOf 2 c.requested ++ bytesOf 2 c.shownFloor
    ++ bytesOf 1 age ++ bytesOf 2 c.grant ++ bytesOf 1 c.standing.code

/-- R197: the step record. -/
def stepRecordBytes (r : StepRecord) : List Byte :=
  bytesOf 1 r.kind.code ++ bytesOf 2 r.current ++ bytesOf 2 r.volt ++ bytesOf 2 r.endCurrent ++ bytesOf 2 r.duration
    ++ bytesOf 2 r.timeout ++ signedBytesOf 1 r.cold ++ signedBytesOf 1 r.hot ++ bytesOf 1 r.next

/-- R185, R186, R194: a notice set or a mask. -/
def noticeBytes (b : NoticeBits) : List Byte := bytesOf 2 b.toNat

/-- R196: the die temperature; a value that one signed byte does not hold shows as a free value (log 33). -/
def dieByte (t : Int) : List Byte := if -128 ≤ t && t ≤ 127 then signedBytesOf 1 t else [Config.dieByteOf t]

/-- R196: offsets 6 to 24. -/
def sampleBytes (x : Sample) : List Byte :=
  bytesOf 2 x.vA ++ bytesOf 2 x.vB ++ signedBytesOf 2 x.iA ++ signedBytesOf 2 x.iB ++ signedBytesOf 2 x.tA
    ++ signedBytesOf 2 x.tB ++ bytesOf 2 x.vIn ++ dieByte x.tDie ++ bytesOf 2 x.linkCurrent ++ bytesOf 2 x.linkCharge

/-- R62, R196: offsets 25 to 38. -/
def inputBytes (x : InputCtl) (ceilings : List Ceiling) : List Byte :=
  bytesOf 1 x.state.code ++ bytesOf 2 x.inForce.voltage ++ bytesOf 2 x.inForce.current
    ++ bytesOf 1 (bitsOf [x.held.isSome, x.pendingContract.isSome, x.recovery.isSome]) ++ bytesOf 2 x.droopLimit
    ++ bytesOf 1 (x.requester.elim 0 portCode) ++ bytesOf 1 ceilings.length ++ ceilingBytes (effectiveCeiling ceilings)

/-- R196: offsets 41 to 82. -/
def publicationBytes (x : Publication) : List Byte :=
  bytesOf 2 x.count ++ bytesOf 4 x.pConv ++ bytesOf 4 x.pBud ++ bytesOf 1 x.limit.code ++ bytesOf 2 x.essential
    ++ bytesOf 2 x.deficit ++ bytesOf 4 x.elective ++ bytesOf 4 x.pChg ++ bytesOf 4 x.gA ++ bytesOf 4 x.gB
    ++ bytesOf 2 x.cA ++ bytesOf 2 x.cB ++ bytesOf 1 (bitsOf [x.starvedA, x.starvedB, x.supply]) ++ bytesOf 2 x.sA
    ++ bytesOf 2 x.sB ++ bytesOf 2 x.shortfall

/-- R196: a channel report, 13 bytes; `request` is CHARGE_B in channel B's report and false in channel A's. -/
def channelBytes (profile : List StepRecord) (request : Bool) (ch : Channel) : List Byte :=
  bytesOf 1 ch.state.code ++ slotBytes ch.slot ++ slotBytes (ch.slot.map fun n => (recordAt profile n).kind.code)
    ++ bytesOf 4 ch.timer ++ bytesOf 1 ch.run ++ bytesOf 1 ch.reasons.bits ++ bytesOf 1 ch.code.code
    ++ bytesOf 2 ch.presented ++ bytesOf 1 request.toNat

/-- R196: offsets 109 to 113. -/
def arbiterBytes (a : Arbiter) : List Byte :=
  bytesOf 1 a.link.code ++ bytesOf 1 (requesterCode a.holder) ++ bytesOf 1 a.waiting.bits
    ++ bytesOf 1 (requesterCode a.lastPair)
    ++ bytesOf 1 (bitsOf [a.tenureExpired, a.yieldPending, a.backoffChargeB.isSome, a.backoffBalance.isSome, a.faultLock])

/-- R196: offsets 114 and 115. -/
def holdBytes (h : HoldCtl) : List Byte :=
  bytesOf 1 h.state.code
    ++ bytesOf 1 (bitsOf [h.holders.main.joined, h.holders.hub.joined, h.holders.input.joined])

/-- R196: offsets 119 and 120. With no first fault the place byte is a free value (log 25). -/
def firstFaultBytes : Option (FaultKind × FaultPlace) → List Byte
  | none => [0, Config.placeOfNone]
  | some (k, place) => bytesOf 1 k.code ++ bytesOf 1 place.code

/-- R196: offsets 116 to 120. -/
def faultBytes (x : Protection) : List Byte :=
  bytesOf 1 x.cellA.bits ++ bytesOf 1 x.cellB.bits ++ bytesOf 1 x.device.bits ++ firstFaultBytes x.first

/-- R196: one job entry. -/
def jobEntry (j : Job) : List Byte := bytesOf 1 j.tag ++ bytesOf 1 (portCode j.originator) ++ bytesOf 1 j.state.code

/-- R196: offsets 122 to 133. -/
def jobEntries (q : List Job) : List Byte := (q.flatMap jobEntry ++ List.replicate 12 0).take 12

/-- R196: offsets 134 to 145. -/
def headBytes : List Job → List Byte
  | [] => List.replicate 12 0
  | j :: _ =>
    bytesOf 1 j.direction.code ++ slotBytes (j.resolved.map Way.code) ++ bytesOf 1 j.mode.code ++ bytesOf 2 j.count
      ++ bytesOf 2 j.rate ++ bytesOf 1 (j.tolerance.getD 0) ++ bytesOf 2 j.moved ++ bytesOf 2 j.residue

/-- R196: offsets 146 to 149. -/
def lastResultBytes : Option LastResult → List Byte
  | none => [0, 0, 0, 0]
  | some r => bytesOf 1 r.tag ++ bytesOf 1 r.reason.code ++ bytesOf 2 r.moved

/-- R188, R196: the status record that port p reads; `was` is the power state as the frame was taken. -/
def statusRecord (was : PowerState) (p : Port) (s : State) : List Byte :=
  bytesOf 1 was.code ++ bytesOf 1 (bitsOf [s.ports.main.dormant, s.ports.hub.dormant, s.ports.input.dormant])
    ++ noticeBytes (s.port p).notices ++ noticeBytes (s.port p).mask ++ sampleBytes s.sample
    ++ inputBytes s.input s.ceilings ++ bytesOf 1 s.prot.thermal.code ++ bytesOf 1 s.prot.thermal.degrees
    ++ publicationBytes s.alloc.record ++ channelBytes s.profile false s.chA ++ channelBytes s.profile s.chB.request s.chB
    ++ arbiterBytes s.arb ++ holdBytes s.hold ++ faultBytes s.prot ++ bytesOf 1 s.bal.queue.length
    ++ jobEntries s.bal.queue ++ headBytes s.bal.queue ++ lastResultBytes (s.bal.last.get p)

/-! ### Reply frames (R183, R195) -/

/-- R195: the frame of a reply. -/
def Reply.frame (r : Reply) : List Byte := r.code.byte :: bytesOf 1 r.payload.length ++ r.payload

/-- R179, R191, R198: the ports of the part answer at this target address. -/
def State.addressed (s : State) (address : Nat) : Bool := s.operating && address == Config.targetAddress

/-- R183: what a read transaction from an address returns; none where the port does not answer. -/
def State.readFrame (s : State) (p : Port) (address : Nat) : Option (List Byte) :=
  if !s.addressed address then none
  else some (if (s.port p).busy then Reply.frame { code := .pending, payload := [] } else (s.port p).reply.frame)

/-- R183: the i-th byte of a read transaction; a byte beyond the end of the frame is zero. -/
def State.readByte (s : State) (p : Port) (address i : Nat) : Option Byte := (s.readFrame p address).map fun f => f.getD i 0

end Sys2Proof.Machine
end

