-- ==== Sys2Proof/Machine/Resets.lean ====
section
/-! DEFINITION. The resets of the part and the entry to SHIP: each block at the values of its reset table. -/

namespace Sys2Proof.Machine

/-! ### Power-on reset (R198) -/

/-- R11: the sequencer enters RUNNING at the time `now`. -/
def Sequencer.started (now : Nat) : Sequencer :=
  { running := true, lastArrival := now, prevArrival := now, nextArrival := now + Config.periodActive, latest := none,
    charge := 0 }

/-- R198: a power-on reset that finds VBUS at `level` (R16). The queue, the clock, the OTP and the RSTn line are not
the reset's to change. -/
def resetPowerOn (level : Bool) (s : State) : State :=
  { State.reset with
    pending := s.pending
    now := s.now
    freeUses := s.freeUses
    power := { State.reset.power with rstnLow := s.power.rstnLow }
    present := level
    otp := s.otp
    seq := Sequencer.started s.now
    input := InputCtl.atReset level }

/-! ### Device reset (R201) -/

/-- R178. -/
def Protection.deviceReset (x : Protection) : Protection :=
  { x with
    cellA := { CellFaults.none with uv := x.cellA.uv }
    cellB := { CellFaults.none with uv := x.cellB.uv }
    device := { x.device with linkFault := false } }

/-- R191, R192: a port at a device reset. What it acknowledged is kept (DESIGN CHOICE, log 19). -/
def PortState.deviceReset (q : PortState) : PortState := { PortState.atReset with acks := q.acks }

/-- R7: the bridge allowance, zero only for a cell A that is isolated at this moment (log 35). -/
def State.bridgeAllowance (s : State) : Nat :=
  if s.isolated .a then 0 else (s.seq.latest.map fun x => bridgeCap x.vA).getD 0

/-- R201: the values of every block but the stages. DIE_HOT is kept by R178, and with it what the engine was told of it
(log 34). Settings and profile memory keep what they hold until the new copy completes (DESIGN CHOICE, log 2). -/
def resetBlocks (s : State) : State :=
  { s with
    power := { s.power with state := .active, phase := .loading, copied := false, holdOff := none }
    table := State.reset.table
    input := { InputCtl.atReset s.present with reports := s.input.reports }
    ceilings := []
    alloc := State.reset.alloc
    chA := Channel.atReset
    chB := Channel.atReset
    arb := Arbiter.atReset s.prot.deviceReset.device.linkFault
    bal := { State.reset.bal with dieHot := s.bal.dieHot }
    hold := State.reset.hold
    prot := s.prot.deviceReset
    ports := { main := s.ports.main.deviceReset, hub := s.ports.hub.deviceReset, input := s.ports.input.deviceReset } }

/-- R10: the stages take zero targets, and the cell A path its bridge. The blocks that their settled events go to are in
their reset states and leave them alone. -/
def resetStages (s : State) : State :=
  let s := linkFollow (takeCharge 0 (takeInput 0 s))
  s.setPathA { s.pathA with supply := s.bridgeAllowance, bridge := true }

/-- R201: the device reset. In MONITOR the sequencer's next arrival is set as on leaving MONITOR (R11, log 21). -/
def resetDevice (s : State) : State := resetStages (resetBlocks (leaveMonitor s))

/-! ### SHIP (R204) -/

/-- R10, R204: a path opened, or a link turned off. -/
def Stage.off {α : Type} (zero : α) : Stage α := { target := zero, output := zero, ramping := false }

/-- R132: the arbiter on entering SHIP. -/
def Arbiter.shipped (a : Arbiter) : Arbiter :=
  { a with link := .free, waiting := { supply := false, chargeB := false, balance := false }, tenure := none,
           tenureExpired := false, yieldPending := false, backoffChargeB := none, backoffBalance := none }

/-- R191, R204: a port on entering SHIP. -/
def PortState.shipped (q : PortState) : PortState :=
  { q with slot := none, busy := false, handed := none, notices := 0, dormancy := none }

/-- R204: a channel on entering SHIP; an ACTIVE one leaves ACTIVE (R105). -/
def Channel.shipped (ch : Channel) : Channel :=
  { (if ch.state = .active then ch.leave .idle else ch) with state := .idle, slot := none, code := .none, request := false }

/-- R204: entering SHIP, as one event. The hold control's view of the link becomes FREE, which R165 does not name (DESIGN
CHOICE, log 28). -/
def enterShip (s : State) : State :=
  { s with
    power := { s.power with state := .ship, holdOff := none }
    seq := { s.seq with running := false }
    pathA := { stage := Stage.off 0, supply := 0, bridge := false }
    linkStage := Stage.off Flow.zero
    alloc := { s.alloc with pass := none, rerun := false }
    chA := s.chA.shipped
    chB := s.chB.shipped
    arb := s.arb.shipped
    bal := { s.bal with queue := [] }
    hold := { s.hold with state := .off, holders := PerPort.all Holder.out, view := .free }
    ports := { main := s.ports.main.shipped, hub := s.ports.hub.shipped, input := s.ports.input.shipped } }

end Sys2Proof.Machine
end

