-- ==== Sys2Proof/Machine/Ports.lean ====
section
/-! DEFINITION. The port interface: how a frame is taken, judged and answered, waking and dormancy (R34 to R36, R180 to
R182, R190). -/

namespace Sys2Proof.Machine

/-! ### Claims of a port that sleeps or wakes (R35, R36) -/

def Claim.ownedBy (p : Port) (c : Claim) : Bool := c.owner == .port p

/-- R35. -/
def Claim.suspend (p : Port) (c : Claim) : Claim :=
  if c.ownedBy p && c.cls == .elective then { c with grant := 0, standing := .suspended } else c

/-- R36. -/
def Claim.wake (p : Port) (c : Claim) : Claim :=
  if c.ownedBy p && c.standing == .suspended then { c with standing := .deferred } else c

def ClaimTable.suspend (p : Port) (x : ClaimTable) : ClaimTable := { x with claims := x.claims.map (Claim.suspend p) }
def ClaimTable.wake (p : Port) (x : ClaimTable) : ClaimTable := { x with claims := x.claims.map (Claim.wake p) }

/-- R34, R36, R190: a taken frame restarts the dormancy timer and wakes a dormant port. -/
def wakePort (p : Port) (s : State) : State :=
  let q := s.port p
  let s := s.setPort p { q with dormant := false, dormancy := s.dormancyFrom }
  if q.dormant then trigger (s.setTable (s.table.wake p)) else s

/-! ### Taking a frame (R180, R181) -/

/-- R180, R191, R198: what port p acknowledges of a write transaction of `count` bytes: the address, then each byte. A busy
port accepts no byte, one that is free the first 32; a part in SHIP or without supply does not answer to its address. -/
def State.acknowledges (s : State) (p : Port) (count : Nat) : List Bool :=
  s.addressed Config.targetAddress :: (List.range count).map fun n =>
    s.operating && !(s.port p).busy && decide (n < Config.frameBytes)

/-- R180: a transaction that is turned away leaves nothing but its acknowledges (log 19). -/
def turnAway (p : Port) (count : Nat) (s : State) : State :=
  s.setPort p { s.port p with acks := s.acknowledges p count }

/-- R180: a port whose busy flag is clear takes the frame that a transaction wrote, its first 32 bytes, into its slot. -/
def fillSlot (p : Port) (written : List Byte) (s : State) : State :=
  s.setPort p { s.port p with slot := some (written.take Config.frameBytes), busy := true
                              acks := s.acknowledges p written.length }

/-- R181 steps 4 and 5. -/
def judgeFrame (p : Port) (r : Request) (fr : Framing) : Option ReplyCode :=
  if !Framing.fits fr r then some .badLength
  else if !r.ports.allows p then some .notPermitted
  else none

/-- R180, R181: a frame at a port: turned away while the port is busy; answered NOT_READY in LOADING; else it wakes the
port and leaves MONITOR, and is refused by `check` or handed to the block that owns it. A part in SHIP or without
supply acknowledges nothing (R191, R198). -/
def takeFrame (p : Port) (i : Instr) (check : Option ReplyCode) (own : State → State) (s : State) : State :=
  if !s.operating || (s.port p).busy then turnAway p (writtenBytes i).length s
  else if s.power.phase = .loading then refuse p .notReady (fillSlot p (writtenBytes i) s)
  else
    let s := leaveMonitor (wakePort p (fillSlot p (writtenBytes i) s))
    match check with
    | some code => refuse p code s
    | none => own s

/-- R181: a frame whose code names the request r. -/
def takeRequest (p : Port) (r : Request) (fr : Framing) (i : Instr) (own : State → State) (s : State) : State :=
  takeFrame p i (judgeFrame p r fr) own s

/-! ### Placing the reply (R182) -/

/-- R155: a reply to the HOLD that entered PENDING makes its entry check due. -/
def Holder.answered (h : Holder) : Holder :=
  { h with unanswered := false, due := if h.unanswered then h.due + 1 else h.due }

/-- R182: the port places the handed reply and clears its busy flag. -/
def placeReply (p : Port) (s : State) : State :=
  let q := s.port p
  match q.handed with
  | some r =>
    let s := s.setPort p { q with slot := none, busy := false, handed := none, reply := r }
    s.setHolder p (s.holder p).answered
  | none => s

end Sys2Proof.Machine
end

