-- ==== Sys2Proof/Machine/BalanceRequests.lean ====
section
/-! DEFINITION. The meanings of the balance engine's requests: BAL_QUEUE, BAL_CANCEL (R136, R137, R146). -/

namespace Sys2Proof.Machine

/-- R136: the next value after a tag. -/
def nextTag (n : Nat) : Nat := (n + 1) % 256

/-- R136: the first tag from n on that no job of the queue holds, passing over at most k values. -/
def freshTag (q : List Job) : Nat → Nat → Nat
  | 0, n => n
  | k + 1, n => if q.any (fun j => j.tag == n) then freshTag q k (nextTag n) else n

/-- R137: the job an accepted BAL_QUEUE places. -/
def newJob (tag : Nat) (p : Port) (d : Direction) (m : Mode) (count rate tolerance : Nat) : Job :=
  { tag := tag, originator := p, direction := d, mode := m, count := count, rate := judgeRate rate,
    tolerance := judgeTolerance d m tolerance, resolved := none, moved := 0, residue := 0, state := .queued,
    heldSince := none, runs := [] }

/-- R137: the job joins the back of the queue; in an empty queue it becomes the head. -/
def placeJob (j : Job) (s : State) : State :=
  let t := s.setBal { s.bal with queue := s.bal.queue ++ [j], tagCounter := nextTag j.tag }
  if s.bal.queue.isEmpty then newHead startChecks t else t

/-- R137: the reply to an accepted BAL_QUEUE. -/
def queueReply (j : Job) (place : Nat) : List Byte :=
  bytesOf 1 j.tag ++ bytesOf 2 j.rate ++ bytesOf 1 (j.tolerance.getD 0) ++ bytesOf 1 place

/-- R137 steps 5 and 6, and the placing. -/
def judgeQueue (p : Port) (d : Direction) (m : Mode) (count rate tolerance : Nat) (s : State) : State :=
  if Config.queueDepth ≤ s.bal.queue.length then refuse p .full s
  else if s.latched .a || s.latched .b then refuse p .refused s
  else
    let j := newJob (freshTag s.bal.queue Config.queueDepth s.bal.tagCounter) p d m count rate tolerance
    handReply p .ok (queueReply j s.bal.queue.length) (placeJob j s)

/-- R137. -/
def takeBalQueue (p : Port) (direction mode count rate tolerance : Nat) (s : State) : State :=
  match directionOf direction, modeOf mode with
  | some d, some m =>
    if count = 0 || Config.countMax < count then refuse p .badValue s else judgeQueue p d m count rate tolerance s
  | some _, none => refuse p .badValue s
  | none, _ => refuse p .badValue s

/-- BAL_QUEUE, R137. -/
def execBalQueue (p : Port) (fr : Framing) (direction mode count rate tolerance : Nat) (s : State) : Out :=
  .next (takeRequest p .balQueue fr (.balQueue p fr direction mode count rate tolerance)
    (takeBalQueue p direction mode count rate tolerance) s)

/-- R146: the reply to an accepted BAL_CANCEL. -/
def cancelReply (j : Job) : List Byte := bytesOf 1 j.tag ++ bytesOf 1 j.state.code ++ bytesOf 2 j.moved

/-- R145, R146: a job of the queue ends CANCELLED, the head or a job behind it. -/
def cancelJob (j : Job) (s : State) : State :=
  if s.bal.queue.head? = some j then finishHead .cancelled s
  else recordEnding j .cancelled (s.setQueue (s.bal.queue.filter (fun k => k.tag != j.tag)))

/-- R146. -/
def takeBalCancel (p : Port) (tag : Nat) (s : State) : State :=
  match s.bal.queue.find? (fun j => j.tag == tag) with
  | none => refuse p .notFound s
  | some j => if j.originator = p then handReply p .ok (cancelReply j) (cancelJob j s) else refuse p .notOwner s

/-- BAL_CANCEL, R146. -/
def execBalCancel (p : Port) (fr : Framing) (tag : Nat) (s : State) : Out :=
  .next (takeRequest p .balCancel fr (.balCancel p fr tag) (takeBalCancel p tag) s)

end Sys2Proof.Machine
end

