-- ==== Sys2Proof/Machine/ChannelRequests.lean ====
section
/-! DEFINITION. The meanings of the requests to channels and profile memory: CH_START, CH_STOP, STEP_WRITE, STEP_READ
(R109 to R113). -/

namespace Sys2Proof.Machine

/-- R109: the reply to an accepted start. -/
def startReply (ch : Channel) : List Byte := bytesOf 1 ch.state.code ++ slotBytes ch.slot ++ bytesOf 1 ch.code.code

/-- R109 steps 2 and 3, and the start. -/
def judgeStart (p : Port) (c : Cell) (slot : Nat) (s : State) : State :=
  if (s.channel c).state = .active then refuse p .busy s
  else if s.latched c then refuse p .refused s
  else
    let t := startChannel c slot s
    handReply p .ok (startReply (t.channel c)) t

/-- R109. -/
def takeChStart (p : Port) (cell slot : Nat) (s : State) : State :=
  match cellOf cell with
  | none => refuse p .badValue s
  | some c => if Config.profileSlots ≤ slot then refuse p .badValue s else judgeStart p c slot s

/-- CH_START, R109. -/
def execChStart (p : Port) (fr : Framing) (cell slot : Nat) (s : State) : Out :=
  .next (takeRequest p .chStart fr (.chStart p fr cell slot) (takeChStart p cell slot) s)

/-- R110. -/
def takeChStop (p : Port) (cell : Nat) (s : State) : State :=
  match cellOf cell with
  | none => refuse p .badValue s
  | some c => handReply p .ok (bytesOf 1 (s.channel c).state.code) (commit c (Change.stop (s.channel c)) s)

/-- CH_STOP, R110. -/
def execChStop (p : Port) (fr : Framing) (cell : Nat) (s : State) : Out :=
  .next (takeRequest p .chStop fr (.chStop p fr cell) (takeChStop p cell) s)

/-- R111 step 2: the slot is the present slot of a channel in ACTIVE. -/
def Channel.uses (n : Nat) (ch : Channel) : Bool := ch.state == .active && ch.slot == some n

/-- R111. -/
def takeStepWrite (p : Port) (slot : Nat) (r : RawStep) (s : State) : State :=
  if Config.profileSlots ≤ slot then refuse p .badValue s
  else if s.chA.uses slot || s.chB.uses slot then refuse p .inUse s
  else match judgeStep r with
    | none => refuse p .badValue s
    | some x => handReply p .ok (stepRecordBytes x) { s with profile := s.profile.set slot x }

/-- STEP_WRITE, R111. -/
def execStepWrite (p : Port) (fr : Framing) (slot : Nat) (r : RawStep) (s : State) : Out :=
  .next (takeRequest p .stepWrite fr (.stepWrite p fr slot r) (takeStepWrite p slot r) s)

/-- R113. -/
def takeStepRead (p : Port) (slot : Nat) (s : State) : State :=
  if Config.profileSlots ≤ slot then refuse p .badValue s
  else handReply p .ok (stepRecordBytes (recordAt s.profile slot)) s

/-- STEP_READ, R113. -/
def execStepRead (p : Port) (fr : Framing) (slot : Nat) (s : State) : Out :=
  .next (takeRequest p .stepRead fr (.stepRead p fr slot) (takeStepRead p slot) s)

end Sys2Proof.Machine
end

