-- ==== Sys2Proof/Machine/ClaimRequests.lean ====
section
/-! DEFINITION. The meanings of the claim table's requests: CLAIM, AMEND, RELEASE, CLAIM_READ (chapter 02). -/

namespace Sys2Proof.Machine

/-! ### Reading the table (R17 to R19) -/

/-- R17: the claim a slot holds. -/
def claimAt (l : List Claim) (id : Nat) : Option Claim := l.find? (fun c => c.id == id)

/-- R18: the age of the claim in a slot. -/
def ageOf (l : List Claim) (id : Nat) : Nat := l.findIdx (fun c => c.id == id)

/-- R18: the lowest-numbered free slot among those from n on, with k slots to look at. -/
def lowestFree (l : List Claim) : Nat → Nat → Nat
  | 0, n => n
  | k + 1, n => if l.any (fun c => c.id == n) then lowestFree l k (n + 1) else n

/-- R19: how many claims a port owns. -/
def ownedCount (p : Port) (l : List Claim) : Nat := (l.filter (Claim.ownedBy p)).length

def Claim.isStartUp (c : Claim) : Bool := c.owner == .internal

/-! ### CLAIM (R20, R21, R24) -/

/-- R24: the claims that a CLAIM is judged against; the main port's essential claim leaves the start-up claim out. -/
def claimBase (p : Port) (cls : ClaimClass) (l : List Claim) : List Claim :=
  if p = .main && cls = .essential then l.filter (fun c => !c.isStartUp) else l

/-- R21: the limits. -/
def judgeLimits (p : Port) (cls : ClaimClass) (amount : Nat) (base : List Claim) : Option ReplyCode :=
  if Config.claimSlots ≤ base.length || Config.claimsPerPort ≤ ownedCount p base then some .full
  else if cls = .essential && decide (Config.essentialCap < essentialTotal base + amount) then some .overCap
  else none

/-- R21: the record a CLAIM admits. -/
def newClaim (p : Port) (cls : ClaimClass) (amount floor admission : Nat) (base : List Claim) : Claim :=
  { id := lowestFree base Config.claimSlots 0, owner := .port p, cls := cls, requested := amount, floor := floor, grant := 0,
    standing := .deferred, admission := admission }

/-- R21, R24: the admission, as one change to the table. -/
def admitClaim (p : Port) (cls : ClaimClass) (amount floor : Nat) (s : State) : State :=
  let base := claimBase p cls s.table.claims
  let c := newClaim p cls amount floor s.table.nextAdmission base
  handReply p .ok (claimRecord base.length c)
    (trigger (s.setTable { claims := base ++ [c], nextAdmission := s.table.nextAdmission + 1 }))

/-- R20, R21: the claim table takes a CLAIM. -/
def takeClaim (p : Port) (cls requested floor : Nat) (s : State) : State :=
  match classOf cls with
  | none => refuse p .badValue s
  | some k =>
    match judgeAmounts k requested floor with
    | none => refuse p .badValue s
    | some (amount, least) =>
      match judgeLimits p k amount (claimBase p k s.table.claims) with
      | some code => refuse p code s
      | none => admitClaim p k amount least s

/-- CLAIM, R20 to R24. -/
def execClaim (p : Port) (fr : Framing) (cls requested floor : Nat) (s : State) : Out :=
  .next (takeRequest p .claim fr (.claim p fr cls requested floor) (takeClaim p cls requested floor) s)

/-! ### AMEND (R26 to R28) -/

/-- R27: the amendment sends the claim to the back. -/
def rises (c : Claim) (amount floor : Nat) : Bool := decide (c.requested < amount) || decide (c.floor < floor)

/-- R26, R27: the table after an accepted amendment. -/
def amendList (l : List Claim) (c : Claim) (amount floor : Nat) : List Claim :=
  let new := { c with requested := amount, floor := floor }
  if rises c amount floor then l.filter (fun d => d.id != c.id) ++ [new]
  else l.map (fun d => if d.id == c.id then new else d)

/-- R28: the essential total with the claim's amount replaced. -/
def amendedTotal (l : List Claim) (c : Claim) (amount : Nat) : Nat := essentialTotal l - c.requested + amount

/-- R26, R27: an accepted AMEND. -/
def amendClaim (p : Port) (c : Claim) (amount floor : Nat) (s : State) : State :=
  let l := amendList s.table.claims c amount floor
  handReply p .ok (claimRecord (ageOf l c.id) { c with requested := amount, floor := floor })
    (trigger (s.setTable { s.table with claims := l }))

/-- R26 steps 4 and 5, for the claim found. -/
def judgeAmend (p : Port) (c : Claim) (requested floor : Nat) (s : State) : State :=
  match judgeAmounts c.cls requested floor with
  | none => refuse p .badValue s
  | some (amount, least) =>
    if c.cls = .essential && decide (Config.essentialCap < amendedTotal s.table.claims c amount) then refuse p .overCap s
    else amendClaim p c amount least s

/-- R26: the claim table takes an AMEND. -/
def takeAmend (p : Port) (id requested floor : Nat) (s : State) : State :=
  if Config.claimSlots ≤ id then refuse p .badValue s
  else match claimAt s.table.claims id with
    | none => refuse p .notFound s
    | some c => if c.ownedBy p then judgeAmend p c requested floor s else refuse p .notOwner s

/-- AMEND, R26 to R28. -/
def execAmend (p : Port) (fr : Framing) (id requested floor : Nat) (s : State) : Out :=
  .next (takeRequest p .amend fr (.amend p fr id requested floor) (takeAmend p id requested floor) s)

/-! ### RELEASE (R25, R29) and CLAIM_READ (R30) -/

/-- R25, R29: whether a port may release a claim. -/
def Claim.releasedBy (p : Port) (c : Claim) : Bool :=
  match c.owner with
  | .port q => q == p
  | .internal => p != .input

/-- R29: the claim leaves the list. -/
def releaseClaim (p : Port) (id : Nat) (s : State) : State :=
  handReply p .ok [] (trigger (s.setTable { s.table with claims := s.table.claims.filter (fun c => c.id != id) }))

/-- R29: the claim table takes a RELEASE. -/
def takeRelease (p : Port) (id : Nat) (s : State) : State :=
  if Config.claimSlots ≤ id then refuse p .badValue s
  else match claimAt s.table.claims id with
    | none => refuse p .notFound s
    | some c => if c.releasedBy p then releaseClaim p id s else refuse p .notOwner s

/-- RELEASE, R25, R29. -/
def execRelease (p : Port) (fr : Framing) (id : Nat) (s : State) : Out :=
  .next (takeRequest p .release fr (.release p fr id) (takeRelease p id) s)

/-- R30: the claim table takes a CLAIM_READ. -/
def takeClaimRead (p : Port) (id : Nat) (s : State) : State :=
  if Config.claimSlots ≤ id then refuse p .badValue s
  else match claimAt s.table.claims id with
    | none => refuse p .notFound s
    | some c => handReply p .ok (claimRecord (ageOf s.table.claims id) c) s

/-- CLAIM_READ, R30. -/
def execClaimRead (p : Port) (fr : Framing) (id : Nat) (s : State) : Out :=
  .next (takeRequest p .claimRead fr (.claimRead p fr id) (takeClaimRead p id) s)

end Sys2Proof.Machine
end

