-- ==== Sys2Proof/Machine/HoldRequests.lean ====
section
/-! DEFINITION. The meanings of the charge hold's requests and events: HOLD, UNHOLD, HOLD_ENTRY_CHECK, HOLD_EXPIRY
(R154, R155, R159, R160). -/

namespace Sys2Proof.Machine

/-- R154: the reply to a HOLD. -/
def holdReply (effective : Bool) (h : HoldCtl) : List Byte := bytesOf 1 effective.toNat ++ bytesOf 1 h.count

/-- R154: HOLD from a port that is not in the set. -/
def joinHold (p : Port) (s : State) : State :=
  match s.hold.state with
  | .off =>
    let t := s.setHolder p { s.holder p with joined := true, expiry := none, unanswered := true }
    handReply p .ok (holdReply false t.hold) (beginHold t)
  | .pending =>
    let t := s.setHolder p { s.holder p with joined := true, expiry := none }
    handReply p .ok (holdReply false t.hold) t
  | .effective =>
    let t := s.setHolder p { s.holder p with joined := true, expiry := some (s.now + Config.holdMs) }
    handReply p .ok (holdReply true t.hold) t

/-- R154. -/
def takeHold (p : Port) (s : State) : State :=
  if (s.holder p).joined then handReply p .ok (holdReply (s.hold.state == .effective) s.hold) s else joinHold p s

/-- HOLD, R154. -/
def execHold (p : Port) (fr : Framing) (s : State) : Out :=
  .next (takeRequest p .hold fr (.hold p fr) (takeHold p) s)

/-- R160: the reply to an UNHOLD. -/
def unholdReply (h : HoldCtl) : List Byte := bytesOf 1 h.state.code ++ bytesOf 1 h.count

/-- R160. -/
def takeUnhold (p : Port) (order : Nat) (s : State) : State :=
  if (s.holder p).joined then
    let t := leaveHold p order true s
    handReply p .ok (unholdReply t.hold) t
  else refuse p .notFound s

/-- UNHOLD, R160. -/
def execUnhold (p : Port) (fr : Framing) (order : Nat) (s : State) : Out :=
  .next (takeRequest p .unhold fr (.unhold p fr order) (takeUnhold p order) s)

/-- R155: a due entry check of port p. -/
def entryCheck (p : Port) (s : State) : State :=
  if (s.holder p).due = 0 then s
  else holdTest (s.setHolder p { s.holder p with due := (s.holder p).due - 1 })

/-- HOLD_ENTRY_CHECK, R155. -/
def execHoldEntryCheck (p : Port) (s : State) : Out := .next (if s.operating then entryCheck p s else s)

/-- R159: a holder's timer expires. -/
def holderExpires (p : Port) (order : Nat) (s : State) : State :=
  match (s.holder p).expiry with
  | none => s
  | some t => leaveHold p order true (raiseNotice .holdExpired p (reach t s))

/-- HOLD_EXPIRY, R159. -/
def execHoldExpiry (p : Port) (order : Nat) (s : State) : Out :=
  .next (if s.operating then holderExpires p order s else s)

end Sys2Proof.Machine
end

