-- ==== Sys2Proof/Machine/InputRequests.lean ====
section
/-! DEFINITION. The meanings of the requests of chapter 03: CEIL_PUSH, CEIL_POP, CONTRACT_SET, INPUT_RELEASE,
INPUT_RESUME. -/

namespace Sys2Proof.Machine

/-! ### The ceiling stack (R55 to R57) -/

/-- R56, R57: the reply to a push or a pop. -/
def ceilingReply (ceiling : Nat) (after : List Ceiling) : List Byte :=
  bytesOf 4 ceiling ++ bytesOf 1 after.length ++ ceilingBytes (effectiveCeiling after)

/-- R56. -/
def takeCeilPush (p : Port) (ceiling : Nat) (s : State) : State :=
  if Config.ceilingDepth ≤ s.ceilings.length then refuse p .full s
  else
    let limit := min ceiling Config.ceilingMax
    let after := { owner := p, limit := limit } :: s.ceilings
    handReply p .ok (ceilingReply limit after) (trigger { s with ceilings := after })

/-- CEIL_PUSH, R56. -/
def execCeilPush (p : Port) (fr : Framing) (ceiling : Nat) (s : State) : Out :=
  .next (takeRequest p .ceilPush fr (.ceilPush p fr ceiling) (takeCeilPush p ceiling) s)

/-- R57: the topmost entry of a port, and the stack without it. -/
def popCeiling (p : Port) : List Ceiling → Option (Nat × List Ceiling)
  | [] => none
  | e :: rest =>
    if e.owner = p then some (e.limit, rest)
    else (popCeiling p rest).map (fun y => (y.1, e :: y.2))

/-- R57. -/
def takeCeilPop (p : Port) (s : State) : State :=
  match popCeiling p s.ceilings with
  | none => refuse p .notFound s
  | some (limit, after) => handReply p .ok (ceilingReply limit after) (trigger { s with ceilings := after })

/-- CEIL_POP, R57. -/
def execCeilPop (p : Port) (fr : Framing) (s : State) : Out :=
  .next (takeRequest p .ceilPop fr (.ceilPop p fr) (takeCeilPop p) s)

/-! ### The contract (R44, R45) -/

/-- R45: the contract takes force. -/
def InputCtl.inForceNow (c : Contract) (x : InputCtl) : InputCtl :=
  { x with state := .contracted, held := some c, droopLimit := c.current, recovery := none }

/-- R44: the reply to an accepted CONTRACT_SET. -/
def contractReply (c : Contract) (stored : Bool) : List Byte :=
  bytesOf 2 c.voltage ++ bytesOf 2 c.current ++ bytesOf 1 stored.toNat

/-- R45: a judged CONTRACT_SET, by input state. -/
def acceptContract (p : Port) (c : Contract) (s : State) : State :=
  match s.input.state with
  | .detached => refuse p .refused s
  | .dflt => handReply p .ok (contractReply c false)
      (trigger (handLimit (raiseMainHub .contract (s.setInput (s.input.inForceNow c)))))
  | .contracted => handReply p .ok (contractReply c false)
      (trigger (handLimit (raiseMainHub .contract (s.setInput (s.input.inForceNow c)))))
  | .releasing => handReply p .ok (contractReply c true) (s.setInput { s.input with pendingContract := some c })
  | .released => handReply p .ok (contractReply c true) (s.setInput { s.input with pendingContract := some c })

/-- R44, R45. -/
def takeContractSet (p : Port) (voltage current : Nat) (s : State) : State :=
  if voltage < Config.contractVoltageMin || Config.contractVoltageMax < voltage then refuse p .badValue s
  else acceptContract p { voltage := voltage, current := min current Config.contractCurrentMax } s

/-- CONTRACT_SET, R44, R45. -/
def execContractSet (p : Port) (fr : Framing) (voltage current : Nat) (s : State) : Out :=
  .next (takeRequest p .contractSet fr (.contractSet p fr voltage current) (takeContractSet p voltage current) s)

/-! ### Release and resume (R47 to R49) -/

/-- R47, R48: a release begins, and completes at once where the stage stands settled at zero. -/
def beginRelease (p : Port) (s : State) : State :=
  trigger (releaseAtOnce (handLimit (s.setInput { s.input with state := .releasing, requester := some p, recovery := none })))

/-- R47. -/
def takeInputRelease (p : Port) (s : State) : State :=
  match s.input.state with
  | .detached => refuse p .refused s
  | .dflt => handReply p .ok [] (beginRelease p s)
  | .contracted => handReply p .ok [] (beginRelease p s)
  | .releasing => handReply p .ok [] s
  | .released => handReply p .ok [] s

/-- INPUT_RELEASE, R47. -/
def execInputRelease (p : Port) (fr : Framing) (s : State) : Out :=
  .next (takeRequest p .inputRelease fr (.inputRelease p fr) (takeInputRelease p) s)

/-- R49: the controller after a resume. -/
def InputCtl.resumed (x : InputCtl) : InputCtl :=
  let held := match x.pendingContract with
    | some c => some c
    | none => x.held
  let y := { x with held := held, pendingContract := none, requester := none,
                    state := if held.isSome then InputState.contracted else .dflt }
  { y with droopLimit := y.inForce.current }

/-- R49. -/
def resumeInput (s : State) : State :=
  let s := raiseIf s.input.pendingContract.isSome (raiseMainHub .contract) s
  trigger (handLimit (s.setInput s.input.resumed))

/-- R49. -/
def takeInputResume (p : Port) (s : State) : State :=
  match s.input.state with
  | .detached => refuse p .refused s
  | .dflt => handReply p .ok [] s
  | .contracted => handReply p .ok [] s
  | .releasing => handReply p .ok [] (resumeInput s)
  | .released => handReply p .ok [] (resumeInput s)

/-- INPUT_RESUME, R49. -/
def execInputResume (p : Port) (fr : Framing) (s : State) : Out :=
  .next (takeRequest p .inputResume fr (.inputResume p fr) (takeInputResume p) s)

end Sys2Proof.Machine
end

