-- ==== Sys2Proof/Machine/LineEvents.lean ====
section
/-! DEFINITION. The meanings of ATTACH, DETACH and SAMPLE_ARRIVAL (R14, R42, R43). -/

namespace Sys2Proof.Machine

/-! ### The comparator (R15) -/

/-- R42: the input controller at an attach. -/
def InputCtl.attached (x : InputCtl) : InputCtl :=
  { x with state := .dflt, held := none, pendingContract := none, droopLimit := Config.defaultCurrent, recovery := none,
           requester := none }

/-- R6, R9, R15, R42, R203: an attach, of a part that is not in SHIP. R15 names no order among the receivers: the model takes
the input controller with its pass trigger, then the cell A path, then the hinge link (DESIGN CHOICE, log 32). -/
def attachVbus (s : State) : State :=
  let s := leaveMonitor { s with present := true, input := s.input.attached }
  linkFollow (takeCharge s.chA.presented (trigger (handLimit s)))

/-- ATTACH, R42. In SHIP it is a power-on reset that reads VBUS afresh (R205). -/
def execAttach (level : Bool) (s : State) : Out :=
  .next (if !s.power.supplied then s
         else if s.power.state = .ship then resetPowerOn level s
         else if s.present then s
         else attachVbus s)

/-- R43: the input controller at a detach. -/
def InputCtl.detached (x : InputCtl) : InputCtl :=
  { x with state := .detached, held := none, pendingContract := none, droopLimit := Config.defaultCurrent,
           recovery := none, requester := none }

/-- R7: the cell A path takes its bridge. -/
def takeBridge (s : State) : State := s.setPathA { s.pathA with supply := s.bridgeAllowance, bridge := true }

/-- R4, R7, R9, R43, R202: a detach. The input stage's output is zero from here on; a release under way that settles so finds
the input DETACHED and is ignored (R43). R15 names no order among the receivers: the model takes the input controller with
its pass trigger, then the cell A path, then the hinge link (DESIGN CHOICE, log 32). -/
def detachVbus (s : State) : State :=
  let hadContract := s.input.held.isSome
  let s := { s with present := false, input := s.input.detached, inputStage := s.inputStage.cut }
  let s := trigger (handLimit (raiseIf hadContract (raiseMainHub .contract) s))
  monitorTest (linkFollow (takeBridge (takeCharge 0 s)))

/-- DETACH, R43. -/
def execDetach (s : State) : Out := .next (if s.operating && s.present then detachVbus s else s)

/-! ### Sample arrivals (R11 to R14) -/

/-- R11: the sample period of a power state. -/
def periodOf : PowerState → Nat
  | .active => Config.periodActive
  | .monitor => Config.periodMonitor
  | .ship => Config.periodActive

/-- R11 to R14: the arrival becomes the latest sample, and the accumulator restarts. -/
def recordSample (m : RawSample) (s : State) : State :=
  let t := max s.now s.seq.nextArrival
  let charge := min (s.seq.charge + m.linkCharge) Config.linkChargeMax
  { s with
    now := t
    seq := { s.seq with lastArrival := t, prevArrival := s.seq.lastArrival, nextArrival := t + periodOf s.power.state,
                        latest := some (Sample.ofMeasured m charge), charge := 0 } }

/-- R14, R200: the blocks that take a sample, and the start-up control that may end LOADING at it. -/
inductive Receiver where
  | monitor | input | channelA | channelB | engine | allocator | startUp
  deriving DecidableEq, Repr

/-- R14: one block's part of an arrival; `order` is the order of the reports that the monitor makes. -/
def receive (order : Nat) (x : Receiver) (s : State) : State :=
  match x with
  | .monitor => monitorSample order s
  | .input => inputSample s
  | .channelA => channelSample .a s
  | .channelB => channelSample .b s
  | .engine => engineSample s
  | .allocator => trigger s
  | .startUp => endLoadingTest s

def everyReceiver : List Receiver := [.monitor, .input, .channelA, .channelB, .engine, .allocator, .startUp]

/-- R14: a sample arrival, taken in the order named. -/
def arriveSample (m : RawSample) (order : Nat) (s : State) : State :=
  (arrange order everyReceiver).foldl (fun s x => receive (order / 5040) x s) (recordSample m s)

/-- SAMPLE_ARRIVAL, R14. -/
def execSampleArrival (m : RawSample) (order : Nat) (s : State) : Out :=
  .next (if s.operating && s.seq.running then arriveSample m order s else s)

end Sys2Proof.Machine
end

