-- ==== Sys2Proof/Machine/PassEvents.lean ====
section
/-! DEFINITION. The meaning of PUBLICATION: what each block does with the figures of a pass (R32, R33, R37, R82 to R87). -/

namespace Sys2Proof.Machine

/-! ### The claim table's part (R32, R33, R37) -/

/-- R37: the owner of a claim is a dormant port. -/
def State.ownerDormant (s : State) (c : Claim) : Bool :=
  match c.owner with
  | .internal => false
  | .port p => (s.port p).dormant

/-- R33, R37: the published figures that the table takes for a claim: those of the claim's own admission, but no
figures for an elective claim of a dormant port, and no SUSPENDED for one of a port that is awake. -/
def takenGrant (grants : List GrantOut) (s : State) (c : Claim) : Option GrantOut :=
  match grants.find? (fun g => g.admission == c.admission) with
  | none => none
  | some g =>
    if c.cls = .elective && s.ownerDormant c then none
    else if g.standing = .suspended then none
    else some g

/-- R32: the claim after the publication. -/
def Claim.published (grants : List GrantOut) (s : State) (c : Claim) : Claim :=
  match takenGrant grants s c with
  | none => c
  | some g => { c with grant := g.grant, standing := g.standing }

/-- R32: the published grant differs from the one the table holds. -/
def Claim.regranted (grants : List GrantOut) (s : State) (c : Claim) : Bool :=
  match takenGrant grants s c with
  | none => false
  | some g => g.grant != c.grant

/-- R32: all the grants of one publication, taken together, and their notices. -/
def publishGrants (grants : List GrantOut) (s : State) : State :=
  let told := s.table.claims.filter (Claim.regranted grants s)
  let s := s.setTable { s.table with claims := s.table.claims.map (Claim.published grants s) }
  told.foldl (fun s c => raiseOwner .grant c.owner s) s

/-! ### The other parts (R83 to R86) -/

/-- R83: a channel's part. -/
def publishToChannel (c : Cell) (s : State) : State :=
  let x := s.alloc.record
  let setpoint := match c with
    | .a => x.cA
    | .b => x.cB
  let starved := match c with
    | .a => x.starvedA
    | .b => x.starvedB
  commit c (Change.publication c s.profile setpoint starved (x.pBud == 0) (decide (0 < x.deficit)) (s.channel c)) s

/-- R6, R7, R84: the cell A path's part. -/
def publishToPath (s : State) : State := s.setPathA { s.pathA with supply := s.alloc.record.sA, bridge := false }

/-- R6, R171: the supply allowance in force; an isolated cell A gives nothing, and one whose CELL_UV has cleared holds no
allowance until the next publication (`endAllowance`). -/
def State.allowanceA (s : State) : Nat := if s.isolated .a then 0 else s.pathA.supply

/-- R81, R84: the SUPPLY request. -/
def publishSupply (s : State) : State := if s.alloc.record.supply then raiseReq .supply s else withdrawReq .supply s

/-- R86: one of two figures is zero and the other is not. -/
def crossesZero (old new : Nat) : Bool := (old == 0) != (new == 0)

/-- R86: DEFICIT and SHORTFALL, for the record published before this one. -/
def publishNotices (old : Publication) (s : State) : State :=
  raiseIf (crossesZero old.shortfall s.alloc.record.shortfall) (raiseMainHub .shortfall)
    (raiseIf (crossesZero old.deficit s.alloc.record.deficit) (raiseMainHub .deficit) s)

/-- R83, R84: who takes a part of a publication. -/
inductive Recipient where
  | table | channelA | channelB | path | supply | link | notices
  deriving DecidableEq, Repr

def everyRecipient : List Recipient := [.table, .channelA, .channelB, .path, .supply, .link, .notices]

def publishTo (old : Publication) (grants : List GrantOut) (x : Recipient) (s : State) : State :=
  match x with
  | .table => publishGrants grants s
  | .channelA => publishToChannel .a s
  | .channelB => publishToChannel .b s
  | .path => publishToPath s
  | .supply => publishSupply s
  | .link => linkFollow s
  | .notices => publishNotices old s

/-- R82: the next publication count. -/
def nextCount (n : Nat) : Nat := (n + 1) % 65536

/-- R66: after the publication, the rerun starts if one is pending; otherwise the allocator is IDLE. -/
def endPass (s : State) : State := if s.alloc.rerun then startPass s else s.setAlloc { s.alloc with pass := none }

/-- R82 to R86: the publication of the pass that read the snapshot x, with its parts taken in the order named. The
triggers it causes find the pass not yet ended and set rerun-pending (log 13). -/
def publish (x : Snapshot) (order : Nat) (s : State) : State :=
  let old := s.alloc.record
  let s := s.setAlloc { s.alloc with record := x.figures (nextCount old.count), published := true }
  endPass ((arrange order everyRecipient).foldl (fun s r => publishTo old x.grants r s) s)

/-- PUBLICATION, R82: the completion of the pass in progress. -/
def execPublication (order : Nat) (s : State) : Out :=
  .next (if s.operating then
           match s.alloc.pass with
           | some x => publish x order s
           | none => s
         else s)

end Sys2Proof.Machine
end

