-- ==== Sys2Proof/Machine/PortRequests.lean ====
section
/-! DEFINITION. The meanings of the port interface's own requests and events: STATUS_READ, NOTICE_READ, NOTICE_MASK,
PORT_RESET, UNKNOWN_REQUEST_FRAME, FRAME_TURNED_AWAY, REPLY_PLACED. -/

namespace Sys2Proof.Machine

/-- STATUS_READ, R188. The power state reported is that before the frame could leave MONITOR. -/
def execStatusRead (p : Port) (fr : Framing) (s : State) : Out :=
  .next (takeRequest p .statusRead fr (.statusRead p fr)
    (fun t => handReply p .ok (statusRecord s.power.state p t) t) s)

/-- R185: the set is handed and emptied. -/
def readNotices (p : Port) (s : State) : State :=
  handReply p .ok (noticeBytes (s.port p).notices) (s.setPort p { s.port p with notices := 0 })

/-- NOTICE_READ, R185. -/
def execNoticeRead (p : Port) (fr : Framing) (s : State) : Out :=
  .next (takeRequest p .noticeRead fr (.noticeRead p fr) (readNotices p) s)

/-- R186: the mask is replaced. -/
def writeMask (p : Port) (mask : Nat) (s : State) : State :=
  handReply p .ok (noticeBytes (maskOf mask)) (s.setPort p { s.port p with mask := maskOf mask })

/-- NOTICE_MASK, R186. -/
def execNoticeMask (p : Port) (fr : Framing) (mask : Nat) (s : State) : Out :=
  .next (takeRequest p .noticeMask fr (.noticeMask p fr mask) (writeMask p mask) s)

/-! ### PORT_RESET (R189) -/

/-- R189 step 2: the blocks that take a share. -/
inductive Share where
  | claims | ceilings | engine | hold
  deriving DecidableEq, Repr

/-- R38, R59, R150, R164: one block's share of a PORT_RESET; `order` is the order of the reports if the hold ends. -/
def takeShare (p : Port) (order : Nat) (x : Share) (s : State) : State :=
  match x with
  | .claims => s.setTable { s.table with claims := s.table.claims.filter (fun c => !c.ownedBy p) }
  | .ceilings => { s with ceilings := s.ceilings.filter (fun e => e.owner != p) }
  | .engine => enginePortReset p s
  | .hold => if (s.holder p).joined then leaveHold p order false s else s

/-- R189 steps 2 to 4. -/
def resetPort (p : Port) (order : Nat) (s : State) : State :=
  let s := (arrange order [Share.claims, .ceilings, .engine, .hold]).foldl (fun s x => takeShare p (order / 24) x s) s
  let s := s.setPort p { s.port p with notices := 0, mask := 0 }
  handReply p .ok [] (trigger s)

/-- PORT_RESET, R189. -/
def execPortReset (p : Port) (fr : Framing) (order : Nat) (s : State) : Out :=
  .next (takeRequest p .portReset fr (.portReset p fr order) (resetPort p order) s)

/-! ### Events of a port -/

/-- UNKNOWN_REQUEST_FRAME, R181 step 3. A transaction without a byte is no frame and changes nothing (R180). -/
def execUnknownRequestFrame (p : Port) (bytes : List Byte) (s : State) : Out :=
  .next (if bytes.isEmpty then s else takeFrame p (.unknownRequestFrame p bytes) (some .unknown) id s)

/-- FRAME_TURNED_AWAY, R180: a write transaction of at least one byte that meets a set busy flag, or a port that acknowledges
nothing. -/
def execFrameTurnedAway (w : BusWrite) (s : State) : Out :=
  .next (if 0 < w.count && (!s.operating || (s.port w.port).busy) then turnAway w.port w.count s else s)

/-- REPLY_PLACED, R182. -/
def execReplyPlaced (p : Port) (s : State) : Out := .next (if s.operating then placeReply p s else s)

end Sys2Proof.Machine
end

