-- ==== Sys2Proof/Machine/PowerRequests.lean ====
section
/-! DEFINITION. The meanings of the resets, the supply, SHIP and the copy: SHIP_ENTER, DEVICE_RESET, POWER_ON_RESET,
RSTN_ASSERT, RSTN_RELEASE, WAKE_PRESS, OWN_SUPPLY_LOSS, COPY_COMPLETE (chapter 11). -/

namespace Sys2Proof.Machine

/-- R204. -/
def takeShipEnter (p : Port) (s : State) : State :=
  if s.input.state = .detached then enterShip s else refuse p .refused s

/-- SHIP_ENTER, R204. -/
def execShipEnter (p : Port) (fr : Framing) (s : State) : Out :=
  .next (takeRequest p .shipEnter fr (.shipEnter p fr) (takeShipEnter p) s)

/-- DEVICE_RESET, R201. -/
def execDeviceReset (p : Port) (fr : Framing) (s : State) : Out :=
  .next (takeRequest p .deviceReset fr (.deviceReset p fr) resetDevice s)

/-- POWER_ON_RESET, R198. -/
def execPowerOnReset (level : Bool) (s : State) : Out := .next (resetPowerOn level s)

def setLine (low : Bool) (s : State) : State := s.setPower { s.power with rstnLow := low }

/-- RSTN_ASSERT, R201: a falling edge; a line already low has none (log 7). RSTn has no effect in SHIP but its level (R205),
and none in a part without supply (log 20). -/
def execRstnAssert (s : State) : Out :=
  .next (if s.power.rstnLow then s
         else if s.operating then resetDevice (setLine true s)
         else setLine true s)

/-- RSTN_RELEASE, R200. -/
def execRstnRelease (s : State) : Out :=
  .next (if s.operating then endLoadingTest (setLine false s) else setLine false s)

/-- WAKE_PRESS, R205: it ends SHIP, and has no effect elsewhere. -/
def execWakePress (level : Bool) (s : State) : Out :=
  .next (if s.power.supplied && s.power.state = .ship then resetPowerOn level s else s)

/-- OWN_SUPPLY_LOSS, R198: all operation ends until a power-on reset. -/
def execOwnSupplyLoss (s : State) : Out := .next (s.setPower { s.power with supplied := false })

/-- R199: what the copy brings into the part. The manual says that the copy loads both and not when in LOADING the old
contents give way: the model replaces them all at once here (DESIGN CHOICE, log 2). -/
def finishCopy (s : State) : State :=
  { s with
    settings := loadSettings s.otp.settings
    profile := loadProfile s.otp.profile
    power := { s.power with copied := true } }

/-- COPY_COMPLETE, R199: the copy in progress completes. -/
def execCopyComplete (s : State) : Out :=
  .next (if s.operating && s.power.phase = .loading && !s.power.copied then endLoadingTest (finishCopy s) else s)

end Sys2Proof.Machine
end

