-- ==== Sys2Proof/Machine/ProtectionRequests.lean ====
section
/-! DEFINITION. The meanings of FAULT_CLEAR and INPUT_OV_REPORT (R173, R175, R176). -/

namespace Sys2Proof.Machine

/-- R175: the target's fault set, as bits. -/
def targetBits (s : State) : ClearTarget → Nat
  | .cell c => (s.prot.cell c).bits
  | .link => s.prot.device.bits

/-- R175 step 2: the latched faults that the target holds, as bits of its set. -/
def latchedBits (s : State) : ClearTarget → Nat
  | .cell c => bitsOf [(s.prot.cell c).ov, (s.prot.cell c).hot, false]
  | .link => bitsOf [false, false, s.prot.device.linkFault]

/-- R175 step 3: the latched faults of the target whose release condition is still met in the latest sample. -/
def standingBits (s : State) : ClearTarget → Nat
  | .cell c => bitsOf [(s.prot.cell c).ov && decide (Config.cellOvReleaseAt ≤ s.sample.volt c),
                       (s.prot.cell c).hot && decide (Config.cellHotReleaseAt ≤ s.sample.temp c), false]
  | .link => bitsOf [false, false, s.prot.device.linkFault && decide (Config.linkFaultAbove < s.sample.linkCurrent)]

/-- R175 step 4: the sets without the target's latched faults. -/
def Protection.cleared (x : Protection) : ClearTarget → Protection
  | .cell c => x.setCell c { x.cell c with ov := false, hot := false }
  | .link => { x with device := { x.device with linkFault := false } }

/-- R176: the clear is reported to the arbiter, where it is of LINK_FAULT. -/
def reportClear (t : ClearTarget) (s : State) : State :=
  match t with
  | .cell _ => s
  | .link => unlockLink s

/-- R175, R176: the accepted clear. -/
def clearFaults (p : Port) (t : ClearTarget) (s : State) : State :=
  let after := s.setProt (s.prot.cleared t)
  handReply p .ok (bytesOf 1 (latchedBits s t) ++ bytesOf 1 (targetBits after t)) (trigger (reportClear t after))

/-- R175. -/
def takeFaultClear (p : Port) (target : Nat) (s : State) : State :=
  match clearTargetOf target with
  | none => refuse p .badValue s
  | some t =>
    if latchedBits s t = 0 then refuse p .notFound s
    else if standingBits s t ≠ 0 then
      handReply p .refused (bytesOf 1 (standingBits s t) ++ bytesOf 1 (targetBits s t)) s
    else clearFaults p t s

/-- FAULT_CLEAR, R175. -/
def execFaultClear (p : Port) (fr : Framing) (target : Nat) (s : State) : Out :=
  .next (takeRequest p .faultClear fr (.faultClear p fr target) (takeFaultClear p target) s)

/-- R173: the monitor takes the oldest report not yet delivered. -/
def deliverReport (s : State) : State :=
  match s.input.reports with
  | [] => s
  | high :: rest => inputOvReport high (s.setInput { s.input with reports := rest })

/-- INPUT_OV_REPORT, R173. -/
def execInputOvReport (s : State) : Out := .next (if s.operating then deliverReport s else s)

end Sys2Proof.Machine
end

