-- ==== Sys2Proof/Machine/StageEvents.lean ====
section
/-! DEFINITION. The meanings of the stages' settled events: INPUT_STAGE_SETTLED, CELL_A_PATH_SETTLED,
HINGE_LINK_SETTLED (R1, R48, R123, R157). A settled stage reports nothing (log 7). -/

namespace Sys2Proof.Machine

/-- R1, R4: the input stage reaches its target; with VBUS absent its output is zero and reaches no other. -/
def inputStageSettles (s : State) : State :=
  if s.inputStage.ramping && (s.present || s.inputStage.target == 0) then
    inputSettled { s with inputStage := s.inputStage.settle }
  else s

/-- INPUT_STAGE_SETTLED, R48. -/
def execInputStageSettled (s : State) : Out := .next (if s.operating then inputStageSettles s else s)

/-- R1, R157: the cell A path reaches its charge target. -/
def cellAPathSettles (s : State) : State :=
  if s.pathA.stage.ramping then holdTest (s.setPathA { s.pathA with stage := s.pathA.stage.settle }) else s

/-- CELL_A_PATH_SETTLED, R157. -/
def execCellAPathSettled (s : State) : Out := .next (if s.operating then cellAPathSettles s else s)

/-- R123: the arbiter takes the link's settled event. -/
def arbiterSettled (s : State) : State :=
  match s.arb.link with
  | .changeover => changeoverEnds s
  | .free => choiceFree s
  | .held _ => s

/-- R1, R123, R157: the link reaches its target; the arbiter and the hold control take the event in the order named. -/
def linkSettles (holdFirst : Bool) (s : State) : State :=
  if s.linkStage.ramping then
    let s := { s with linkStage := s.linkStage.settle }
    if holdFirst then arbiterSettled (holdTest s) else holdTest (arbiterSettled s)
  else s

/-- HINGE_LINK_SETTLED, R123. -/
def execHingeLinkSettled (holdFirst : Bool) (s : State) : Out := .next (if s.operating then linkSettles holdFirst s else s)

end Sys2Proof.Machine
end

