-- ==== Sys2Proof/Machine/TimerEvents.lean ====
section
/-! DEFINITION. The meanings of the timers' expiries: RECOVERY_TIMER_EXPIRY, DORMANCY_EXPIRY, TENURE_EXPIRY,
BACKOFF_EXPIRY, MONITOR_HOLD_OFF_EXPIRY, and of the step timers' events STEP_TIMEOUT and STEP_DURATION_END. An expiry of
a stopped timer does nothing (log 7). -/

namespace Sys2Proof.Machine

/-- R52: the droop limit after an expiry. -/
def InputCtl.recovered (x : InputCtl) : Nat :=
  min x.inForce.current (x.droopLimit + floorTen (x.inForce.current / 10))

/-- R52: the recovery timer expires. -/
def recoveryExpires (s : State) : State :=
  match s.input.recovery with
  | none => s
  | some t =>
    let s := reach t s
    let limit := s.input.recovered
    let again := if limit < s.input.inForce.current then some (s.now + Config.recoveryMs) else none
    let u := s.setInput { s.input with droopLimit := limit, recovery := again }
    if limit = s.input.droopLimit then u else trigger (handLimit u)

/-- RECOVERY_TIMER_EXPIRY, R52. -/
def execRecoveryTimerExpiry (s : State) : Out := .next (if s.operating then recoveryExpires s else s)

/-- R34, R35, R190, R202: the port becomes dormant. -/
def dormancyExpires (p : Port) (s : State) : State :=
  match (s.port p).dormancy with
  | none => s
  | some t =>
    let s := reach t s
    let s := s.setPort p { s.port p with dormant := true, dormancy := none }
    monitorTest (trigger (s.setTable (s.table.suspend p)))

/-- DORMANCY_EXPIRY, R35. -/
def execDormancyExpiry (p : Port) (s : State) : Out := .next (if s.operating then dormancyExpires p s else s)

/-- R126: a yield starts at the expiry if the other of the pair waits. -/
def yieldAtExpiry (s : State) : State :=
  match s.arb.link with
  | .held r => if r != .supply && s.arb.waiting.has (otherOf r) then yieldOf r s else s
  | .free => s
  | .changeover => s

/-- R126: the tenure timer expires. -/
def tenureExpires (s : State) : State :=
  match s.arb.tenure with
  | none => s
  | some t => yieldAtExpiry ((reach t s).setArb { s.arb with tenure := none, tenureExpired := true })

/-- TENURE_EXPIRY, R126. -/
def execTenureExpiry (s : State) : Out := .next (if s.operating then tenureExpires s else s)

/-- R129: a backoff timer expires. -/
def backoffExpires (r : Requester) (s : State) : State :=
  match s.arb.backoff r with
  | none => s
  | some t =>
    let s := (reach t s).setArb (s.arb.setBackoff r none)
    match s.arb.link with
    | .free => choiceFree s
    | .held _ => s
    | .changeover => s

/-- BACKOFF_EXPIRY, R129. -/
def execBackoffExpiry (r : Requester) (s : State) : Out := .next (if s.operating then backoffExpires r s else s)

/-- R203: the monitor hold-off timer expires. -/
def holdOffExpires (s : State) : State :=
  match s.power.holdOff with
  | none => s
  | some t => monitorTest ((reach t s).setPower { s.power with holdOff := none })

/-- MONITOR_HOLD_OFF_EXPIRY, R203. -/
def execMonitorHoldOffExpiry (s : State) : Out := .next (if s.operating then holdOffExpires s else s)

/-- R103: the channel times out, where its step timer exceeds the timeout of the present step and the exit of that step
does not hold on the latest sample. -/
def stepTimesOut (c : Cell) (s : State) : State :=
  if (s.channel c).timedOut c s.profile s.sample then commit c (Change.fail (s.channel c) .stepTimeout) s else s

/-- STEP_TIMEOUT, R103 (log 14). -/
def execStepTimeout (c : Cell) (s : State) : Out := .next (if s.operating then stepTimesOut c s else s)

/-- R102: the channel walks on from a TOPOFF or REST step whose duration has been reached. -/
def stepRunsOut (c : Cell) (s : State) : State :=
  let ch := s.channel c
  if ch.durationOver s.profile then commit c (Change.walk c s.profile s.sample (ch.step s.profile).next ch) s else s

/-- STEP_DURATION_END, R102 (log 14). -/
def execStepDurationEnd (c : Cell) (s : State) : Out := .next (if s.operating then stepRunsOut c s else s)

end Sys2Proof.Machine
end

