-- ==== Sys2Proof/Machine/Dispatch.lean ====
section
/-! DEFINITION. The dispatch: one arm for each command, each one direct call of its meaning. -/

namespace Sys2Proof.Machine

/-- The effect of a command on everything but the queue. -/
def exec (i : Instr) (s : State) : Host.Outcome State Fault Refusal :=
  match i with
  | .statusRead p fr => Sys2Proof.Machine.execStatusRead p fr s
  | .noticeRead p fr => Sys2Proof.Machine.execNoticeRead p fr s
  | .noticeMask p fr mask => Sys2Proof.Machine.execNoticeMask p fr mask s
  | .portReset p fr order => Sys2Proof.Machine.execPortReset p fr order s
  | .claim p fr cls requested floor => Sys2Proof.Machine.execClaim p fr cls requested floor s
  | .amend p fr id requested floor => Sys2Proof.Machine.execAmend p fr id requested floor s
  | .release p fr id => Sys2Proof.Machine.execRelease p fr id s
  | .claimRead p fr id => Sys2Proof.Machine.execClaimRead p fr id s
  | .ceilPush p fr ceiling => Sys2Proof.Machine.execCeilPush p fr ceiling s
  | .ceilPop p fr => Sys2Proof.Machine.execCeilPop p fr s
  | .hold p fr => Sys2Proof.Machine.execHold p fr s
  | .unhold p fr order => Sys2Proof.Machine.execUnhold p fr order s
  | .chStart p fr cell slot => Sys2Proof.Machine.execChStart p fr cell slot s
  | .chStop p fr cell => Sys2Proof.Machine.execChStop p fr cell s
  | .stepWrite p fr slot r => Sys2Proof.Machine.execStepWrite p fr slot r s
  | .stepRead p fr slot => Sys2Proof.Machine.execStepRead p fr slot s
  | .balQueue p fr direction mode count rate tolerance => Sys2Proof.Machine.execBalQueue p fr direction mode count rate tolerance s
  | .balCancel p fr tag => Sys2Proof.Machine.execBalCancel p fr tag s
  | .contractSet p fr voltage current => Sys2Proof.Machine.execContractSet p fr voltage current s
  | .inputRelease p fr => Sys2Proof.Machine.execInputRelease p fr s
  | .inputResume p fr => Sys2Proof.Machine.execInputResume p fr s
  | .faultClear p fr target => Sys2Proof.Machine.execFaultClear p fr target s
  | .shipEnter p fr => Sys2Proof.Machine.execShipEnter p fr s
  | .deviceReset p fr => Sys2Proof.Machine.execDeviceReset p fr s
  | .unknownRequestFrame p bytes => Sys2Proof.Machine.execUnknownRequestFrame p bytes s
  | .frameTurnedAway w => Sys2Proof.Machine.execFrameTurnedAway w s
  | .powerOnReset level => Sys2Proof.Machine.execPowerOnReset level s
  | .rstnAssert => Sys2Proof.Machine.execRstnAssert s
  | .rstnRelease => Sys2Proof.Machine.execRstnRelease s
  | .attach level => Sys2Proof.Machine.execAttach level s
  | .detach => Sys2Proof.Machine.execDetach s
  | .wakePress level => Sys2Proof.Machine.execWakePress level s
  | .sampleArrival measured order => Sys2Proof.Machine.execSampleArrival measured order s
  | .recoveryTimerExpiry => Sys2Proof.Machine.execRecoveryTimerExpiry s
  | .dormancyExpiry p => Sys2Proof.Machine.execDormancyExpiry p s
  | .tenureExpiry => Sys2Proof.Machine.execTenureExpiry s
  | .backoffExpiry r => Sys2Proof.Machine.execBackoffExpiry r s
  | .holdExpiry p order => Sys2Proof.Machine.execHoldExpiry p order s
  | .monitorHoldOffExpiry => Sys2Proof.Machine.execMonitorHoldOffExpiry s
  | .stepTimeout c => Sys2Proof.Machine.execStepTimeout c s
  | .stepDurationEnd c => Sys2Proof.Machine.execStepDurationEnd c s
  | .inputStageSettled => Sys2Proof.Machine.execInputStageSettled s
  | .cellAPathSettled => Sys2Proof.Machine.execCellAPathSettled s
  | .hingeLinkSettled holdFirst => Sys2Proof.Machine.execHingeLinkSettled holdFirst s
  | .publication order => Sys2Proof.Machine.execPublication order s
  | .copyComplete => Sys2Proof.Machine.execCopyComplete s
  | .holdEntryCheck p => Sys2Proof.Machine.execHoldEntryCheck p s
  | .inputOvReport => Sys2Proof.Machine.execInputOvReport s
  | .ownSupplyLoss => Sys2Proof.Machine.execOwnSupplyLoss s
  | .replyPlaced p => Sys2Proof.Machine.execReplyPlaced p s

end Sys2Proof.Machine
end

