-- ==== Sys2Proof/WellFormed.lean ====
section
/-! DEFINITION. Well-formed commands: operands that the frame's fields can carry (R193, R194), a framing that a frame of
at most 32 bytes can have (R180), and timers that exist. -/

namespace Sys2Proof

open Sys2Proof.Machine

/-- An unsigned field of one byte, of two and of four. -/
def fitsByte (n : Nat) : Bool := decide (n < 256)
def fitsTwo (n : Nat) : Bool := decide (n < 65536)
def fitsFour (n : Nat) : Bool := decide (n < 4294967296)

/-- A signed field of one byte. -/
def fitsSigned (i : Int) : Bool := decide (-128 ≤ i) && decide (i < 128)

/-- R180, R194: the framing of the request r. Where it fits, the parameters are the bytes; where it does not, the frame ended
after the code, or carries the first 30 of the stray bytes. -/
def Framing.wf (r : Request) (fr : Framing) : Bool :=
  if Machine.Framing.fits fr r then fr.stray.isEmpty
  else match fr.lengthByte with
    | none => fr.carried == 0 && fr.stray.isEmpty
    | some n => fitsByte n && fr.carried == min fr.stray.length (Config.frameBytes - 2)

/-- R197: the fields of a step record fit their bytes. -/
def RawStep.wf (r : RawStep) : Bool :=
  fitsByte r.kind && fitsTwo r.current && fitsTwo r.volt && fitsTwo r.endCurrent && fitsTwo r.duration && fitsTwo r.timeout
    && fitsSigned r.cold && fitsSigned r.hot && fitsByte r.next

/-- A command that can be sent to the part. -/
def Instr.wf : Instr → Bool
  | .statusRead _ fr => fr.wf .statusRead
  | .noticeRead _ fr => fr.wf .noticeRead
  | .noticeMask _ fr mask => fr.wf .noticeMask && fitsTwo mask
  | .portReset _ fr _ => fr.wf .portReset
  | .claim _ fr cls requested floor => fr.wf .claim && fitsByte cls && fitsTwo requested && fitsTwo floor
  | .amend _ fr id requested floor => fr.wf .amend && fitsByte id && fitsTwo requested && fitsTwo floor
  | .release _ fr id => fr.wf .release && fitsByte id
  | .claimRead _ fr id => fr.wf .claimRead && fitsByte id
  | .ceilPush _ fr ceiling => fr.wf .ceilPush && fitsFour ceiling
  | .ceilPop _ fr => fr.wf .ceilPop
  | .hold _ fr => fr.wf .hold
  | .unhold _ fr _ => fr.wf .unhold
  | .chStart _ fr cell slot => fr.wf .chStart && fitsByte cell && fitsByte slot
  | .chStop _ fr cell => fr.wf .chStop && fitsByte cell
  | .stepWrite _ fr slot r => fr.wf .stepWrite && fitsByte slot && r.wf
  | .stepRead _ fr slot => fr.wf .stepRead && fitsByte slot
  | .balQueue _ fr direction mode count rate tolerance =>
    fr.wf .balQueue && fitsByte direction && fitsByte mode && fitsTwo count && fitsTwo rate && fitsByte tolerance
  | .balCancel _ fr tag => fr.wf .balCancel && fitsByte tag
  | .contractSet _ fr voltage current => fr.wf .contractSet && fitsTwo voltage && fitsTwo current
  | .inputRelease _ fr => fr.wf .inputRelease
  | .inputResume _ fr => fr.wf .inputResume
  | .faultClear _ fr target => fr.wf .faultClear && fitsByte target
  | .shipEnter _ fr => fr.wf .shipEnter
  | .deviceReset _ fr => fr.wf .deviceReset
  | .unknownRequestFrame _ bytes => bytes.head?.any (fun code => (Request.ofCode code.toNat).isNone)
  | .frameTurnedAway w => decide (0 < w.count)
  | .powerOnReset _ => true
  | .rstnAssert => true
  | .rstnRelease => true
  | .attach _ => true
  | .detach => true
  | .wakePress _ => true
  | .sampleArrival _ _ => true
  | .recoveryTimerExpiry => true
  | .dormancyExpiry _ => true
  | .tenureExpiry => true
  | .backoffExpiry r => r != .supply
  | .holdExpiry _ _ => true
  | .monitorHoldOffExpiry => true
  | .stepTimeout _ => true
  | .stepDurationEnd _ => true
  | .inputStageSettled => true
  | .cellAPathSettled => true
  | .hingeLinkSettled _ => true
  | .publication _ => true
  | .copyComplete => true
  | .holdEntryCheck _ => true
  | .inputOvReport => true
  | .ownSupplyLoss => true
  | .replyPlaced _ => true

end Sys2Proof
end

