-- ==== Sys2Proof/Safety.lean ====
section
/-! DEFINITION. The terms that claims about the part are stated in: frames, a request's taking, and the invariants that
the manual gives the part's state. -/

namespace Sys2Proof.Machine

/-! ### Frames -/

/-- A port without its notice set. -/
def PortState.quiet (q : PortState) : PortState := { q with notices := 0 }

/-- A holder without its timer. -/
def Holder.quiet (h : Holder) : Holder := { h with expiry := none }

/-- The state with everything blanked that the blocks may change as they react to one another's reports and triggers:
the running pass, the channels, the arbiter, the balance engine, the hold's state, timers and view, the ramps of the
cell A path and the hinge link, the power state with the next arrival, and the notice sets. Two states with equal
`outer` agree on all the rest: the claim table, the ceiling stack, the input controller and its stage, the publication
record, profile memory, the fault sets, the settings, the holder set, and the ports' slots, replies, masks, dormant
flags and timers. -/
def State.outer (s : State) : State :=
  { s with
    freeUses := 0
    power := { s.power with state := .active }
    seq := { s.seq with nextArrival := 0 }
    pathA := { s.pathA with stage := Stage.off 0 }
    linkStage := Stage.off Flow.zero
    alloc := { s.alloc with pass := none, rerun := false }
    chA := Channel.atReset
    chB := Channel.atReset
    arb := Arbiter.atReset false
    bal := { queue := [], tagCounter := 0, last := PerPort.all none, dieHot := false }
    hold := { state := .off, view := .free, holders :=
      { main := s.hold.holders.main.quiet, hub := s.hold.holders.hub.quiet, input := s.hold.holders.input.quiet } }
    ports := { main := s.ports.main.quiet, hub := s.ports.hub.quiet, input := s.ports.input.quiet } }

/-- t keeps all of s but what reactions may change. -/
def Keeps (s t : State) : Prop := t.outer = s.outer

/-- The state with everything blanked that a pass trigger and the handing of a reply change: the running pass,
rerun-pending, the stale marks and the handed replies. -/
def State.still (s : State) : State :=
  { s with
    alloc := { s.alloc with pass := none, rerun := false }
    chA := { s.chA with stale := false }
    chB := { s.chB with stale := false }
    ports := { main := { s.ports.main with handed := none }, hub := { s.ports.hub with handed := none },
               input := { s.ports.input with handed := none } } }

/-- R66: between u and t the allocator took a trigger. In IDLE a pass has started, whose snapshot t still shows; in
COMPUTING the pass goes on and rerun-pending is set. -/
def PassRaised (u t : State) : Prop :=
  match u.alloc.pass with
  | none => t.alloc.pass = some t.snapshot ∧ t.alloc.rerun = false
  | some x => t.alloc.pass = some x ∧ t.alloc.rerun = true

/-- Between u and t the allocator took one trigger and no more: the pass is raised, and the stale marks are cleared
exactly where the pass starts (R97). -/
def Triggered (u t : State) : Prop :=
  PassRaised u t ∧
    match u.alloc.pass with
    | none => t.chA.stale = false ∧ t.chB.stale = false
    | some _ => t.chA.stale = u.chA.stale ∧ t.chB.stale = u.chB.stale

/-- R66: between u and t the allocator took one trigger or more, the last after every change but that trigger's own. In
IDLE a pass has started, and either its snapshot is the one that t shows or a rerun is pending; in COMPUTING
rerun-pending is set. -/
def PassWanted (u t : State) : Prop :=
  match u.alloc.pass with
  | none => ∃ x, t.alloc.pass = some x ∧ (t.alloc.rerun = true ∨ x = t.snapshot)
  | some x => t.alloc.pass = some x ∧ t.alloc.rerun = true

/-- R182: port p's owning block has handed it this reply. -/
def Answers (t : State) (p : Port) (code : ReplyCode) (payload : List Byte) : Prop :=
  (t.port p).handed = some { code := code, payload := payload }

/-- The state u with the reply handed to port p, and nothing else changed. -/
def withReply (p : Port) (code : ReplyCode) (payload : List Byte) (u : State) : State :=
  { u with ports := u.ports.set p { u.port p with handed := some { code := code, payload := payload } } }

/-- R184: port p's notice set holds the kind k. -/
def Noticed (t : State) (p : Port) (k : Notice) : Prop := holdsNotice k (t.port p).notices = true

/-- The ports with the kind of this bit number added to the notice sets of the ports listed (R184, R194). -/
def noting (bit : Nat) (ps : List Port) (x : PerPort PortState) : PerPort PortState :=
  let add (p : Port) (q : PortState) : PortState :=
    if p ∈ ps then { q with notices := q.notices ||| BitVec.ofNat 13 (2 ^ bit) } else q
  { main := add .main x.main, hub := add .hub x.hub, input := add .input x.input }

/-! ### Requests -/

/-- The order operand of a request that has one; 0 for the others. -/
def orderOf : Instr → Nat
  | .portReset _ _ order => order
  | .unhold _ _ order => order
  | _ => 0

/-- R180: port p takes a frame: the part has supply, is not in SHIP, and the port's busy flag is clear. -/
abbrev Takes (s : State) (p : Port) : Prop := s.operating = true ∧ (s.port p).busy = false

/-- R181: port p hands a request to its block: it takes the frame, and the part is past LOADING. -/
abbrev Hands (s : State) (p : Port) : Prop := Takes s p ∧ s.power.phase = .running

/-- R181 step 2: the state in which the block that owns the request i takes it: the frame is in the slot, the port
woken and its timer restarted, MONITOR left. -/
def handedOver (p : Port) (i : Instr) (s : State) : State := leaveMonitor (wakePort p (fillSlot p (writtenBytes i) s))

/-- A frame at port p: a request of the table, or a frame whose code names none. -/
def IsFrame (i : Instr) (p : Port) : Prop :=
  (∃ r fr, requestOf i = some (p, r, fr)) ∨ ∃ bytes, i = .unknownRequestFrame p bytes

/-! ### The MONITOR test (R202) -/

/-- R202: what MONITOR asks for beside the phase and the power state. -/
abbrev State.RestsForMonitor (s : State) : Prop :=
  s.power.holdOff = none ∧ s.input.state = .detached ∧ s.hold.state = .off ∧ s.chA.state ≠ .active ∧ s.chB.state ≠ .active
    ∧ s.bal.queue = [] ∧ ∀ q ∈ [Port.main, .hub, .input], (s.port q).dormant = true

/-- R202, R11: between u and t the power-state control tested for MONITOR. Where t holds all that MONITOR asks for, MONITOR is
entered and the next arrival lies 2000 ms after the latest; otherwise power state and sequencer stay. -/
abbrev MonitorTested (u t : State) : Prop :=
  if u.power.phase = .running ∧ u.power.state = .active ∧ t.RestsForMonitor then
    t.power = { u.power with state := .monitor } ∧ t.seq = { u.seq with nextArrival := u.seq.lastArrival + 2000 }
  else t.power = u.power ∧ t.seq = u.seq

/-! ### Grants (R119, R121, R139) -/

/-- R119: the requester that a choice takes, if any: SUPPLY before the others, and of an eligible pair the one that the link
did not serve last. -/
def Arbiter.choice (a : Arbiter) : Option Requester :=
  let chargeB := a.waiting.chargeB = true ∧ a.backoffChargeB = none
  let balance := a.waiting.balance = true ∧ a.backoffBalance = none
  if a.faultLock = true then none
  else if a.waiting.supply = true then some .supply
  else if chargeB ∧ (¬balance ∨ a.lastPair ≠ some .chargeB) then some .chargeB
  else if balance then some .balance
  else none

/-- R139: the way that job j takes on the sample x, where it resolves. -/
def Job.wayAtStart (x : Sample) (j : Job) : Way :=
  j.resolved.getD (if j.direction = .aToB ∨ (j.direction = .towardLower ∧ x.vB < x.vA) then .aToB else .bToA)

/-- R139: what the start checks of job j come to on the sample x: the end reason, or none where the job may run. -/
def Job.endsAtStart (x : Sample) (j : Job) : Option EndReason :=
  let fromA := j.wayAtStart x = .aToB
  if j.resolved = none ∧ j.direction = .towardLower ∧ x.vA ≤ x.vB + j.tolerance.getD 0 ∧ x.vB ≤ x.vA + j.tolerance.getD 0 then
    some .levelReached
  else if 4350 ≤ (if fromA then x.vB else x.vA) then some .destFull
  else if (if fromA then x.vA else x.vB) < 3400 then some .sourceLow
  else none

/-- R121, R139, R145: t is v after the arbiter granted the link to w at the time `v.now`: w holds it, with its tenure if it
has one, the hold control and w are told, and a pass is wanted. A head that BALANCE is granted for is RUNNING at its rate, or
ends where its start checks fail, and BALANCE then waits out its backoff. Where that empties the queue MONITOR is tested for. -/
def Granted (v t : State) (w : Requester) : Prop :=
  let tenure := some (v.now + v.settings.tenure)
  PassWanted v t ∧ (if v.RestsForMonitor then t.power = v.power ∧ t.seq = v.seq else MonitorTested v t)
    ∧ t.outer = { v.outer with ports := t.outer.ports, bal := t.outer.bal }
    ∧ match w with
      | .supply => t.hold.view = .held .supply ∧ t.linkStage.target = Flow.of .bToNode v.alloc.record.sB ∧ t.bal = v.bal
        ∧ t.arb = { v.arb with link := .held .supply, waiting := { v.arb.waiting with supply := false },
                               tenure := none, tenureExpired := false, yieldPending := false }
      | .chargeB => t.hold.view = .held .chargeB ∧ t.bal = v.bal ∧ (v.chB.state = .active → t.chB.reasons.noLink = false)
        ∧ (v.present = true → t.linkStage.target = Flow.of .nodeToB t.chB.presented)
        ∧ t.arb = { v.arb with link := .held .chargeB, waiting := { v.arb.waiting with chargeB := false },
                               lastPair := some .chargeB, tenure := tenure, tenureExpired := false, yieldPending := false }
      | .balance => ((t.arb.link = .held .balance ∧ t.arb.lastPair = some .balance) ∨ t.arb.backoffBalance = some (v.now + 100))
        ∧ ∀ j ∈ v.bal.queue.head?, j.state = .queued →
        (j.endsAtStart v.sample = none → t.hold.view = .held .balance
          ∧ t.linkStage.target = Flow.of (if j.wayAtStart v.sample = .aToB then .aToB else .bToA) j.rate
          ∧ t.bal = { v.bal with queue := { j with state := .running, resolved := some (j.wayAtStart v.sample),
                                                   heldSince := some v.now } :: v.bal.queue.tail }
          ∧ t.arb = { v.arb with link := .held .balance, waiting := { v.arb.waiting with balance := false },
                                 lastPair := some .balance, tenure := tenure, tenureExpired := false, yieldPending := false })
        ∧ ∀ r ∈ j.endsAtStart v.sample, t.arb.link ≠ .held .balance ∧ t.arb.backoffBalance = some (v.now + 100)
          ∧ t.arb.lastPair = (if t.arb.link = .held .chargeB then some .chargeB else some .balance)
          ∧ t.bal.queue.map Job.tag = v.bal.queue.tail.map Job.tag ∧ Noticed t j.originator .balDone
          ∧ t.bal.last = v.bal.last.set j.originator (some { tag := j.tag, reason := r, moved := j.moved })

/-- R122, R126, R127: t is v after CHARGE_B, which held the link past its tenure, yielded it at once: CHARGE_B waits in its
backoff, channel B takes NO_LINK and presents 0, and a pass is wanted. The link takes a zero target; where that settles it at
once, the choice of R119 is made, and otherwise the CHANGEOVER goes on. -/
def Yielded (v t : State) : Prop :=
  let lost : Arbiter :=
    { v.arb with
      link := .changeover, waiting := { v.arb.waiting with chargeB := true }, tenure := none, tenureExpired := false,
      yieldPending := false, backoffChargeB := some (v.now + 100) }
  let ramps := if v.linkStage.target = Flow.zero then v.linkStage.ramping = true
    else v.linkStage.flowNow v.freeUses ≠ Flow.zero
  PassWanted v t ∧ t.outer = { v.outer with ports := t.outer.ports }
    ∧ (v.chB.state = .active → t.chB.reasons.noLink = true ∧ t.chB.presented = 0)
    ∧ (ramps → t.arb = lost ∧ t.bal = v.bal ∧ t.hold.view = .changeover ∧ t.linkStage.target = Flow.zero)
    ∧ (¬ramps → lost.choice = none → t.arb = { lost with link := .free } ∧ t.bal = v.bal ∧ t.hold.view = .free)
    ∧ (¬ramps → ∀ w ∈ lost.choice, Granted { v with arb := lost } t w)

/-! ### Resets -/

/-- R201: t is v after a device reset, v having left MONITOR: every block at the DEVICE_RESET values of its reset table
(R10, R31, R39, R59, R63, R89, R115, R133, R151, R165, R178, R191, R192), in LOADING with the copy begun again. The stages
take zero targets, and the cell A path its bridge. What the reset does not name stays, as each port's `acks` (log 19), what
the engine was told of DIE_HOT (log 34) and the over-voltage reports on their way (log 15). -/
def DeviceResetOf (v t : State) : Prop :=
  let uvOnly (x : CellFaults) : CellFaults := { ov := false, hot := false, uv := x.uv }
  let fresh (q : PortState) : PortState :=
    { slot := none, busy := false, handed := none, reply := { code := .notReady, payload := [] }, notices := 0, mask := 0,
      dormant := false, dormancy := none, acks := q.acks }
  let idle : Channel :=
    { state := .idle, slot := none, timer := 0, run := 0, lastSetpoint := 0, reasons := Reasons.none, code := .none,
      published := 0, stale := true, presented := 0, request := false }
  let out : Holder := { joined := false, expiry := none, unanswered := false, due := 0 }
  t.inputStage.target = 0 ∧ t.pathA.stage.target = 0 ∧ t.linkStage.target = Flow.zero
    ∧ t = { v with
      freeUses := t.freeUses
      power := { v.power with state := .active, phase := .loading, copied := false, holdOff := none }
      inputStage := t.inputStage
      linkStage := t.linkStage
      pathA := { stage := t.pathA.stage, bridge := true
                 supply := match v.seq.latest with
                   | none => 0
                   | some x => if v.prot.cellA.uv = true then 0 else x.vA * 6000 / 1000 }
      table := { nextAdmission := 1, claims := [{ id := 0, owner := .internal, cls := .essential, requested := 2500, floor := 0,
                                                  grant := 0, standing := .deferred, admission := 0 }] }
      input := { state := if v.present = true then .dflt else .detached, held := none, pendingContract := none,
                 droopLimit := 500, recovery := none, requester := none, reports := v.input.reports }
      ceilings := []
      alloc := { pass := none, rerun := false, record := Publication.zero, published := false }
      chA := idle
      chB := idle
      arb := { link := .free, waiting := { supply := false, chargeB := false, balance := false }, lastPair := none,
               tenure := none, tenureExpired := false, yieldPending := false, backoffChargeB := none, backoffBalance := none,
               faultLock := false }
      bal := { queue := [], tagCounter := 0, last := { main := none, hub := none, input := none }, dieHot := v.bal.dieHot }
      hold := { state := .off, holders := { main := out, hub := out, input := out }, view := .free }
      prot := { v.prot with cellA := uvOnly v.prot.cellA, cellB := uvOnly v.prot.cellB
                            device := { v.prot.device with linkFault := false } }
      ports := { main := fresh v.ports.main, hub := fresh v.ports.hub, input := fresh v.ports.input } }

/-! ### Step chains (R102, R106, R107, R111) -/

/-- R106, R107: the slot that the walk entering slot n comes to after k steps that it leaves at once. -/
def chainSlot (profile : List StepRecord) (n : Nat) : Nat → Nat
  | 0 => n
  | k + 1 => (profile.getD (chainSlot profile n k) StepRecord.ended).next

/-- R102, R106: the exits that can hold at a step's entry, on a sample with the voltage v; a duration of 0 is in no record
that STEP_WRITE could have written. -/
def StepRecord.PassesAt (r : StepRecord) (v : Nat) : Prop :=
  ((r.kind = .precharge ∨ r.kind = .current) ∧ r.volt ≤ v) ∨ (r.kind = .rest ∧ v < r.volt)
    ∨ ((r.kind = .topoff ∨ r.kind = .rest) ∧ r.duration = 0)

/-- R107: the walk entering slot n leaves its first k steps at once. -/
def PassesThrough (profile : List StepRecord) (v n k : Nat) : Prop :=
  ∀ i ∈ List.range k, (profile.getD (chainSlot profile n i) StepRecord.ended).kind ≠ .endStep
    ∧ (profile.getD (chainSlot profile n i) StepRecord.ended).PassesAt v

/-- R111 steps 3 and 4: the record that STEP_WRITE records for these fields, or none where it refuses them BAD_VALUE. -/
def recordedStep (r : RawStep) : Option StepRecord :=
  ([StepKind.precharge, .current, .voltage, .topoff, .rest, .endStep][r.kind]?).bind fun k =>
    if (k ≠ .rest ∧ k ≠ .endStep → 10 ≤ r.current) ∧ (k ≠ .endStep → 3000 ≤ r.volt)
        ∧ (k = .voltage → 20 ≤ r.endCurrent ∧ r.endCurrent ≤ 1000) ∧ (k = .topoff ∨ k = .rest → 0 < r.duration)
        ∧ (k ≠ .endStep → -20 ≤ r.cold ∧ r.cold < r.hot ∧ r.hot ≤ 60 ∧ r.next < 48) then
      some { kind := k, current := if k ≠ .rest ∧ k ≠ .endStep then min (r.current / 10 * 10) 4000 else 0
             volt := if k = .endStep then 0 else min r.volt 4450
             endCurrent := if k = .voltage then r.endCurrent else 0
             duration := if k = .topoff ∨ k = .rest then min r.duration 1440 else 0
             timeout := if k = .precharge ∨ k = .current ∨ k = .voltage then min r.timeout 1440 else 0
             cold := if k = .endStep then 0 else r.cold, hot := if k = .endStep then 0 else r.hot
             next := if k = .endStep then 0 else r.next }
    else none

/-! ### The layout of the status record (R196) -/

/-- R196: the values that the table lists for an enumerated field. -/
def channelStateValue : ChannelState → Nat
  | .idle => 0
  | .active => 1
  | .done => 2
  | .fault => 3

/-- R196, R197. -/
def stepKindValue : StepKind → Nat
  | .precharge => 0
  | .current => 1
  | .voltage => 2
  | .topoff => 3
  | .rest => 4
  | .endStep => 5

/-- R196. -/
def jobStateValue : JobState → Nat
  | .queued => 0
  | .running => 1
  | .suspended => 2

/-- R196. -/
def endReasonValue : EndReason → Nat
  | .countDone => 1
  | .levelReached => 2
  | .sourceLow => 3
  | .destFull => 4
  | .cancelled => 5
  | .fault => 6
  | .reset => 7

/-- R196. -/
def faultKindValue : FaultKind → Nat
  | .cellOv => 1
  | .cellHot => 2
  | .cellUv => 3
  | .dieHot => 4
  | .inputOv => 5
  | .linkFault => 6

/-- R196, the report of one channel: offset within the report, and the bytes there; `request` is CHARGE_B in channel B's
report, and false in channel A's. -/
def channelLayout (profile : List StepRecord) (request : Bool) (ch : Channel) : List (Nat × List Byte) :=
  [ (0, bytesOf 1 (channelStateValue ch.state)), (1, bytesOf 1 (ch.slot.getD 255)),
    (2, bytesOf 1 (match ch.slot with | some n => stepKindValue (profile.getD n StepRecord.ended).kind | none => 255)),
    (3, bytesOf 4 ch.timer), (7, bytesOf 1 ch.run),
    (8, bytesOf 1 (bitsOf [ch.reasons.hold, ch.reasons.temp, ch.reasons.noInput, ch.reasons.noLink, ch.reasons.deficit,
      ch.reasons.dieHot, ch.reasons.starved])),
    (9, bytesOf 1 (match ch.code with | .none => 0 | .stepTimeout => 1 | .chainLoop => 2 | .cellFault => 3)),
    (10, bytesOf 2 ch.presented), (12, bytesOf 1 request.toNat) ]

/-- R196, offsets 0 to 82: offset, and the bytes there. Offset 20 stands apart (`dieLayout`). -/
def statusLayoutLow (was : PowerState) (p : Port) (s : State) : List (Nat × List Byte) :=
  [ (0, bytesOf 1 (match was with | .active => 0 | .monitor => 1 | .ship => 2)),
    (1, bytesOf 1 (bitsOf [(s.port .main).dormant, (s.port .hub).dormant, (s.port .input).dormant])),
    (2, bytesOf 2 (s.port p).notices.toNat), (4, bytesOf 2 (s.port p).mask.toNat),
    (6, bytesOf 2 s.sample.vA), (8, bytesOf 2 s.sample.vB), (10, signedBytesOf 2 s.sample.iA),
    (12, signedBytesOf 2 s.sample.iB), (14, signedBytesOf 2 s.sample.tA), (16, signedBytesOf 2 s.sample.tB),
    (18, bytesOf 2 s.sample.vIn), (21, bytesOf 2 s.sample.linkCurrent),
    (23, bytesOf 2 s.sample.linkCharge),
    (25, bytesOf 1 (match s.input.state with
      | .detached => 0 | .dflt => 1 | .contracted => 2 | .releasing => 3 | .released => 4)),
    (26, bytesOf 2 s.input.inForce.voltage),
    (28, bytesOf 2 s.input.inForce.current),
    (30, bytesOf 1 (bitsOf [s.input.held.isSome, s.input.pendingContract.isSome, s.input.recovery.isSome])),
    (31, bytesOf 2 s.input.droopLimit),
    (33, bytesOf 1 (match s.input.requester with | none => 0 | some .main => 1 | some .hub => 2 | some .input => 3)),
    (34, bytesOf 1 s.ceilings.length), (35, bytesOf 4 ((effectiveCeiling s.ceilings).getD 0xFFFFFFFF)),
    (39, bytesOf 1 (match s.prot.thermal with | .none => 0 | .derating _ => 1 | .zero => 2)),
    (40, bytesOf 1 (match s.prot.thermal with | .none => 0 | .derating t => t | .zero => 0)),
    (41, bytesOf 2 s.alloc.record.count),
    (43, bytesOf 4 s.alloc.record.pConv), (47, bytesOf 4 s.alloc.record.pBud),
    (51, bytesOf 1 (match s.alloc.record.limit with | .input => 0 | .ceiling => 1 | .thermal => 2)),
    (52, bytesOf 2 s.alloc.record.essential), (54, bytesOf 2 s.alloc.record.deficit),
    (56, bytesOf 4 s.alloc.record.elective), (60, bytesOf 4 s.alloc.record.pChg), (64, bytesOf 4 s.alloc.record.gA),
    (68, bytesOf 4 s.alloc.record.gB), (72, bytesOf 2 s.alloc.record.cA), (74, bytesOf 2 s.alloc.record.cB),
    (76, bytesOf 1 (bitsOf [s.alloc.record.starvedA, s.alloc.record.starvedB, s.alloc.record.supply])),
    (77, bytesOf 2 s.alloc.record.sA), (79, bytesOf 2 s.alloc.record.sB), (81, bytesOf 2 s.alloc.record.shortfall) ]

/-- R196, the three bytes of the n-th job entry. -/
def jobLayout (q : List Job) (n : Nat) : List Byte :=
  match q[n]? with
  | some j => bytesOf 1 j.tag ++ bytesOf 1 (match j.originator with | .main => 1 | .hub => 2 | .input => 3)
      ++ bytesOf 1 (jobStateValue j.state)
  | none => [0, 0, 0]

/-- R196, offsets 134 to 145. -/
def headLayout (q : List Job) : List (Nat × List Byte) :=
  match q with
  | [] => [(134, List.replicate 12 0)]
  | j :: _ =>
    [ (134, bytesOf 1 (match j.direction with | .aToB => 0 | .bToA => 1 | .towardLower => 2)),
      (135, bytesOf 1 (match j.resolved with | some .aToB => 0 | some .bToA => 1 | none => 255)),
      (136, bytesOf 1 (match j.mode with | .count => 0 | .untilLevel => 1)), (137, bytesOf 2 j.count), (139, bytesOf 2 j.rate),
      (141, bytesOf 1 (match j.tolerance with | some n => n | none => 0)), (142, bytesOf 2 j.moved),
      (144, bytesOf 2 j.residue) ]

/-- R196, offsets 109 to 149 but for 119 and 120 with no first fault, where the place is open (log 25). -/
def statusLayoutHigh (p : Port) (s : State) : List (Nat × List Byte) :=
  [ (109, bytesOf 1 (match s.arb.link with | .free => 0 | .held _ => 1 | .changeover => 2)),
    (110, bytesOf 1 (match s.arb.link with | .held .supply => 1 | .held .chargeB => 2 | .held .balance => 3 | _ => 0)),
    (111, bytesOf 1 (bitsOf [s.arb.waiting.supply, s.arb.waiting.chargeB, s.arb.waiting.balance])),
    (112, bytesOf 1 (match s.arb.lastPair with | none => 0 | some .supply => 1 | some .chargeB => 2 | some .balance => 3)),
    (113, bytesOf 1 (bitsOf [s.arb.tenureExpired, s.arb.yieldPending, s.arb.backoffChargeB.isSome,
      s.arb.backoffBalance.isSome, s.arb.faultLock])),
    (114, bytesOf 1 (match s.hold.state with | .off => 0 | .pending => 1 | .effective => 2)),
    (115, bytesOf 1 (bitsOf [(s.holder .main).joined, (s.holder .hub).joined, (s.holder .input).joined])),
    (116, bytesOf 1 (bitsOf [s.prot.cellA.ov, s.prot.cellA.hot, s.prot.cellA.uv])),
    (117, bytesOf 1 (bitsOf [s.prot.cellB.ov, s.prot.cellB.hot, s.prot.cellB.uv])),
    (118, bytesOf 1 (bitsOf [s.prot.device.dieHot, s.prot.device.inputOv, s.prot.device.linkFault])),
    (119, match s.prot.first with
      | none => bytesOf 1 0
      | some (k, place) =>
        bytesOf 1 (faultKindValue k) ++ bytesOf 1 (match place with | .cellA => 0 | .cellB => 1 | .device => 2)),
    (121, bytesOf 1 s.bal.queue.length), (122, jobLayout s.bal.queue 0), (125, jobLayout s.bal.queue 1),
    (128, jobLayout s.bal.queue 2), (131, jobLayout s.bal.queue 3),
    (146, match s.bal.last.get p with
      | none => List.replicate 4 0
      | some r => bytesOf 1 r.tag ++ bytesOf 1 (endReasonValue r.reason) ++ bytesOf 2 r.moved) ]

/-- R196, offset 20, for a die temperature that one signed byte holds; another shows as a free value (log 33). -/
def dieLayout (t : Int) : List (Nat × List Byte) :=
  if -128 ≤ t ∧ t ≤ 127 then [(20, [BitVec.ofInt 8 t])] else []

/-- R196: the whole layout. -/
def statusLayout (was : PowerState) (p : Port) (s : State) : List (Nat × List Byte) :=
  statusLayoutLow was p s ++ (channelLayout s.profile false s.chA).map (fun x => (83 + x.1, x.2))
    ++ (channelLayout s.profile s.chB.request s.chB).map (fun x => (96 + x.1, x.2)) ++ statusLayoutHigh p s
    ++ headLayout s.bal.queue ++ dieLayout s.sample.tDie

/-- A record carries these bytes at this offset. -/
def CarriesAt (record : List Byte) (x : Nat × List Byte) : Prop := (record.drop x.1).take x.2.length = x.2

/-! ### Invariants -/

/-- R18, R19: each slot once, at most 16 claims and 8 of a port, and the essential cap. -/
def ClaimTable.Bounded (x : ClaimTable) : Prop :=
  (x.claims.map Claim.id).Nodup ∧ (∀ c ∈ x.claims, c.id < Config.claimSlots) ∧ x.claims.length ≤ Config.claimSlots
    ∧ (∀ p, ownedCount p x.claims ≤ Config.claimsPerPort) ∧ essentialTotal x.claims ≤ Config.essentialCap

/-- R17: the fields of a claim record lie in their ranges. -/
def Claim.InRange (c : Claim) : Prop :=
  1 ≤ c.requested ∧ c.requested ≤ Config.requestedMax ∧ c.floor ≤ c.requested ∧ (c.cls = .elective → 1 ≤ c.floor)

/-- R55, R58: at most 8 entries, each at most 100000 mW. -/
def CeilingsBounded (l : List Ceiling) : Prop :=
  l.length ≤ Config.ceilingDepth ∧ ∀ e ∈ l, e.limit ≤ Config.ceilingMax

/-- R135: the fields of a job lie in their ranges; a tolerance is there exactly where the job has a use for one, held since
exactly while the job is RUNNING, and the resolved direction is the one asked for. -/
def Job.Sound (j : Job) : Prop :=
  j.tag < 256 ∧ j.originator ≠ .input ∧ 1 ≤ j.count ∧ j.count ≤ 4095 ∧ 100 ≤ j.rate ∧ j.rate ≤ 2000
    ∧ (if j.mode = .untilLevel ∨ j.direction = .towardLower then 5 ≤ j.tolerance.getD 0 ∧ j.tolerance.getD 0 ≤ 200
      else j.tolerance = none)
    ∧ j.moved ≤ j.count ∧ j.residue < Config.quantum
    ∧ (j.state = .running ↔ j.heldSince ≠ none) ∧ (j.state = .running → j.resolved ≠ none)
    ∧ (j.resolved = some .aToB → j.direction ≠ .bToA) ∧ (j.resolved = some .bToA → j.direction ≠ .aToB)

/-- R134, R138: a job behind the head has not run. -/
def Job.Fresh (j : Job) : Prop :=
  j.state = .queued ∧ j.resolved = none ∧ j.moved = 0 ∧ j.residue = 0 ∧ j.heldSince = none ∧ j.runs = []

/-- R134, R135: at most 4 jobs, their fields in range and their tags distinct, none but the head has run, and the tag counter
is a byte. -/
def Balance.Sound (b : Balance) : Prop :=
  b.tagCounter < 256 ∧ b.queue.length ≤ Config.queueDepth ∧ (∀ j ∈ b.queue.tail, j.Fresh) ∧ (∀ j ∈ b.queue, j.Sound)
    ∧ (b.queue.map Job.tag).Nodup

/-- R152: OFF exactly when the holder set is empty. -/
def HoldCtl.Sound (h : HoldCtl) : Prop := h.state = .off ↔ h.empty = true

/-- R116, R124, R130: the waiting set never holds the holder, and SUPPLY never waits while another holds the link. -/
def Arbiter.Sound (a : Arbiter) : Prop :=
  (∀ r, a.link = .held r → a.waiting.has r = false) ∧ (a.waiting.supply = true → a.link = .free ∨ a.link = .changeover)

/-- R40, R51: the droop limit never exceeds the current of the contract in force, nor falls below the droop floor. -/
def InputCtl.Sound (x : InputCtl) : Prop :=
  x.droopLimit ≤ x.inForce.current ∧ min Config.droopFloor x.inForce.current ≤ x.droopLimit

/-- R91: a record that profile memory may hold: the fields its kind carries lie in their ranges, the others are 0 (R111). -/
def StepRecord.Valid (r : StepRecord) : Prop :=
  (if r.kind.carriesCurrent = true then 10 ≤ r.current ∧ r.current ≤ 4000 ∧ r.current % 10 = 0 else r.current = 0)
    ∧ (if r.kind ≠ .endStep then
        3000 ≤ r.volt ∧ r.volt ≤ 4450 ∧ -20 ≤ r.cold ∧ r.cold < r.hot ∧ r.hot ≤ 60 ∧ r.next < Config.profileSlots
      else r.volt = 0 ∧ r.cold = 0 ∧ r.hot = 0 ∧ r.next = 0)
    ∧ (if r.kind = .voltage then 20 ≤ r.endCurrent ∧ r.endCurrent ≤ 1000 else r.endCurrent = 0)
    ∧ (if r.kind.carriesDuration = true then 1 ≤ r.duration ∧ r.duration ≤ 1440 else r.duration = 0)
    ∧ (if r.kind.carriesTimeout = true then r.timeout ≤ 1440 else r.timeout = 0)

/-- R90, R91: profile memory holds 48 records, each within its ranges. -/
def ProfileSound (l : List StepRecord) : Prop := l.length = Config.profileSlots ∧ ∀ r ∈ l, r.Valid

/-- R98: what a channel presents is the smaller of its published setpoint and its demand. -/
def Channel.Presents (c : Cell) (profile : List StepRecord) (ch : Channel) : Prop :=
  ch.presented = min ch.published (ch.demand c profile)

/-- R93, R95: outside ACTIVE a channel holds no reason. -/
def Channel.Rests (ch : Channel) : Prop := ch.state ≠ .active → ch.reasons = Reasons.none

/-- R172: under DIE_HOT the thermal state is ZERO, in the monitor and in the snapshot of the pass in progress. -/
def State.ThermalSound (s : State) : Prop :=
  (s.prot.device.dieHot = true → s.prot.thermal = .zero) ∧ ∀ x ∈ s.alloc.pass, x.dieHot = true → x.thermal = .zero

/-- The claim table, the ceiling stack, the input controller, profile memory and the thermal state hold only what the manual
lets them. -/
def State.TablesSound (s : State) : Prop :=
  s.table.Bounded ∧ (∀ c ∈ s.table.claims, c.InRange) ∧ CeilingsBounded s.ceilings ∧ s.input.Sound ∧ ProfileSound s.profile
    ∧ s.ThermalSound

/-- R117, R138 to R141: CHARGE_B waits or holds the link exactly where channel B's request stands, BALANCE exactly where the
queue has a head that is not SUSPENDED; the head is SUSPENDED exactly under a hold or DIE_HOT, and RUNNING exactly while
BALANCE holds the link. R148: what the engine was told of DIE_HOT is what the monitor holds. R132: the hold control's view is
the link state. -/
def State.RequestsSound (s : State) : Prop :=
  s.hold.view = s.arb.link ∧ s.bal.dieHot = s.prot.device.dieHot
    ∧ (s.chB.request = true ↔ s.arb.waiting.chargeB = true ∨ s.arb.link = .held .chargeB)
    ∧ ((∃ j ∈ s.bal.queue.head?, j.state ≠ .suspended) ↔ s.arb.waiting.balance = true ∨ s.arb.link = .held .balance)
    ∧ ∀ j ∈ s.bal.queue.head?, (j.state = .suspended ↔ s.hold.state ≠ .off ∨ s.prot.device.dieHot = true)
        ∧ (j.state = .running ↔ s.arb.link = .held .balance)

/-- R153, R158: while the hold is not OFF, an ACTIVE channel holds HOLD and channel B asks for no link. -/
def State.HoldSound (s : State) : Prop :=
  s.hold.state ≠ .off → s.chB.request = false ∧ (s.chA.state = .active → s.chA.reasons.hold = true)
    ∧ (s.chB.state = .active → s.chB.reasons.hold = true)

/-- The balance queue, the charge hold and the hinge arbiter stand as the manual says they do. -/
def State.LinkUsersSound (s : State) : Prop := s.bal.Sound ∧ s.hold.Sound ∧ s.arb.Sound ∧ s.RequestsSound ∧ s.HoldSound

/-- R1, R4, R6, R8, R9: each stage is RAMPING exactly while its output is not its target; the input stage's output is zero
while VBUS is absent; the cell A path follows what channel A presents, zero while VBUS is absent; and the hinge link follows
its holder. -/
def State.StagesSound (s : State) : Prop :=
  (s.inputStage.ramping = true ↔ s.inputStage.output ≠ s.inputStage.target)
    ∧ (s.pathA.stage.ramping = true ↔ s.pathA.stage.output ≠ s.pathA.stage.target)
    ∧ (s.linkStage.ramping = true ↔ s.linkStage.output ≠ s.linkStage.target)
    ∧ (s.present = false → s.inputStage.output = 0)
    ∧ s.pathA.stage.target = (if s.present = true then s.chA.presented else 0)
    ∧ s.linkStage.target = (match s.arb.link with
      | .free => Flow.zero
      | .changeover => Flow.zero
      | .held .supply => Flow.of .bToNode s.alloc.record.sB
      | .held .chargeB => if s.present = true then Flow.of .nodeToB s.chB.presented else Flow.zero
      | .held .balance => s.bal.flow)

/-- R98, R99, R199: each channel presents the smaller of its published setpoint and its demand and holds no reason outside
ACTIVE, channel B's request stands exactly when its state asks for it, and in LOADING both channels are IDLE. R94: an ACTIVE
channel B holds NO_LINK exactly where CHARGE_B does not hold the link. The stages follow. -/
def State.ChannelsSound (s : State) : Prop :=
  s.chA.Presents .a s.profile ∧ s.chB.Presents .b s.profile ∧ s.chA.Rests ∧ s.chB.Rests
    ∧ s.chB.request = s.chB.wantsLink s.profile
    ∧ (s.power.phase = .loading → s.chA.state = .idle ∧ s.chB.state = .idle)
    ∧ (s.chB.state = .active → (s.chB.reasons.noLink = true ↔ s.arb.link ≠ .held .chargeB))
    ∧ s.StagesSound

end Sys2Proof.Machine
end

