-- ==== Sys2Proof/Certificates/Slice0/Obligations.lean ====
section
/-! DEFINITION. The statements for the provers. In the statements about a request, `handedOver p i s` is the state in
which the block that owns the request takes it: what the port interface does before is the statement UnknownCodeWakes.
Every statement holds for every value of the free values of Config. -/

open Sys2Proof Sys2Proof.Machine

/-! ### The queue and the ports (00, chapter 10) -/

/-- One step takes the command at the front of the queue and is its meaning, with the rest of the queue waiting (log 5). -/
def Obligations.StepTakesFront : Prop :=
  ∀ (i : Instr) (rest : List Instr) (s : State), step { s with pending := i :: rest } = exec i { s with pending := rest }

/-- R180, R193, R194: every well-formed request spells a frame of at most 32 bytes with its code first, and reading the
frame gives the request back, every parameter included. A frame whose code names no request reads as one. Every write
transaction of at least one byte reads as a command that spells its bytes, misframed ones included. -/
def Obligations.FrameRoundTrip : Prop :=
  (∀ (i : Instr) (p : Port) (r : Request), requestOf i = some (p, r, Framing.ofLength r.length) → i.wf = true →
    ∃ bytes, encodeFrame i = some bytes ∧ bytes.length = 2 + r.length ∧ bytes.length ≤ 32
      ∧ bytes.head? = some (BitVec.ofNat 8 r.code) ∧ decodeFrame p (orderOf i) bytes = some i)
  ∧ (∀ (p : Port) (order : Nat) (code : Byte) (rest : List Byte), (∀ r : Request, r.code ≠ code.toNat) →
    decodeFrame p order (code :: rest) = some (.unknownRequestFrame p (code :: rest)))
  ∧ ∀ (p : Port) (order : Nat) (bytes : List Byte), bytes ≠ [] →
    ∃ i, decodeFrame p order bytes = some i ∧ IsFrame i p ∧ writtenBytes i = bytes

/-- R180, R181 step 1, R191, R199: a write transaction without a byte changes nothing. While the busy flag is set, one with a
byte is turned away. Its address is acknowledged and none of its bytes is, and nothing but that record (log 19) changes: no wake, no restart of the dormancy
timer, no leaving of MONITOR; FRAME_TURNED_AWAY is that event. In SHIP and without supply not even the address is. In
LOADING a frame taken is answered NOT_READY, wakes nothing and reaches no block: the slot holds its first 32 bytes, and
these alone are acknowledged. -/
def Obligations.FramesTurnedAway : Prop :=
  ∀ (s : State) (p : Port) (i : Instr) (count : Nat), IsFrame i p →
    let n := (writtenBytes i).length
    let heard (l : List Bool) : State := { s with ports := s.ports.set p { s.port p with acks := l } }
    exec (.unknownRequestFrame p []) s = .next s ∧ exec (.frameTurnedAway { port := p, count := 0 }) s = .next s
    ∧ (0 < n → 0 < count →
    (s.operating = true → (s.port p).busy = true →
      exec i s = .next (heard (true :: List.replicate n false))
      ∧ exec (.frameTurnedAway { port := p, count := count }) s = .next (heard (true :: List.replicate count false)))
    ∧ (s.operating = false →
      exec i s = .next (heard (List.replicate (n + 1) false))
      ∧ exec (.frameTurnedAway { port := p, count := count }) s = .next (heard (List.replicate (count + 1) false)))
    ∧ (s.operating = true → (s.port p).busy = false → s.power.phase = .loading →
      exec i s = .next { s with ports := s.ports.set p { s.port p with
        slot := some ((writtenBytes i).take 32), busy := true
        acks := true :: (List.range n).map (fun k => decide (k < 32))
        handed := some { code := .notReady, payload := [] } } }))

/-- R181 steps 2 and 3, R34, R36, R180, R203: a frame whose code names no request is answered UNKNOWN. Taking it, as
taking any frame past LOADING, is acknowledged up to 32 bytes (log 19), fills the slot with these, sets the busy flag,
restarts the dormancy timer, wakes a dormant port with its suspended claims and a pass, and leaves MONITOR; nothing else
changes. -/
def Obligations.UnknownCodeWakes : Prop :=
  ∀ (s : State) (p : Port) (code : Byte) (rest : List Byte), Hands s p →
    ∃ t, exec (.unknownRequestFrame p (code :: rest)) s = .next t ∧ Answers t p .unknown []
      ∧ t.still = { s.still with
          power := { s.power with state := if s.power.state = .monitor then .active else s.power.state }
          seq := { s.seq with nextArrival :=
            if s.power.state = .monitor then max s.now (s.seq.lastArrival + 100) else s.seq.nextArrival }
          table := if (s.port p).dormant = true then
            { s.table with claims := s.table.claims.map (fun c =>
              if c.owner = .port p ∧ c.standing = .suspended then { c with standing := .deferred } else c) } else s.table
          ports := s.still.ports.set p { s.port p with
            slot := some (code :: rest.take 31), busy := true
            acks := true :: (List.range (rest.length + 1)).map (fun k => decide (k < 32))
            handed := none, dormant := false
            dormancy := if s.settings.dormancy = 0 then none else some (s.now + s.settings.dormancy * 1000) } }
      ∧ (if (s.port p).dormant = true then Triggered s t
         else t.alloc = s.alloc ∧ t.chA = s.chA ∧ t.chB = s.chB)

/-- R181 steps 4 and 5, R194: a request with a missing length byte, or one that is not its payload length or not the
number of bytes carried, is answered BAD_LENGTH; a well-framed one from a port the table shuts out NOT_PERMITTED. Either
way the frame has been taken and nothing more happens. -/
def Obligations.MisframedAnswered : Prop :=
  ∀ (s : State) (p : Port) (i : Instr) (r : Request) (fr : Framing), Hands s p → requestOf i = some (p, r, fr) →
    (¬(fr.lengthByte = some r.length ∧ fr.carried = r.length) →
      exec i s = .next (withReply p .badLength [] (handedOver p i s)))
    ∧ (fr.lengthByte = some r.length → fr.carried = r.length →
      ((r = .contractSet ∧ p ≠ .input) ∨ (r = .shipEnter ∧ p ≠ .main) ∨ (r = .deviceReset ∧ p ≠ .main)
        ∨ (p = .input ∧ r ∈ ([.chStart, .chStop, .stepWrite, .stepRead, .balQueue, .balCancel, .inputRelease, .inputResume,
            .faultClear] : List Request))) →
      exec i s = .next (withReply p .notPermitted [] (handedOver p i s)))

/-- R179, R189: a request leaves the other ports alone: their slots, replies, masks, dormancy, holder entries, claims and
ceilings. DEVICE_RESET and SHIP_ENTER are set apart: they reach every port. The premise is an invariant of the part. -/
def Obligations.RequestsKeepOtherPorts : Prop :=
  ∀ (s t : State) (p q : Port) (i : Instr), s.table.Bounded → IsFrame i p → exec i s = .next t → q ≠ p →
    (∀ fr, i ≠ .deviceReset p fr ∧ i ≠ .shipEnter p fr) →
    (t.port q).quiet = (s.port q).quiet ∧ (t.holder q).quiet = (s.holder q).quiet
      ∧ t.table.claims.filter (Claim.ownedBy q) = s.table.claims.filter (Claim.ownedBy q)
      ∧ t.ceilings.filter (fun e => e.owner == q) = s.ceilings.filter (fun e => e.owner == q)

/-- R188, R196: STATUS_READ hands the status record of this moment, with the power state as it stood when the frame was
taken, and changes nothing more. The record is 150 bytes, and carries every field of the table at its offset, enumerated
fields by their listed values. What R196 leaves open are a die temperature past one signed byte (log 33), the place while
no first fault stands (log 25), and the step kind of a channel in DONE or FAULT: that it is the kind which the slot holds
now in profile memory is the model's choice (log 29). -/
def Obligations.StatusReadReports : Prop :=
  ∀ (s : State) (p : Port), Hands s p →
    let u := handedOver p (.statusRead p (Framing.ofLength 0)) s
    let record := statusRecord s.power.state p u
    exec (.statusRead p (Framing.ofLength 0)) s = .next (withReply p .ok record u)
      ∧ record.length = 150 ∧ ∀ x ∈ statusLayout s.power.state p u, CarriesAt record x

/-- R185: NOTICE_READ hands the port's set and empties it. R186: NOTICE_MASK records bits 0 to 12 of its field, a set bit
closing the kind, hands the mask as recorded, and changes nothing more. R187, R191: the attention line of a part with supply,
be the port busy or the part in LOADING, is asserted exactly when the port's set holds a kind that its mask leaves open. A
part without supply asserts none (log 20). -/
def Obligations.NoticesReadAndMasked : Prop :=
  ∀ (s : State) (p : Port) (field : Nat),
    let u := handedOver p (.noticeRead p (Framing.ofLength 0)) s
    let v := handedOver p (.noticeMask p (Framing.ofLength 2) field) s
    (Hands s p → exec (.noticeRead p (Framing.ofLength 0)) s = .next (withReply p .ok (bytesOf 2 (u.port p).notices.toNat)
      { u with ports := u.ports.set p { u.port p with notices := 0 } }))
    ∧ (Hands s p → exec (.noticeMask p (Framing.ofLength 2) field) s = .next (withReply p .ok (bytesOf 2 (field % 8192))
      { v with ports := v.ports.set p { v.port p with mask := BitVec.ofNat 13 field } }))
    ∧ (∀ k : Notice, holdsNotice k (BitVec.ofNat 13 field) = field.testBit k.bit)
    ∧ (s.power.supplied = true →
        (s.attention p = true ↔ ∃ k : Notice, Noticed s p k ∧ holdsNotice k (s.port p).mask = false))
    ∧ (s.power.supplied = false → s.attention p = false)

/-- R189, R38, R59, R150, R164: PORT_RESET, with the blocks' shares taken in any order, leaves the port no claim, no
ceiling, no job and no place in the hold, an empty notice set and an open mask, and wants a pass. Its last result shows the
RESET of the job that ran, and is empty where none did. The rest of the claim table, the ceiling stack and the holder set
stay. So do the other ports' jobs in their order, their last results and the tag counter, but that a job which so becomes
the head may at once be granted the link and end at its start checks. A port that asks is
awake, so MONITOR is not entered (R202). What no reaction of the blocks touches stays. -/
def Obligations.PortResetClears : Prop :=
  ∀ (s : State) (p : Port) (order : Nat), Hands s p →
    let u := handedOver p (.portReset p (Framing.ofLength 0) order) s
    ∃ t, exec (.portReset p (Framing.ofLength 0) order) s = .next t ∧ Answers t p .ok [] ∧ PassWanted u t
      ∧ t.table = { u.table with claims := u.table.claims.filter (fun c => c.owner != .port p) }
      ∧ t.ceilings = u.ceilings.filter (fun e => e.owner != p)
      ∧ (∀ j ∈ t.bal.queue, j.originator ≠ p)
      ∧ (∀ x ∈ t.bal.last.get p, x.reason = .reset)
      ∧ (let own := u.bal.queue.head?.filter (fun j => j.originator == p)
         (u.holder p).joined = false ∨ (∃ q ∈ [Port.main, .hub, .input], q ≠ p ∧ (u.holder q).joined = true) ∨ own = none →
          t.bal.last.get p = (own.filter (fun j => j.state == .running)).map (fun j =>
            { tag := j.tag, reason := .reset, moved := j.moved }))
      ∧ t.bal.tagCounter = u.bal.tagCounter ∧ t.bal.dieHot = u.bal.dieHot ∧ t.power = u.power ∧ t.seq = u.seq
      ∧ (let key (j : Job) : Job := { j with state := .queued, resolved := none, heldSince := none, runs := [] }
         let others := u.bal.queue.filter (fun j => j.originator != p)
         (t.bal.queue.map key = others.map key ∧ ∀ q, q ≠ p → t.bal.last.get q = u.bal.last.get q)
         ∨ (t.bal.queue.map key = others.tail.map key ∧ ∀ j ∈ others.head?, ∀ q, q ≠ p →
            if q = j.originator then ∃ r ∈ [EndReason.levelReached, .destFull, .sourceLow],
              t.bal.last.get q = some { tag := j.tag, reason := r, moved := j.moved }
            else t.bal.last.get q = u.bal.last.get q))
      ∧ (t.holder p).joined = false
      ∧ ((u.holder p).joined = true → (∀ q, q ≠ p → (u.holder q).joined = false) → t.hold.state = .off)
      ∧ (∀ q, q ≠ p → (t.holder q).quiet = (u.holder q).quiet ∧ (t.port q).quiet = (u.port q).quiet)
      ∧ (t.port p).notices = 0 ∧ (t.port p).mask = 0
      ∧ t.outer = { u.outer with table := t.table, ceilings := t.ceilings, ports := t.outer.ports, hold := t.outer.hold }

/-- R182: the handed reply takes the place of the previous one, the slot empties and the busy flag clears; R155: where the
reply answers the HOLD that entered PENDING, the entry check becomes due (counted per port, log 16). Nothing else
changes. R183, R195: a read from the port's target address (R179) gives PENDING without payload while the busy flag is
set, else the reply frame, its code value, the payload's length and the payload, and zero bytes past its end. -/
def Obligations.ReplyPlaced : Prop :=
  ∀ (s : State) (p : Port) (address n : Nat),
    let value (c : ReplyCode) : Byte := match c with
      | .ok => 0x00
      | .pending => 0x01
      | .notReady => 0x02
      | .unknown => 0x03
      | .badLength => 0x04
      | .notPermitted => 0x05
      | .badValue => 0x06
      | .full => 0x07
      | .overCap => 0x08
      | .notOwner => 0x09
      | .notFound => 0x0A
      | .busy => 0x0B
      | .inUse => 0x0C
      | .refused => 0x0D
    (s.operating = true → ∀ r ∈ (s.port p).handed,
      let t : State := { s with
        ports := s.ports.set p { s.port p with slot := none, busy := false, handed := none, reply := r }
        hold := { s.hold with holders := s.hold.holders.set p { s.holder p with
          unanswered := false, due := (s.holder p).due + (s.holder p).unanswered.toNat } } }
      exec (.replyPlaced p) s = .next t
      ∧ t.readFrame p 0x4B = some (value r.code :: BitVec.ofNat 8 r.payload.length :: r.payload)
      ∧ (2 + r.payload.length ≤ n → t.readByte p 0x4B n = some 0))
    ∧ (s.operating = true → (s.port p).busy = true → s.readFrame p 0x4B = some [0x01, 0x00])
    ∧ (s.operating = false ∨ address ≠ 0x4B → s.readFrame p address = none)

/-! ### The claim table (chapter 02) -/

/-- R20, R21, R24: a CLAIM within the limits is admitted with its amounts clamped: the lowest free slot, the youngest place,
grant 0 and DEFERRED; the main port's essential claim takes the start-up claim's place. One pass is triggered, the reply
carries the record, and nothing else changes. -/
def Obligations.ClaimAdmitted : Prop :=
  ∀ (s : State) (p : Port) (code requested floor : Nat) (cls : ClaimClass), Hands s p → classOf code = some cls →
    0 < requested → (cls = .elective → 0 < floor) →
    let i : Instr := .claim p (Framing.ofLength 5) code requested floor
    let u := handedOver p i s
    let base := if p = .main ∧ cls = .essential then u.table.claims.filter (fun c => c.owner != .internal)
      else u.table.claims
    base.length < 16 → (base.filter (fun c => c.owner == .port p)).length < 8 →
    (cls = .essential → essentialTotal base + min requested 30000 ≤ 12000) →
    ∃ t, exec i s = .next t ∧ ∃ c, t.table.claims.getLast? = some c
      ∧ t.still = { u.still with table := { claims := base ++ [c], nextAdmission := u.table.nextAdmission + 1 } }
      ∧ c.owner = .port p ∧ c.cls = cls ∧ c.requested = min requested 30000
      ∧ c.floor = (match cls with | .essential => 0 | .elective => min floor (min requested 30000))
      ∧ c.grant = 0 ∧ c.standing = .deferred ∧ c.admission = u.table.nextAdmission
      ∧ (∀ d ∈ base, d.id ≠ c.id) ∧ c.id < 16 ∧ (∀ n ∈ List.range c.id, ∃ d ∈ base, d.id = n)
      ∧ Answers t p .ok (claimRecord base.length c) ∧ Triggered u t

/-- R20, R21, R24: a CLAIM with an unlisted class, a requested amount of zero, or an elective floor of zero is refused
BAD_VALUE; then one that finds no free slot, or 8 claims of its port, FULL; then an essential one that would pass the
essential cap OVER_CAP. A refused CLAIM changes nothing. -/
def Obligations.ClaimRefused : Prop :=
  ∀ (s : State) (p : Port) (code requested floor : Nat), Hands s p →
    let i : Instr := .claim p (Framing.ofLength 5) code requested floor
    let u := handedOver p i s
    let base := if p = .main ∧ code = 0 then u.table.claims.filter (fun c => c.owner != .internal) else u.table.claims
    let full := 16 ≤ base.length ∨ 8 ≤ (base.filter (fun c => c.owner == .port p)).length
    (2 ≤ code ∨ requested = 0 ∨ (code = 1 ∧ floor = 0) → exec i s = .next (withReply p .badValue [] u))
    ∧ (code ≤ 1 → 0 < requested → (code = 1 → 0 < floor) → full → exec i s = .next (withReply p .full [] u))
    ∧ (code = 0 → 0 < requested → ¬full → 12000 < essentialTotal base + min requested 30000 →
        exec i s = .next (withReply p .overCap [] u))

/-- R26, R27, R28: an AMEND of the port's own claim, with amounts that pass, replaces its requested amount and floor by the
clamped values. The claim keeps its place where neither value rises, and becomes the youngest where one does. Its grant
and standing stay, one pass is triggered, the reply carries the record with the age after, and nothing else changes. -/
def Obligations.AmendAccepted : Prop :=
  ∀ (s : State) (p : Port) (id requested floor : Nat), Hands s p → id < 16 → 0 < requested →
    let i : Instr := .amend p (Framing.ofLength 5) id requested floor
    let u := handedOver p i s
    let l := u.table.claims
    (l.map Claim.id).Nodup → ∀ c ∈ l.find? (fun d => d.id == id), c.owner = .port p →
    (c.cls = .elective → 0 < floor) →
    let amount := min requested 30000
    let least := match c.cls with | .essential => 0 | .elective => min floor amount
    let new : Claim := { c with requested := amount, floor := least }
    (c.cls = .essential → essentialTotal l - c.requested + amount ≤ 12000) →
    ∃ t, exec i s = .next t
      ∧ (amount ≤ c.requested → least ≤ c.floor →
          t.still = { u.still with table := { u.table with claims := l.map (fun d => if d.id = id then new else d) } })
      ∧ (c.requested < amount ∨ c.floor < least →
          t.still = { u.still with table := { u.table with claims := l.filter (fun d => d.id != id) ++ [new] } })
      ∧ Answers t p .ok (claimRecord (t.table.claims.findIdx (fun d => d.id == id)) new) ∧ Triggered u t

/-- R25, R29: a RELEASE of the port's own claim, or by the main or hub port of the start-up claim, takes the claim out of
the list; every younger claim moves one place toward the head. One pass is triggered, and nothing else changes. -/
def Obligations.ReleaseFrees : Prop :=
  ∀ (s : State) (p : Port) (id : Nat), Hands s p → id < 16 →
    let i : Instr := .release p (Framing.ofLength 1) id
    let u := handedOver p i s
    ∀ c ∈ u.table.claims.find? (fun d => d.id == id), (c.owner = .port p ∨ (c.owner = .internal ∧ p ≠ .input)) →
    ∃ t, exec i s = .next t ∧ Answers t p .ok [] ∧ Triggered u t
      ∧ t.still = { u.still with table := { u.table with claims := u.table.claims.filter (fun d => d.id != id) } }

/-- R26, R28, R29: AMEND and RELEASE of an id above 15 are refused BAD_VALUE, of a free slot NOT_FOUND, of another's claim
NOT_OWNER; then AMEND with a requested amount of zero, or an elective floor of zero, BAD_VALUE, and one past the
essential cap OVER_CAP. A refused request changes nothing. -/
def Obligations.ClaimTableRefuses : Prop :=
  ∀ (s : State) (p : Port) (id requested floor : Nat), Hands s p →
    let a : Instr := .amend p (Framing.ofLength 5) id requested floor
    let r : Instr := .release p (Framing.ofLength 1) id
    let u := handedOver p a s
    let v := handedOver p r s
    (16 ≤ id → exec a s = .next (withReply p .badValue [] u) ∧ exec r s = .next (withReply p .badValue [] v))
    ∧ (id < 16 → u.table.claims.find? (fun d => d.id == id) = none →
        exec a s = .next (withReply p .notFound [] u) ∧ exec r s = .next (withReply p .notFound [] v))
    ∧ (id < 16 → ∀ c ∈ u.table.claims.find? (fun d => d.id == id),
        (c.owner ≠ .port p → exec a s = .next (withReply p .notOwner [] u))
        ∧ (c.owner ≠ .port p → (c.owner = .internal → p = .input) → exec r s = .next (withReply p .notOwner [] v))
        ∧ (c.owner = .port p → requested = 0 ∨ (c.cls = .elective ∧ floor = 0) →
          exec a s = .next (withReply p .badValue [] u))
        ∧ (c.owner = .port p → 0 < requested → c.cls = .essential →
          12000 < essentialTotal u.table.claims - c.requested + min requested 30000 →
          exec a s = .next (withReply p .overCap [] u)))

/-- R30: CLAIM_READ of an id above 15 is refused BAD_VALUE, of a free slot NOT_FOUND. Of an occupied slot, whoever owns the
claim and whether a pass runs or not, it hands the claim's record as the table holds it: id, owner, class, requested,
floor, age, grant, standing. It changes nothing and triggers no pass. -/
def Obligations.ClaimReadReturns : Prop :=
  ∀ (s : State) (p : Port) (id : Nat), Hands s p →
    let i : Instr := .claimRead p (Framing.ofLength 1) id
    let u := handedOver p i s
    let found := u.table.claims.find? (fun d => d.id == id)
    (16 ≤ id → exec i s = .next (withReply p .badValue [] u))
    ∧ (id < 16 → found = none → exec i s = .next (withReply p .notFound [] u))
    ∧ (id < 16 → ∀ c ∈ found, exec i s = .next (withReply p .ok
      (bytesOf 1 c.id
        ++ bytesOf 1 (match c.owner with | .internal => 0 | .port .main => 1 | .port .hub => 2 | .port .input => 3)
        ++ bytesOf 1 (match c.cls with | .essential => 0 | .elective => 1)
        ++ bytesOf 2 c.requested ++ bytesOf 2 (match c.cls with | .essential => 0 | .elective => c.floor)
        ++ bytesOf 1 (u.table.claims.findIdx (fun d => d.id == id))
        ++ bytesOf 2 c.grant
        ++ bytesOf 1 (match c.standing with | .granted => 0 | .partly => 1 | .deferred => 2 | .suspended => 3)) u))

/-- R34, R35, R190: at the expiry of a port's dormancy timer the port becomes dormant and each of its elective claims takes
grant 0 and SUSPENDED. A pass is triggered, and where all that MONITOR asks for stands, the part enters MONITOR and the
next arrival moves to 2000 ms after the latest (R11, R202). Nothing else changes. The expiry
comes at its time or later (log 6). -/
def Obligations.DormancySuspends : Prop :=
  ∀ (s : State) (p : Port), s.operating = true → s.power.phase = .running → ∀ due ∈ (s.port p).dormancy,
    ∃ t, exec (.dormancyExpiry p) s = .next t ∧ Triggered s t
      ∧ t.still = { s.still with
          now := max s.now due, power := t.power, seq := t.seq
          table := { s.table with claims := s.table.claims.map (fun c =>
            if c.owner = .port p ∧ c.cls = .elective then { c with grant := 0, standing := .suspended } else c) }
          ports := s.still.ports.set p { s.port p with handed := none, dormant := true, dormancy := none } }
      ∧ (if s.power.state = .active ∧ s.power.holdOff = none ∧ s.input.state = .detached ∧ s.hold.state = .off
            ∧ s.chA.state ≠ .active ∧ s.chB.state ≠ .active ∧ s.bal.queue = [] ∧ (∀ q ∈ [Port.main, .hub, .input], q ≠ p → (s.port q).dormant = true)
         then t.power = { s.power with state := .monitor }
           ∧ t.seq = { s.seq with nextArrival := s.seq.lastArrival + 2000 }
         else t.power = s.power ∧ t.seq = s.seq)

/-! ### Ceilings and the input (chapter 03) -/

/-- R56: CEIL_PUSH on a full stack is refused FULL. Otherwise an entry with the ceiling, at most 100000, goes on top, a pass
is triggered, the reply carries the ceiling, the number of entries and the smallest of them, and nothing else changes. -/
def Obligations.CeilingPushed : Prop :=
  ∀ (s : State) (p : Port) (ceiling : Nat), Hands s p →
    let i : Instr := .ceilPush p (Framing.ofLength 4) ceiling
    let u := handedOver p i s
    let after := { owner := p, limit := min ceiling 100000 } :: u.ceilings
    (8 ≤ u.ceilings.length → exec i s = .next (withReply p .full [] u))
    ∧ (u.ceilings.length < 8 → ∃ t, exec i s = .next t ∧ Triggered u t ∧ t.still = { u.still with ceilings := after }
        ∧ Answers t p .ok (bytesOf 4 (min ceiling 100000) ++ bytesOf 1 (u.ceilings.length + 1)
          ++ bytesOf 4 ((after.map Ceiling.limit).min?.getD 0xFFFFFFFF)))

/-- R57: CEIL_POP takes out the port's topmost entry, the others keep their order, a pass is triggered, and the reply
carries the ceiling taken out, the number of entries left and the smallest of them, or none. Without an entry of the
port it is refused NOT_FOUND. Nothing else changes. -/
def Obligations.CeilingPopped : Prop :=
  ∀ (s : State) (p : Port) (above below : List Ceiling) (e : Ceiling), Hands s p →
    let i : Instr := .ceilPop p (Framing.ofLength 0)
    let u := handedOver p i s
    ((∀ x ∈ u.ceilings, x.owner ≠ p) → exec i s = .next (withReply p .notFound [] u))
    ∧ (u.ceilings = above ++ e :: below → (∀ x ∈ above, x.owner ≠ p) → e.owner = p →
        ∃ t, exec i s = .next t ∧ Triggered u t ∧ t.still = { u.still with ceilings := above ++ below }
          ∧ Answers t p .ok (bytesOf 4 e.limit ++ bytesOf 1 (u.ceilings.length - 1)
            ++ bytesOf 4 (((above ++ below).map Ceiling.limit).min?.getD 0xFFFFFFFF)))

/-- R44, R45, R46: CONTRACT_SET with a voltage outside 5000..20000 is refused BAD_VALUE, in DETACHED REFUSED. In RELEASING
and RELEASED the contract is stored as pending and nothing else changes. In DEFAULT and CONTRACTED it takes force: held,
the droop limit at its current, the recovery timer stopped, CONTRACT to the main and hub ports, the input stage's target
at the new limit, one pass. -/
def Obligations.ContractTaken : Prop :=
  ∀ (s : State) (voltage current : Nat), Hands s .input →
    let i : Instr := .contractSet .input (Framing.ofLength 4) voltage current
    let u := handedOver .input i s
    let c : Contract := { voltage := voltage, current := min current 5000 }
    let reply := bytesOf 2 voltage ++ bytesOf 2 (min current 5000)
    (voltage < 5000 ∨ 20000 < voltage → exec i s = .next (withReply .input .badValue [] u))
    ∧ (5000 ≤ voltage → voltage ≤ 20000 →
      (u.input.state = .detached → exec i s = .next (withReply .input .refused [] u))
      ∧ (u.input.state = .releasing ∨ u.input.state = .released →
          exec i s = .next (withReply .input .ok (reply ++ bytesOf 1 1)
            { u with input := { u.input with pendingContract := some c } }))
      ∧ (u.input.state = .dflt ∨ u.input.state = .contracted →
          ∃ t, exec i s = .next t ∧ Answers t .input .ok (reply ++ bytesOf 1 0) ∧ Triggered u t
            ∧ t.inputStage.target = min current 5000
            ∧ t.still = { u.still with
                input := { u.input with state := .contracted, held := some c, droopLimit := min current 5000, recovery := none }
                inputStage := t.inputStage, freeUses := t.freeUses, ports := noting 8 [.main, .hub] u.still.ports }))

/-- R47, R48, R49: INPUT_RELEASE and INPUT_RESUME. In DETACHED both are refused REFUSED; a release in RELEASING or RELEASED
and a resume in DEFAULT or CONTRACTED change nothing. A release from DEFAULT or CONTRACTED hands the stage zero and enters
RELEASING, or RELEASED with its notices where the stage is settled. A resume takes a pending contract into force with
CONTRACT, else keeps the held one, and hands the stage its full current. Each triggers one pass. INPUT_STAGE_SETTLED in
RELEASING at zero makes the input RELEASED with its notices and a pass; else only the stage settles. -/
def Obligations.InputReleasedAndResumed : Prop :=
  ∀ (s : State) (p : Port),
    let i : Instr := .inputRelease p (Framing.ofLength 0)
    let k : Instr := .inputResume p (Framing.ofLength 0)
    let u := handedOver p i s
    let v := handedOver p k s
    let settled : Stage Nat := { target := s.inputStage.target, output := s.inputStage.target, ramping := false }
    (Hands s p → p ≠ .input → u.input.state = .detached →
      exec i s = .next (withReply p .refused [] u) ∧ exec k s = .next (withReply p .refused [] v))
    ∧ (Hands s p → p ≠ .input → u.input.state = .releasing ∨ u.input.state = .released → exec i s = .next (withReply p .ok [] u))
    ∧ (Hands s p → p ≠ .input → u.input.state = .dflt ∨ u.input.state = .contracted → exec k s = .next (withReply p .ok [] v)
      ∧ ∃ t, exec i s = .next t ∧ Answers t p .ok [] ∧ Triggered u t ∧ t.inputStage.target = 0
        ∧ (u.inputStage.target = 0 → t.inputStage = u.inputStage)
        ∧ t.still = { u.still with
            input := { u.input with
              state := if t.inputStage.ramping = true then .releasing else .released, requester := some p, recovery := none }
            inputStage := t.inputStage, freeUses := t.freeUses
            ports := if t.inputStage.ramping = true then u.still.ports else noting 10 [.input, p] u.still.ports })
    ∧ (Hands s p → p ≠ .input → u.input.state = .releasing ∨ u.input.state = .released →
      let held := v.input.pendingContract.or v.input.held
      let current := (held.getD { voltage := 5000, current := 500 }).current
      ∃ t, exec k s = .next t ∧ Answers t p .ok [] ∧ Triggered v t ∧ t.inputStage.target = current
        ∧ t.still = { v.still with
            input := { v.input with
              state := if held.isSome = true then .contracted else .dflt, held := held, pendingContract := none,
              requester := none, droopLimit := current }
            inputStage := t.inputStage, freeUses := t.freeUses
            ports := if v.input.pendingContract.isSome = true then noting 8 [.main, .hub] v.still.ports else v.still.ports })
    ∧ (s.operating = true → s.inputStage.ramping = true → (s.present = true ∨ s.inputStage.target = 0) →
      (¬(s.input.state = .releasing ∧ s.inputStage.target = 0) →
        exec .inputStageSettled s = .next { s with inputStage := settled })
      ∧ (s.input.state = .releasing → s.inputStage.target = 0 → s.power.phase = .running →
        ∃ t, exec .inputStageSettled s = .next t ∧ Triggered s t
          ∧ t.still = { s.still with
              inputStage := settled, input := { s.input with state := .released }
              ports := noting 10 (.input :: s.input.requester.toList) s.still.ports }))

/-- R52: the recovery timer's expiry raises the droop limit by a tenth of the contract current, rounded down to 10 mA and
capped there. The timer starts again below the contract current, and stops at it. A changed limit is handed to the stage
in DEFAULT and CONTRACTED and triggers a pass; an unchanged one does neither. The expiry comes at its time or later
(log 6). -/
def Obligations.RecoveryRaisesLimit : Prop :=
  ∀ s : State, s.operating = true → s.power.phase = .running → ∀ due ∈ s.input.recovery,
    let current := (s.input.held.getD { voltage := 5000, current := 500 }).current
    let limit := min current (s.input.droopLimit + current / 10 / 10 * 10)
    let after : InputCtl := { s.input with
      droopLimit := limit, recovery := if limit < current then some (max s.now due + 30000) else none }
    (limit = s.input.droopLimit →
      exec .recoveryTimerExpiry s = .next { s with now := max s.now due, input := after })
    ∧ (limit ≠ s.input.droopLimit →
      ∃ t, exec .recoveryTimerExpiry s = .next t ∧ Triggered s t
        ∧ t.inputStage.target = (if s.input.state = .dflt ∨ s.input.state = .contracted then limit else 0)
        ∧ t.still = { s.still with
            now := max s.now due, input := after, inputStage := t.inputStage, freeUses := t.freeUses })

/-- R42, R6, R9, R15: an attach enters DEFAULT at 500 mA with no contract. Past LOADING the stage is handed 500 mA, from
the zero output that it has while VBUS is absent, and a pass is wanted; in LOADING neither happens. Channel A's
presented setpoint becomes the cell A path's target, and channel B's the link's where CHARGE_B holds it. MONITOR is
left. The rest that no reaction touches stays. -/
def Obligations.AttachTaken : Prop :=
  ∀ (s : State) (level : Bool), s.operating = true → s.present = false →
    ∃ t, exec (.attach level) s = .next t ∧ t.present = true
      ∧ t.input = { s.input with
          state := .dflt, held := none, pendingContract := none, droopLimit := 500, recovery := none, requester := none }
      ∧ (s.power.phase = .running → t.inputStage.target = 500 ∧ PassWanted s t
        ∧ (s.inputStage = { target := 0, output := 0, ramping := false } →
            t.inputStage = { target := 500, output := 0, ramping := true }))
      ∧ (s.power.phase = .loading → t.inputStage = s.inputStage ∧ t.alloc = s.alloc)
      ∧ t.pathA.stage.target = s.chA.presented
      ∧ (s.arb.link = .held .chargeB → t.linkStage.target = Flow.of .nodeToB s.chB.presented)
      ∧ t.power.state = .active
      ∧ t.outer = { s.outer with present := true, input := t.input, inputStage := t.inputStage }

/-- R43, R4, R7, R9, R46, R202: a detach enters DETACHED and discards the contracts, with CONTRACT where one was held. The
input stage's output is zero at once. Past LOADING the stage is handed zero, where it settles, and a pass is wanted. The
cell A path takes a zero target and its bridge: V_A × 6 mW of the latest sample, zero without one or while cell A is
isolated. Where CHARGE_B holds the link the link takes zero. MONITOR is entered where the detach completes what it asks for
(R202). -/
def Obligations.DetachTaken : Prop :=
  ∀ s : State, s.operating = true → s.present = true →
    ∃ t, exec .detach s = .next t ∧ t.present = false
      ∧ t.input = { s.input with
          state := .detached, held := none, pendingContract := none, droopLimit := 500, recovery := none, requester := none }
      ∧ (s.input.held.isSome = true → Noticed t .main .contract ∧ Noticed t .hub .contract)
      ∧ t.inputStage.output = 0
      ∧ (s.power.phase = .running → t.inputStage = { target := 0, output := 0, ramping := false } ∧ PassWanted s t)
      ∧ (s.power.phase = .loading → t.inputStage.target = s.inputStage.target
          ∧ (t.inputStage.ramping = true ↔ s.inputStage.target ≠ 0))
      ∧ t.pathA.stage.target = 0 ∧ t.pathA.bridge = true
      ∧ t.pathA.supply = (match s.seq.latest with
          | none => 0
          | some x => if s.prot.cellA.uv = true then 0 else x.vA * 6000 / 1000)
      ∧ (s.arb.link = .held .chargeB → t.linkStage.target = Flow.zero)
      ∧ t.outer = { s.outer with present := false, input := t.input, inputStage := t.inputStage, pathA := t.outer.pathA }
      ∧ MonitorTested s t

/-! ### Samples and faults (chapters 01, 03, 09) -/

/-- R11 to R14: a sample arrival, taken by the blocks in any order, becomes the latest sample with every quantity at the
nearer end of its range; the link charge is what has accumulated, at most 1000, and the accumulator restarts. The next
arrival is one period of the power state later. Past LOADING a pass is wanted, and MONITOR is entered exactly where what the
blocks make of the sample completes what MONITOR asks for (R202). It comes at its time or later (log 6). -/
def Obligations.SampleRecorded : Prop :=
  ∀ (s : State) (m : RawSample) (order : Nat), s.operating = true → s.seq.running = true →
    let near (lo hi i : Int) : Int := max lo (min hi i)
    ∃ t, exec (.sampleArrival m order) s = .next t
      ∧ t.now = max s.now s.seq.nextArrival
      ∧ t.seq = { s.seq with
          lastArrival := t.now, prevArrival := s.seq.lastArrival
          nextArrival := t.now + (if t.power.state = .monitor then 2000 else 100), charge := 0
          latest := some
            { vA := (near 0 5000 m.vA).toNat, vB := (near 0 5000 m.vB).toNat, iA := near (-8000) 8000 m.iA
              iB := near (-8000) 8000 m.iB, tA := near (-400) 1500 m.tA, tB := near (-400) 1500 m.tB
              vIn := (near 0 25000 m.vIn).toNat, tDie := near (-40) 150 m.tDie, linkCurrent := min m.linkCurrent 4000
              linkCharge := min (s.seq.charge + m.linkCharge) 1000 } }
      ∧ (s.power.phase = .running → PassWanted s t)
      ∧ (s.power.phase = .running → s.power.state = .active →
          (t.power.state = .monitor ↔ t.RestsForMonitor ∧ ¬s.RestsForMonitor))

/-- R167, R168, R169, R60, R172, R203: what a sample does to the fault sets, whatever the order of the blocks. Each fault
is raised and cleared at its thresholds; INPUT_OV is not the sample's to judge. A raise tells all three ports, leaves
MONITOR and starts the hold-off timer. The first-fault record names a raise that finds every set empty, the tests taken in
the order of the table, and stays where none does. The thermal state follows. While CELL_UV isolates cell A, and from its clear
to the next publication, cell A gives no supply; otherwise the allowance stays (R6, R171). -/
def Obligations.SampleJudgesFaults : Prop :=
  ∀ (s : State) (m : RawSample) (order : Nat), s.operating = true → s.seq.running = true →
    ∃ t, exec (.sampleArrival m order) s = .next t ∧ ∃ x, t.seq.latest = some x ∧
      let cell (f : CellFaults) (v : Nat) (c : Int) : CellFaults :=
        { ov := f.ov || decide (4500 ≤ v), hot := f.hot || decide (650 ≤ c), uv := if f.uv then decide (v < 3000) else decide (v < 2800) }
      let a := cell s.prot.cellA x.vA x.tA
      let b := cell s.prot.cellB x.vB x.tB
      let d : DeviceFaults :=
        { dieHot := if s.prot.device.dieHot then decide (110 ≤ x.tDie) else decide (125 ≤ x.tDie)
          inputOv := s.prot.device.inputOv, linkFault := s.prot.device.linkFault || decide (3300 < x.linkCurrent) }
      let tests : List (Bool × Bool × FaultKind × FaultPlace) :=
        [ (s.prot.cellA.ov, a.ov, .cellOv, .cellA), (s.prot.cellB.ov, b.ov, .cellOv, .cellB),
          (s.prot.cellA.hot, a.hot, .cellHot, .cellA), (s.prot.cellB.hot, b.hot, .cellHot, .cellB),
          (s.prot.cellA.uv, a.uv, .cellUv, .cellA), (s.prot.cellB.uv, b.uv, .cellUv, .cellB),
          (s.prot.device.dieHot, d.dieHot, .dieHot, .device), (s.prot.device.linkFault, d.linkFault, .linkFault, .device) ]
      let raised := tests.filter (fun y => !y.1 && y.2.1)
      let before := s.prot.device.inputOv || tests.any (fun y => y.1)
      let firstRaise (y : Bool × Bool × FaultKind × FaultPlace) (n : Nat) : Bool := !y.1 && y.2.1 && !s.prot.device.inputOv
        && (tests.take n).all (fun z => !z.2.1) && (tests.drop n).all (fun z => !z.1)
      t.prot.cellA = a ∧ t.prot.cellB = b ∧ t.prot.device = d
        ∧ t.prot.thermal = (if d.dieHot || decide (125 ≤ x.tDie) then .zero
            else if 100 ≤ x.tDie then .derating x.tDie.toNat else .none)
        ∧ t.prot.first = (match tests.zipIdx.find? (fun y => firstRaise y.1 y.2) with
            | some y => some y.1.2.2
            | none => s.prot.first)
        ∧ (before = false → ∀ y ∈ raised.head?, t.prot.first = some y.2.2)
        ∧ t.allowanceA = (if s.prot.cellA.uv = true ∨ a.uv = true then 0 else s.pathA.supply)
        ∧ t.pathA.supply = (if s.prot.cellA.uv = true ∧ a.uv = false then 0 else s.pathA.supply)
        ∧ t.pathA.bridge = s.pathA.bridge
        ∧ (raised ≠ [] → (∀ q ∈ [Port.main, .hub, .input], Noticed t q .fault)
              ∧ t.power.holdOff = some (t.now + 10000) ∧ t.power.state = .active)

/-- R170, R108, R148, R172, R174, R94, R141: what the raises and clears of a sample past LOADING do to other blocks, whatever
the order. One of CELL_OV or CELL_HOT leaves the cell's channel not ACTIVE and no job queued; where the engine takes it
before any other change of the sample (order 0, log 9) and BALANCE cannot be granted as it does, every job ends with FAULT,
a clear of DIE_HOT that the engine has not been told of yet notwithstanding (R138). DIE_HOT raised gives an ACTIVE
channel DIE_HOT and a setpoint of zero and leaves the head SUSPENDED; cleared, it takes the reason away, and releases the
head where the hold is OFF. LINK_FAULT raised sets the arbiter's lock; nobody holds the link and no job is RUNNING. The
job that ran there and was not made to yield or be SUSPENDED has ended, and its originator is told. -/
def Obligations.FaultsStopTheirBlocks : Prop :=
  ∀ (s : State) (m : RawSample) (order : Nat), s.operating = true → s.seq.running = true → s.power.phase = .running →
    ∃ t, exec (.sampleArrival m order) s = .next t ∧
      (∀ c ∈ [Cell.a, .b],
        ((t.prot.cell c).ov = true ∧ (s.prot.cell c).ov = false) ∨ ((t.prot.cell c).hot = true ∧ (s.prot.cell c).hot = false) →
        (t.channel c).state ≠ .active ∧ t.bal.queue = []
        ∧ (order = 0 → s.LinkUsersSound → (∀ j ∈ s.bal.queue.head?, j.state ≠ .queued) ∨ s.arb.link = .changeover
              ∨ s.arb.link = .held .supply ∨ s.arb.backoffBalance ≠ none →
            ∀ p ∈ [Port.main, .hub], ∀ j ∈ (s.bal.queue.filter (fun k => k.originator == p)).getLast?,
              Noticed t p .balDone ∧ t.bal.last.get p = some { tag := j.tag, reason := .fault, moved := j.moved }))
      ∧ (s.prot.device.dieHot = false → t.prot.device.dieHot = true →
        (∀ c ∈ [Cell.a, .b], (t.channel c).state = .active →
          (t.channel c).reasons.dieHot = true ∧ (t.channel c).presented = 0)
        ∧ ∀ j ∈ t.bal.queue.head?, j.state = .suspended)
      ∧ (s.prot.device.dieHot = true → t.prot.device.dieHot = false →
        (∀ c ∈ [Cell.a, .b], (t.channel c).state = .active → (t.channel c).reasons.dieHot = false)
        ∧ (s.hold.state = .off → ∀ j ∈ t.bal.queue.head?, j.state ≠ .suspended))
      ∧ (t.prot.device.linkFault = true → s.prot.device.linkFault = false →
        t.arb.faultLock = true ∧ t.arb.holder = none ∧ (∀ j ∈ t.bal.queue.head?, j.state ≠ .running)
        ∧ (s.bal.Sound → ∀ j ∈ s.bal.queue.head?, j.state = .running → s.arb.link = .held .balance → s.arb.yieldPending = false →
            s.chB.state ≠ .active → t.prot.device.dieHot = false → t.prot.cellA = s.prot.cellA → t.prot.cellB = s.prot.cellB →
            Noticed t j.originator .balDone ∧ t.bal.queue.map Job.tag = s.bal.queue.tail.map Job.tag
            ∧ ∃ r ∈ [EndReason.fault, .countDone, .levelReached, .destFull, .sourceLow], ∃ x ∈ t.bal.last.get j.originator,
                x.tag = j.tag ∧ x.reason = r))

/-- R51, R54: what a sample does to the input controller past LOADING, whatever the order of the blocks. A V_in below nine
tenths of the contract voltage in DEFAULT and CONTRACTED cuts the droop limit by a tenth, down to the floor, restarts the
recovery timer and raises DROOP to the input and main ports; a changed limit is handed to the stage. The over-voltage
report is made against eleven tenths of the reference voltage. -/
def Obligations.SampleJudgesInput : Prop :=
  ∀ (s : State) (m : RawSample) (order : Nat), s.operating = true → s.seq.running = true → s.power.phase = .running →
    ∃ t, exec (.sampleArrival m order) s = .next t ∧ ∃ x, t.seq.latest = some x ∧
      let drawing := s.input.state = .dflt ∨ s.input.state = .contracted
      let force := s.input.held.getD { voltage := 5000, current := 500 }
      let reference := if drawing then force.voltage else (s.input.pendingContract.getD force).voltage
      let report := decide (s.input.state ≠ .detached ∧ reference * 11 / 10 < x.vIn)
      let limit := max (min 100 force.current) (s.input.droopLimit * 9 / 10 / 10 * 10)
      if drawing ∧ x.vIn < force.voltage * 9 / 10 then
        t.input = { s.input with
            droopLimit := limit, recovery := some (t.now + 30000), reports := s.input.reports ++ [report] }
          ∧ Noticed t .input .droop ∧ Noticed t .main .droop
          ∧ (if limit = s.input.droopLimit then t.inputStage = s.inputStage else t.inputStage.target = limit)
      else t.input = { s.input with reports := s.input.reports ++ [report] } ∧ t.inputStage = s.inputStage

/-- R173, R168, R169: the over-voltage reports are delivered oldest first, each as an event of its own (log 15). A
report of an over-voltage raises INPUT_OV where it is absent, with FAULT to all ports, the hold-off timer and one pass;
a report within limit clears it where it is present, with one pass; any other report changes no more than its delivery.
-/
def Obligations.InputOvReported : Prop :=
  ∀ (s : State) (high : Bool) (rest : List Bool), s.operating = true → s.power.phase = .running →
    let u : State := { s with input := { s.input with reports := high :: rest } }
    let v : State := { s with input := { s.input with reports := rest } }
    let ov (b : Bool) : DeviceFaults := { s.prot.device with inputOv := b }
    (high = s.prot.device.inputOv → exec .inputOvReport u = .next v)
    ∧ (high = false → s.prot.device.inputOv = true →
      ∃ t, exec .inputOvReport u = .next t ∧ Triggered u t
        ∧ t.still = { v.still with prot := { s.prot with device := ov false } })
    ∧ (high = true → s.prot.device.inputOv = false →
      ∃ t, exec .inputOvReport u = .next t ∧ Triggered u t
        ∧ t.still = { v.still with
            prot := { s.prot with
              device := ov true
              first := if s.prot.cellA = CellFaults.none ∧ s.prot.cellB = CellFaults.none ∧ s.prot.device = DeviceFaults.none
                then some (.inputOv, .device) else s.prot.first }
            power := { s.power with state := .active, holdOff := some (s.now + 10000) }
            seq := { s.seq with nextArrival :=
              if s.power.state = .monitor then max s.now (s.seq.lastArrival + 100) else s.seq.nextArrival }
            ports := noting 11 [.main, .hub, .input] s.still.ports })

/-- R175, R176, R131: FAULT_CLEAR. An unlisted target is refused BAD_VALUE, one without a latched fault NOT_FOUND, one with
a latched fault whose release condition still stands REFUSED with those kinds and the target's set. Otherwise every
latched fault of the target is cleared, CELL_UV and the first-fault record stay, the reply carries the kinds cleared and
the set after, and a pass is wanted. A clear of LINK_FAULT opens the arbiter's lock: in FREE, with the link settled at
zero, the choice of R119 is made at once, and the requester chosen is granted the link; elsewhere the link state stays. -/
def Obligations.FaultsCleared : Prop :=
  ∀ (s : State) (p : Port) (target : Nat), Hands s p → p ≠ .input →
    let i : Instr := .faultClear p (Framing.ofLength 1) target
    let u := handedOver p i s
    let x := u.sample
    (3 ≤ target → exec i s = .next (withReply p .badValue [] u))
    ∧ (∀ c ∈ [Cell.a, .b], target = (match c with | .a => 0 | .b => 1) →
      let f := u.prot.cell c
      let ovStays := f.ov && decide (4400 ≤ x.volt c)
      let hotStays := f.hot && decide (550 ≤ x.temp c)
      (f.ov = false → f.hot = false → exec i s = .next (withReply p .notFound [] u))
      ∧ (ovStays = true ∨ hotStays = true → exec i s = .next (withReply p .refused
          (bytesOf 1 (ovStays.toNat + 2 * hotStays.toNat) ++ bytesOf 1 (f.ov.toNat + 2 * f.hot.toNat + 4 * f.uv.toNat)) u))
      ∧ (f.ov = true ∨ f.hot = true → ovStays = false → hotStays = false →
          ∃ t, exec i s = .next t ∧ Triggered u t
            ∧ Answers t p .ok (bytesOf 1 (f.ov.toNat + 2 * f.hot.toNat) ++ bytesOf 1 (4 * f.uv.toNat))
            ∧ t.still = { u.still with prot := u.prot.setCell c { ov := false, hot := false, uv := f.uv } }))
    ∧ (target = 2 →
      let d := u.prot.device
      (d.linkFault = false → exec i s = .next (withReply p .notFound [] u))
      ∧ (d.linkFault = true → 3300 < x.linkCurrent → exec i s = .next (withReply p .refused
          (bytesOf 1 4 ++ bytesOf 1 (d.dieHot.toNat + 2 * d.inputOv.toNat + 4)) u))
      ∧ (d.linkFault = true → x.linkCurrent ≤ 3300 →
          ∃ t, exec i s = .next t ∧ PassWanted u t ∧ t.arb.faultLock = false
            ∧ Answers t p .ok (bytesOf 1 4 ++ bytesOf 1 (d.dieHot.toNat + 2 * d.inputOv.toNat))
            ∧ Keeps (withReply p .ok (bytesOf 1 4 ++ bytesOf 1 (d.dieHot.toNat + 2 * d.inputOv.toNat))
                { u with prot := { u.prot with device := { d with linkFault := false } } }) t
            ∧ (let v := { u with prot := { u.prot with device := { d with linkFault := false } }
                                 arb := { u.arb with faultLock := false } }
               let grants := u.arb.link = .free ∧ u.linkStage.ramping = false ∧ u.linkStage.target = Flow.zero
               (¬grants ∨ v.arb.choice = none → Triggered u t ∧ t.still = { u.still with prot := v.prot, arb := v.arb })
               ∧ (grants → ∀ w ∈ v.arb.choice, Granted v t w))))

/-! ### Passes (chapter 04) -/

/-- R61, R71: the budget of a pass is the smallest of P_conv, the effective ceiling and the thermal ceiling, an absent bound
taking no part, and the budget limit names the first of them that equals it. -/
def Obligations.BudgetIsSmallestBound : Prop :=
  ∀ x : Snapshot,
    let thermal : Option Nat := match x.thermal with
      | .none => none
      | .derating d => some (x.pConv * (125 - d) / 25)
      | .zero => some 0
    x.pBud ≤ x.pConv ∧ (∀ n ∈ x.ceiling, x.pBud ≤ n) ∧ (∀ n ∈ thermal, x.pBud ≤ n)
      ∧ (x.pBud = x.pConv → x.budget.2 = .input)
      ∧ (x.pBud ≠ x.pConv → some x.pBud = x.ceiling → x.budget.2 = .ceiling)
      ∧ (x.pBud ≠ x.pConv → some x.pBud ≠ x.ceiling → some x.pBud = thermal ∧ x.budget.2 = .thermal)

/-- R70: in DEFAULT and CONTRACTED without INPUT_OV the input power is the contract's voltage times the smaller of its
current and the droop limit, after the input stage's 940/1024; in every other case it is zero. -/
def Obligations.InputPowerFollowsContract : Prop :=
  ∀ x : Snapshot,
    if (x.inputState = .dflt ∨ x.inputState = .contracted) ∧ x.inputOv = false then
      x.pRaw = x.contract.voltage * min x.contract.current x.droopLimit / 1000
        ∧ x.pConv = x.contract.voltage * min x.contract.current x.droopLimit / 1000 * 940 / 1024
    else x.pRaw = 0 ∧ x.pConv = 0

/-- R72, R73: what a pass grants, claim by claim in admission order. Every essential claim gets its requested amount,
whatever the budget; what the budget leaves of it, or lacks, is R, or D. From R, each elective claim not SUSPENDED gets
its requested amount, or what is left where that reaches its floor, or nothing; what is left at the end is P_chg. -/
def Obligations.GrantsFollowClaims : Prop :=
  ∀ (x : Snapshot) (count n : Nat),
    let e := ((x.claims.filter (fun d => d.cls == .essential)).map Claim.requested).sum
    let earlier := (((x.claims.take n).zip x.grants).filter (fun y => y.1.cls == .elective)).map (fun y => y.2.grant)
    let r := x.pBud - e - earlier.sum
    x.essential = e ∧ x.deficit = e - x.pBud ∧ x.remainder = x.pBud - e ∧ x.grants.length = x.claims.length
      ∧ (let elective := (((x.claims.zip x.grants).filter (fun y => y.1.cls == .elective)).map (fun y => y.2.grant)).sum
         (x.figures count).pChg = x.pBud - e - elective ∧ (x.figures count).elective = elective ∧ elective ≤ x.pBud - e)
      ∧ ∀ c ∈ x.claims[n]?, ∃ g, x.grants[n]? = some g ∧ g.admission = c.admission
        ∧ (c.cls = .essential → g.grant = c.requested ∧ g.standing = .granted)
        ∧ (c.cls = .elective → c.standing = .suspended → g.grant = 0 ∧ g.standing = .suspended)
        ∧ (c.cls = .elective → c.standing ≠ .suspended →
            if c.requested ≤ r then g.grant = c.requested ∧ g.standing = .granted
            else if c.floor ≤ r then g.grant = r ∧ g.standing = .partly
            else g.grant = 0 ∧ g.standing = .deferred)

/-- R74, R76, R77, R78: the charge split keeps its bounds in every pass. Charge grants are within P_chg, and zero with a
deficit, a hold or DIE_HOT; each setpoint is a multiple of 10 mA where its demand is, within its demand, costs no more at
the node than its grant, and is zero on a cell with a latched fault or, for cell B, without CHARGE_B holding the link. A
starved channel has setpoint and grant zero. -/
def Obligations.ChargeStaysInBounds : Prop :=
  ∀ (x : Snapshot) (count : Nat),
    let f := x.figures count
    f.gA + f.gB ≤ f.pChg ∧ f.cA ≤ x.demandA ∧ f.cB ≤ x.demandB
      ∧ (0 < f.deficit ∨ x.holdOff = false ∨ x.dieHot = true →
          f.gA = 0 ∧ f.gB = 0 ∧ f.cA = 0 ∧ f.cB = 0 ∧ f.starvedA = false ∧ f.starvedB = false)
      ∧ (x.latchedA = true → f.cA = 0 ∧ f.gA = 0) ∧ (x.latchedB = true ∨ x.holder ≠ some .chargeB → f.cB = 0 ∧ f.gB = 0)
      ∧ (x.demandA % 10 = 0 → f.cA % 10 = 0) ∧ (x.demandB % 10 = 0 → f.cB % 10 = 0)
      ∧ f.cA * max x.vA 2800 / 1000 ≤ f.gA ∧ f.cB * max x.vB 2800 / 1000 * 1024 / 980 ≤ f.gB
      ∧ (f.starvedA = true → f.cA = 0 ∧ f.gA = 0) ∧ (f.starvedB = true → f.cB = 0 ∧ f.gB = 0)
      ∧ (f.starvedA = false → 0 < f.cA → 100 ≤ f.cA ∨ f.cA = x.demandA)
      ∧ (f.starvedB = false → 0 < f.cB → 100 ≤ f.cB ∨ f.cB = x.demandB)

/-- R74 to R78: how charging divides P_chg. A channel with a latched fault, and channel B without CHARGE_B holding the link,
has no admitted demand. Where P_chg covers the cost of both, each channel gets its full demand. Where it does not, the
whole of P_chg is divided, the cell that lags by more than 50 mV at twice its weight and the excess over one cost moving to
the other, and the setpoints follow, rounded down to 10 mA. A setpoint below 100 mA and below the demand is STARVED: it
gets nothing, and the other channel the smaller of P_chg and its cost. Demands are multiples of 10 mA (R91, R97). -/
def Obligations.ChargeSplitWeighs : Prop :=
  ∀ (x : Snapshot) (count : Nat), x.holdOff = true → x.deficit = 0 → x.dieHot = false →
    x.demandA % 10 = 0 → x.demandB % 10 = 0 →
    let f := x.figures count
    let va := max x.vA 2800
    let vb := max x.vB 2800
    let ia := if x.latchedA = true then 0 else x.demandA
    let ib := if x.latchedB = true ∨ x.holder ≠ some .chargeB then 0 else x.demandB
    let da := (va * ia + 999) / 1000
    let db := ((vb * ib + 999) / 1000 * 1024 + 979) / 980
    let wa := if va + 50 < vb then 2 * da else da
    let wb := if vb + 50 < va then 2 * db else db
    let share := f.pChg * wa / (wa + wb)
    let gA := if share ≤ da then max share (f.pChg - db) else da
    let gB := f.pChg - gA
    let setA (g : Nat) := min ia (g * 1000 / va / 10 * 10)
    let setB (g : Nat) := min ib (g * 980 / 1024 * 1000 / vb / 10 * 10)
    let starvedA := setA gA < 100 ∧ setA gA < ia
    let starvedB := setB gB < 100 ∧ setB gB < ib
    (da + db ≤ f.pChg → f.gA = da ∧ f.gB = db ∧ f.cA = ia ∧ f.cB = ib ∧ f.starvedA = false ∧ f.starvedB = false)
    ∧ (f.pChg < da + db →
      gA ≤ da ∧ gB ≤ db ∧ f.starvedA = decide starvedA ∧ f.starvedB = decide starvedB
      ∧ (¬starvedA → ¬starvedB → f.gA = gA ∧ f.gB = gB ∧ f.cA = setA gA ∧ f.cB = setB gB)
      ∧ (starvedA → f.gA = 0 ∧ f.cA = 0) ∧ (starvedB → f.gB = 0 ∧ f.cB = 0)
      ∧ (starvedA → ¬starvedB → f.gB = min f.pChg db ∧ f.cB = setB (min f.pChg db))
      ∧ (starvedB → ¬starvedA → f.gA = min f.pChg da ∧ f.cA = setA (min f.pChg da)))

/-- R79, R80: with a deficit, the supplies of the two cells and the shortfall add up to it. Neither supply exceeds its
cell's cap, which is zero under isolation and, for cell B, under LINK_FAULT; a shortfall means that every cell is at its
cap. With headroom the deficit is shared in its proportion; what a share exceeds its cell's cap by passes to the other cell,
as far as that cell's cap allows. Without headroom, cell A is drawn first. With no deficit all three are zero. -/
def Obligations.SupplyCoversDeficit : Prop :=
  ∀ (x : Snapshot) (count : Nat),
    let f := x.figures count
    let capA := if x.isolatedA = true then 0 else x.vA * 6000 / 1000
    let outB := x.isolatedB = true ∨ x.linkFault = true
    let capB := if outB then 0 else x.vB * 3000 / 1000 * 980 / 1024
    let hA := if x.isolatedA = true then 0 else x.vA - 3400
    let hB := if outB then 0 else x.vB - 3400
    f.sA + f.sB + f.shortfall = f.deficit ∧ f.sA ≤ capA ∧ f.sB ≤ capB
      ∧ (0 < f.shortfall → f.sA = capA ∧ f.sB = capB)
      ∧ (0 < hA + hB → f.deficit * hA / (hA + hB) ≤ capA → f.deficit - f.deficit * hA / (hA + hB) ≤ capB →
          f.sA = f.deficit * hA / (hA + hB) ∧ f.sB = f.deficit - f.sA)
      ∧ (let sA0 := f.deficit * hA / (hA + hB)
         let sB0 := f.deficit - sA0
         0 < hA + hB →
          (capA < sA0 → f.sA = capA ∧ f.sB = min (sB0 + (sA0 - capA)) capB)
          ∧ (sA0 ≤ capA → capB < sB0 → f.sB = capB ∧ f.sA = min (sA0 + (sB0 - capB)) capA))
      ∧ (hA + hB = 0 → f.sA = min f.deficit capA ∧ f.sB = min (f.deficit - f.sA) capB)
      ∧ (f.supply = true ↔ 0 < f.sB)

/-- R32, R33, R37, R66, R82 to R86: the publication of a pass, its parts taken in any order. The record becomes the figures
of the snapshot with the next count. Each claim of an admission the snapshot held takes its grant and standing, but an
elective claim of a dormant owner takes none and SUSPENDED is never taken from a publication; a changed grant tells the
owner. Each channel takes its setpoint, 0 where its stale mark is set, and, ACTIVE, the reasons NO_INPUT and DEFICIT. The
cell A path takes sA, in force but under isolation (R6), and loses its bridge. DEFICIT and SHORTFALL tell of a crossing of zero. A pending rerun starts. -/
def Obligations.PublicationTaken : Prop :=
  ∀ (s : State) (order : Nat), s.operating = true → ∀ x ∈ s.alloc.pass,
    let f := x.figures ((s.alloc.record.count + 1) % 65536)
    let taken (c : Claim) : Option GrantOut := (x.grants.find? (fun g => g.admission == c.admission)).filter (fun g =>
      g.standing != .suspended && !(c.cls == .elective && (match c.owner with
        | .internal => false
        | .port p => (s.port p).dormant)))
    ∃ t, exec (.publication order) s = .next t ∧ t.alloc.record = f ∧ t.alloc.rerun = false
      ∧ (t.alloc.pass = none ∨ t.alloc.pass = some t.snapshot) ∧ (s.alloc.rerun = true → t.alloc.pass = some t.snapshot)
      ∧ t.table = { s.table with claims := s.table.claims.map (fun c =>
          match taken c with
          | some g => { c with grant := g.grant, standing := g.standing }
          | none => c) }
      ∧ (∀ c ∈ s.table.claims, ∀ p ∈ [Port.main, .hub, .input], c.owner = .port p → ∀ g ∈ taken c, g.grant ≠ c.grant →
          Noticed t p .grant)
      ∧ t.chA.published = (if s.chA.stale = true then 0 else f.cA)
      ∧ t.chB.published = (if s.chB.stale = true then 0 else f.cB)
      ∧ (s.chA.state = .active → t.chA.reasons.noInput = decide (f.pBud = 0) ∧ t.chA.reasons.deficit = decide (0 < f.deficit)
          ∧ (s.chA.stale = false → t.chA.reasons.starved = f.starvedA))
      ∧ (s.chB.state = .active → t.chB.reasons.noInput = decide (f.pBud = 0) ∧ t.chB.reasons.deficit = decide (0 < f.deficit)
          ∧ (s.chB.stale = false → t.chB.reasons.starved = f.starvedB))
      ∧ t.pathA.supply = f.sA ∧ t.pathA.bridge = false ∧ t.allowanceA = (if s.prot.cellA.uv = true then 0 else f.sA)
      ∧ ((s.alloc.record.deficit = 0 ↔ f.deficit ≠ 0) → Noticed t .main .deficit ∧ Noticed t .hub .deficit)
      ∧ ((s.alloc.record.shortfall = 0 ↔ f.shortfall ≠ 0) → Noticed t .main .shortfall ∧ Noticed t .hub .shortfall)
      ∧ t.outer = { s.outer with table := t.table, alloc := t.outer.alloc, pathA := t.outer.pathA }

/-- R81, R124: after a publication the SUPPLY request stands exactly where sB is above zero: SUPPLY waits or holds the link.
A holder other than SUPPLY has then lost the link, and the link in SUPPLY's hand carries sB to the node. The premise is an
invariant of the part. -/
def Obligations.SupplyFollowsPublication : Prop :=
  ∀ (s : State) (order : Nat), s.operating = true → s.arb.Sound → ∀ x ∈ s.alloc.pass,
    ∃ t, exec (.publication order) s = .next t
      ∧ ((t.arb.waiting.supply = true ∨ t.arb.link = .held .supply) ↔ 0 < t.alloc.record.sB)
      ∧ (0 < t.alloc.record.sB → t.arb.link ≠ .held .chargeB ∧ t.arb.link ≠ .held .balance)
      ∧ (t.arb.link = .held .supply → t.linkStage.target = Flow.of .bToNode t.alloc.record.sB)

/-! ### Channels and profile memory (chapter 05) -/

/-- R109, R95, R105 to R107: CH_START. An unlisted cell or a slot above 47 is refused BAD_VALUE, an ACTIVE channel BUSY, a
cell with a latched fault REFUSED. Otherwise the walk starts at the slot and passes through each step whose exit holds on
the latest sample. At END, reached through at most 3 steps, the channel is DONE there with CH_END; at a step whose exit
does not hold it is ACTIVE there, timer and run at 0, TEMP judged, HOLD, DIE_HOT and NO_LINK as their causes stand, NO_INPUT
and DEFICIT as the publication record says (that neither stands before the first publication is the model's choice, log 11); where
the fourth step's exit holds it is in FAULT there with CHAIN_LOOP and CH_END. CH_STEP tells of a step entered. The reply
carries state, slot and fault code, a pass is wanted, and the other channel and what no reaction touches stay. -/
def Obligations.ChannelStarts : Prop :=
  ∀ (s : State) (p : Port) (cell slot : Nat), Hands s p → p ≠ .input →
    let i : Instr := .chStart p (Framing.ofLength 2) cell slot
    let u := handedOver p i s
    let x := u.sample
    (2 ≤ cell ∨ 48 ≤ slot → exec i s = .next (withReply p .badValue [] u))
    ∧ ∀ c ∈ [Cell.a, .b], cell = (if c = .a then 0 else 1) → slot < 48 →
      let latched := (u.prot.cell c).ov || (u.prot.cell c).hot
      ((u.channel c).state = .active → exec i s = .next (withReply p .busy [] u))
      ∧ ((u.channel c).state ≠ .active → latched = true → exec i s = .next (withReply p .refused [] u))
      ∧ ((u.channel c).state ≠ .active → latched = false → ∃ t, exec i s = .next t ∧ PassWanted u t
        ∧ Answers t p .ok (bytesOf 1 (t.channel c).state.code ++ bytesOf 1 ((t.channel c).slot.getD 255)
            ++ bytesOf 1 (t.channel c).code.code)
        ∧ t.outer = { u.outer with ports := t.outer.ports }
        ∧ (c = .a → { t.chB with stale := u.chB.stale } = u.chB)
        ∧ (c = .b → { t.chA with stale := u.chA.stale } = u.chA)
        ∧ ((t.channel c).state = .fault → (t.channel c).code = .chainLoop ∧ Noticed t .main .chEnd ∧ Noticed t .hub .chEnd)
        ∧ (∀ k ∈ List.range 4, PassesThrough u.profile (x.volt c) slot k →
          let n := chainSlot u.profile slot k
          let r := u.profile.getD n StepRecord.ended
          (0 < k → Noticed t .main .chStep ∧ Noticed t .hub .chStep)
          ∧ (r.kind = .endStep → (t.channel c).state = .done ∧ (t.channel c).slot = some n ∧ (t.channel c).code = .none
            ∧ (t.channel c).reasons = Reasons.none ∧ (t.channel c).presented = 0
            ∧ Noticed t .main .chEnd ∧ Noticed t .hub .chEnd)
          ∧ (r.kind ≠ .endStep → ¬r.PassesAt (x.volt c) →
            (t.channel c).state = .active ∧ (t.channel c).slot = some n ∧ (t.channel c).code = .none
            ∧ (t.channel c).timer = 0 ∧ (t.channel c).run = 0
            ∧ (t.channel c).reasons.hold = decide (u.hold.state ≠ .off)
            ∧ (t.channel c).reasons.temp = decide (x.temp c < r.cold * 10 ∨ r.hot * 10 ≤ x.temp c)
            ∧ (t.channel c).reasons.noInput = (u.alloc.published && decide (u.alloc.record.pBud = 0))
            ∧ (t.channel c).reasons.deficit = (u.alloc.published && decide (0 < u.alloc.record.deficit))
            ∧ (t.channel c).reasons.dieHot = u.prot.device.dieHot ∧ (t.channel c).reasons.starved = false
            ∧ (t.channel c).reasons.noLink = decide (c = .b ∧ t.arb.holder ≠ some .chargeB)
            ∧ (t.channel c).Presents c t.profile
            ∧ (c = .b → t.chB.request = decide (r.kind ≠ .rest ∧ t.chB.reasons.hold = false ∧ t.chB.reasons.temp = false
                ∧ t.chB.reasons.noInput = false ∧ t.chB.reasons.deficit = false ∧ t.chB.reasons.dieHot = false))
            ∧ Noticed t .main .chStep ∧ Noticed t .hub .chStep))
        ∧ (PassesThrough u.profile (x.volt c) slot 4 →
            (t.channel c).state = .fault ∧ (t.channel c).code = .chainLoop
            ∧ (t.channel c).slot = some (chainSlot u.profile slot 3)
            ∧ (t.channel c).reasons = Reasons.none ∧ (t.channel c).presented = 0
            ∧ Noticed t .main .chStep ∧ Noticed t .hub .chStep ∧ Noticed t .main .chEnd ∧ Noticed t .hub .chEnd))

/-- R110, R105: CH_STOP. An unlisted cell is refused BAD_VALUE. A channel that is not IDLE becomes IDLE with no slot and no
code; an ACTIVE one presents 0, drops its reasons and, channel B, its request. A pass is wanted. An IDLE channel whose
stage and request agree with it stays as it is. The reply carries the state before the stop. A channel so leaves ACTIVE,
but a port that asks is awake, so MONITOR is not entered (R202). -/
def Obligations.ChannelStops : Prop :=
  ∀ (s : State) (p : Port) (cell : Nat), Hands s p → p ≠ .input →
    let i : Instr := .chStop p (Framing.ofLength 1) cell
    let u := handedOver p i s
    (2 ≤ cell → exec i s = .next (withReply p .badValue [] u))
    ∧ ∀ c ∈ [Cell.a, .b], cell = (if c = .a then 0 else 1) →
      ((u.channel c).state = .idle → (c = .a → u.pathA.stage.target = u.chA.presented)
          → (c = .b → u.linkStage.target = u.linkTarget ∧ u.chB.request = false) →
        exec i s = .next (withReply p .ok (bytesOf 1 0) u))
      ∧ ((u.channel c).state ≠ .idle → ∃ t, exec i s = .next t ∧ PassWanted u t
        ∧ Answers t p .ok (bytesOf 1 (u.channel c).state.code)
        ∧ (t.channel c).state = .idle ∧ (t.channel c).slot = none ∧ (t.channel c).code = .none
        ∧ (t.channel c).timer = (u.channel c).timer ∧ (t.channel c).run = (u.channel c).run
        ∧ ((u.channel c).state = .active → (t.channel c).reasons = Reasons.none ∧ (t.channel c).presented = 0)
        ∧ (c = .b → t.chB.request = false)
        ∧ (c = .a → { t.chB with stale := u.chB.stale } = u.chB)
        ∧ (c = .b → { t.chA with stale := u.chA.stale } = u.chA)
        ∧ t.power = u.power ∧ t.seq = u.seq ∧ t.outer = { u.outer with ports := t.outer.ports })

/-- R111: STEP_WRITE. A slot above 47 is refused BAD_VALUE, the present slot of an ACTIVE channel IN_USE, then a record with
an unlisted kind or a carried field out of its bounds BAD_VALUE. Otherwise the record goes into the slot with its carried
fields clamped and the others zero, the reply carries it, and nothing else changes: no pass is triggered. -/
def Obligations.StepWriteRecords : Prop :=
  ∀ (s : State) (p : Port) (slot : Nat) (r : RawStep), Hands s p → p ≠ .input →
    let i : Instr := .stepWrite p (Framing.ofLength 15) slot r
    let u := handedOver p i s
    let inUse := (u.chA.state = .active ∧ u.chA.slot = some slot) ∨ (u.chB.state = .active ∧ u.chB.slot = some slot)
    (48 ≤ slot → exec i s = .next (withReply p .badValue [] u))
    ∧ (slot < 48 → inUse → exec i s = .next (withReply p .inUse [] u))
    ∧ (slot < 48 → ¬inUse → 6 ≤ r.kind → exec i s = .next (withReply p .badValue [] u))
    ∧ (slot < 48 → ¬inUse → ∀ k ∈ [StepKind.precharge, .current, .voltage, .topoff, .rest, .endStep], k.code = r.kind →
      let charging := k ≠ .rest ∧ k ≠ .endStep
      let timed := k = .topoff ∨ k = .rest
      if (charging → 10 ≤ r.current) ∧ (k ≠ .endStep → 3000 ≤ r.volt) ∧ (k = .voltage → 20 ≤ r.endCurrent ∧ r.endCurrent ≤ 1000)
          ∧ (timed → 0 < r.duration) ∧ (k ≠ .endStep → -20 ≤ r.cold ∧ r.cold < r.hot ∧ r.hot ≤ 60 ∧ r.next < 48) then
        let x : StepRecord :=
          { kind := k, current := if charging then min (r.current / 10 * 10) 4000 else 0
            volt := if k = .endStep then 0 else min r.volt 4450
            endCurrent := if k = .voltage then r.endCurrent else 0, duration := if timed then min r.duration 1440 else 0
            timeout := if k = .precharge ∨ k = .current ∨ k = .voltage then min r.timeout 1440 else 0
            cold := if k = .endStep then 0 else r.cold, hot := if k = .endStep then 0 else r.hot
            next := if k = .endStep then 0 else r.next }
        exec i s = .next (withReply p .ok (stepRecordBytes x) { u with profile := u.profile.set slot x })
      else exec i s = .next (withReply p .badValue [] u))

/-- R113, with the layout of R197: STEP_READ of a slot above 47 is refused BAD_VALUE. Otherwise the reply carries the
slot's record as profile memory holds it, whether a channel uses the slot or not; nothing changes and no pass is
triggered. In profile memory as every step keeps it, fields that the record's kind does not carry read as zero. -/
def Obligations.StepReadReturns : Prop :=
  ∀ (s : State) (p : Port) (slot : Nat), Hands s p → p ≠ .input →
    let i : Instr := .stepRead p (Framing.ofLength 1) slot
    let u := handedOver p i s
    let r := u.profile.getD slot StepRecord.ended
    let kind := bytesOf 1 (match r.kind with
          | .precharge => 0
          | .current => 1
          | .voltage => 2
          | .topoff => 3
          | .rest => 4
          | .endStep => 5)
    (48 ≤ slot → exec i s = .next (withReply p .badValue [] u))
    ∧ (slot < 48 → exec i s = .next (withReply p .ok
      (kind ++ bytesOf 2 r.current ++ bytesOf 2 r.volt ++ bytesOf 2 r.endCurrent ++ bytesOf 2 r.duration
        ++ bytesOf 2 r.timeout ++ signedBytesOf 1 r.cold ++ signedBytesOf 1 r.hot ++ bytesOf 1 r.next) u))
    ∧ (slot < 48 → ProfileSound s.profile → exec i s = .next (withReply p .ok
      (kind ++ bytesOf 2 (if r.kind = .rest ∨ r.kind = .endStep then 0 else r.current)
        ++ bytesOf 2 (if r.kind = .endStep then 0 else r.volt) ++ bytesOf 2 (if r.kind = .voltage then r.endCurrent else 0)
        ++ bytesOf 2 (if r.kind = .topoff ∨ r.kind = .rest then r.duration else 0)
        ++ bytesOf 2 (if r.kind = .precharge ∨ r.kind = .current ∨ r.kind = .voltage then r.timeout else 0)
        ++ (if r.kind = .endStep then [0, 0, 0] else signedBytesOf 1 r.cold ++ signedBytesOf 1 r.hot ++ bytesOf 1 r.next)) u))

/-- R97, R98, R100 to R104, R106, R107: what an ACTIVE channel does with a sample that changes no fault, whatever the order of
the blocks; channel B with no balance job queued and its request as its state asks. TEMP is judged, the setpoint follows
the demand (channel B's at most 3000 mA), the step timer and the end-current run advance by their rules. Without an exit
the step stays, or times out into FAULT with STEP_TIMEOUT and CH_END. With an exit the channel walks on, through steps
whose exits hold: to DONE at END, to ACTIVE in the step whose exit does not hold, with CH_STEP, or, where the fourth step's
exit holds, to FAULT with CHAIN_LOOP. A channel B that TEMP stops withdraws CHARGE_B (R99). -/
def Obligations.ChannelTakesSample : Prop :=
  ∀ (s : State) (m : RawSample) (order : Nat), s.operating = true → s.seq.running = true → s.power.phase = .running →
    ∃ t, exec (.sampleArrival m order) s = .next t ∧ ∃ x, t.seq.latest = some x ∧ (t.prot.cellA = s.prot.cellA →
      t.prot.cellB = s.prot.cellB → t.prot.device = s.prot.device →
      ∀ c ∈ [Cell.a, .b], (s.channel c).state = .active →
      (c = .b → s.bal.queue = [] ∧ s.chB.request = s.chB.wantsLink s.profile) →
      let ch := s.channel c
      let new := t.channel c
      let r := ch.step s.profile
      let charging := r.kind ≠ .rest ∧ r.kind ≠ .endStep
      let temp := decide (x.temp c < r.cold * 10 ∨ r.hot * 10 ≤ x.temp c)
      let reasons := { ch.reasons with temp := temp }
      let free := ¬(ch.reasons.hold = true ∨ temp = true ∨ ch.reasons.noInput = true ∨ ch.reasons.noLink = true
        ∨ ch.reasons.deficit = true ∨ ch.reasons.dieHot = true)
      let cap := if c = .b then min r.current 3000 else r.current
      let presented := if charging ∧ free then min ch.published cap else 0
      let timer := if (charging ∧ presented ≠ 0) ∨ (r.kind = .rest ∧ temp = false) then min (ch.timer + 1) 864001 else ch.timer
      let run := if r.kind = .voltage then
          (if presented ≠ 0 ∧ r.endCurrent < presented ∧ presented = ch.lastSetpoint ∧ x.amps c < r.endCurrent
           then min (ch.run + 1) 3 else 0)
        else ch.run
      let v := x.volt c
      let exit := ((r.kind = .precharge ∨ r.kind = .current) ∧ r.volt ≤ v) ∨ (r.kind = .voltage ∧ 3 ≤ run)
        ∨ ((r.kind = .topoff ∨ r.kind = .rest) ∧ r.duration * 600 ≤ timer) ∨ (r.kind = .rest ∧ v < r.volt)
      let late := (r.kind = .precharge ∨ r.kind = .current ∨ r.kind = .voltage) ∧ r.timeout ≠ 0 ∧ r.timeout * 600 < timer
      (¬exit → ¬late → new.state = .active ∧ new.slot = ch.slot ∧ new.timer = timer ∧ new.run = run
          ∧ new.reasons.temp = temp ∧ (c = .b → charging → temp = true → new.request = false ∧ new.presented = 0)
          ∧ (c = .a ∨ temp = ch.reasons.temp → { new with stale := ch.stale } = { ch with
              reasons := reasons, presented := presented, timer := timer, run := run, lastSetpoint := presented }))
      ∧ (¬exit → late → new.state = .fault ∧ new.code = .stepTimeout ∧ new.slot = ch.slot ∧ new.timer = timer
          ∧ new.presented = 0 ∧ new.reasons = Reasons.none ∧ new.request = (if c = .b then false else ch.request)
          ∧ Noticed t .main .chEnd ∧ Noticed t .hub .chEnd)
      ∧ (exit → ∀ k ∈ List.range 4, PassesThrough s.profile v r.next k →
          let n := chainSlot s.profile r.next k
          let after := s.profile.getD n StepRecord.ended
          (0 < k → Noticed t .main .chStep ∧ Noticed t .hub .chStep)
          ∧ (after.kind = .endStep → new.state = .done ∧ new.slot = some n ∧ new.presented = 0
            ∧ new.request = (if c = .b then false else ch.request) ∧ Noticed t .main .chEnd ∧ Noticed t .hub .chEnd)
          ∧ (after.kind ≠ .endStep → ¬after.PassesAt v → new.state = .active ∧ new.slot = some n ∧ new.timer = 0 ∧ new.run = 0
            ∧ new.reasons.temp = decide (x.temp c < after.cold * 10 ∨ after.hot * 10 ≤ x.temp c)
            ∧ new.Presents c s.profile
            ∧ (c = .b → new.request = decide (after.kind ≠ .rest ∧ new.reasons.temp = false ∧ ch.reasons.hold = false
                ∧ ch.reasons.noInput = false ∧ ch.reasons.deficit = false ∧ ch.reasons.dieHot = false))
            ∧ Noticed t .main .chStep ∧ Noticed t .hub .chStep))
      ∧ (exit → PassesThrough s.profile v r.next 4 → new.state = .fault ∧ new.code = .chainLoop
          ∧ new.slot = some (chainSlot s.profile r.next 3) ∧ new.presented = 0 ∧ new.reasons = Reasons.none
          ∧ Noticed t .main .chStep ∧ Noticed t .hub .chStep ∧ Noticed t .main .chEnd ∧ Noticed t .hub .chEnd))

/-- R102, R103, R105 as events of their own: STEP_TIMEOUT of an ACTIVE channel whose timed step has outrun its timeout with
no exit on the latest sample brings FAULT with STEP_TIMEOUT in the same slot; STEP_DURATION_END of a TOPOFF or REST step
whose timer has reached the duration brings the next step, or DONE at an END slot. Leaving ACTIVE enters MONITOR where all
that it asks for then stands (R202). Otherwise neither does anything.
That these are events of their own is the table's; when they act is the model's choice (log 14). -/
def Obligations.StepTimersEnd : Prop :=
  ∀ (s : State) (c : Cell), s.operating = true → s.power.phase = .running →
    let ch := s.channel c
    let r := ch.step s.profile
    let v := s.sample.volt c
    let after := s.profile.getD r.next StepRecord.ended
    let late := ch.state = .active ∧ (r.kind = .precharge ∨ r.kind = .current ∨ r.kind = .voltage) ∧ r.timeout ≠ 0
      ∧ r.timeout * 600 < ch.timer ∧ exitHolds r v ch.timer ch.run = false
    let ended := ch.state = .active ∧ (r.kind = .topoff ∨ r.kind = .rest) ∧ r.duration * 600 ≤ ch.timer
    (¬late → exec (.stepTimeout c) s = .next s) ∧ (¬ended → exec (.stepDurationEnd c) s = .next s)
    ∧ (late → ∃ t, exec (.stepTimeout c) s = .next t ∧ PassWanted s t ∧ MonitorTested s t ∧ t.outer = s.outer
        ∧ (t.channel c).state = .fault ∧ (t.channel c).code = .stepTimeout ∧ (t.channel c).slot = ch.slot
        ∧ (t.channel c).presented = 0 ∧ (t.channel c).reasons = Reasons.none ∧ (c = .b → t.chB.request = false)
        ∧ Noticed t .main .chEnd ∧ Noticed t .hub .chEnd)
    ∧ (ended → ∃ t, exec (.stepDurationEnd c) s = .next t ∧ PassWanted s t ∧ MonitorTested s t ∧ t.outer = s.outer
        ∧ (after.kind = .endStep → (t.channel c).state = .done ∧ (t.channel c).slot = some r.next
            ∧ Noticed t .main .chEnd ∧ Noticed t .hub .chEnd)
        ∧ (after.kind ≠ .endStep → exitHolds after v 0 0 = false → (t.channel c).state = .active
            ∧ (t.channel c).slot = some r.next ∧ (t.channel c).timer = 0 ∧ Noticed t .main .chStep ∧ Noticed t .hub .chStep))


/-! ### The balance engine (chapter 07) -/

/-- R136 to R139, R126, R127, R129: BAL_QUEUE. An unlisted direction or mode or a count outside 1 to 4095 is refused BAD_VALUE, a full queue
FULL, a latched cell fault REFUSED. Otherwise the job joins the back with the first tag from the counter on that no job
holds, rate and tolerance clamped. Behind another job, or as a head that must wait, nothing else changes but the waiting
set, as in FREE while BALANCE's backoff runs (R129); under a hold or DIE_HOT, as the engine was told, it is SUSPENDED. A FREE
settled link grants what R119 chooses: a head so granted is RUNNING at its rate, or ends where its start checks fail. A
CHARGE_B holder whose tenure has expired yields to it at once (R126, R127): CHARGE_B loses the link and waits in its backoff,
channel B takes NO_LINK and presents 0, and the choice of R119 follows where the link is settled at zero, else later. -/
def Obligations.JobQueued : Prop :=
  ∀ (s : State) (p : Port) (direction mode count rate tolerance : Nat), Hands s p → p ≠ .input → s.bal.tagCounter < 256 →
    let i : Instr := .balQueue p (Framing.ofLength 7) direction mode count rate tolerance
    let u := handedOver p i s
    let q := u.bal.queue
    let latched := u.prot.cellA.ov = true ∨ u.prot.cellA.hot = true ∨ u.prot.cellB.ov = true ∨ u.prot.cellB.hot = true
    let good := direction ≤ 2 ∧ mode ≤ 1 ∧ 1 ≤ count ∧ count ≤ 4095
    (¬good → exec i s = .next (withReply p .badValue [] u))
    ∧ (good → 4 ≤ q.length → exec i s = .next (withReply p .full [] u))
    ∧ (good → q.length < 4 → latched → exec i s = .next (withReply p .refused [] u))
    ∧ (good → q.length < 4 → ¬latched →
      ∃ k ∈ List.range 4,
        let tag := (u.bal.tagCounter + k) % 256
        let tol := if mode = 1 ∨ direction = 2 then some (max 5 (min tolerance 200)) else none
        let j : Job :=
          { tag := tag, originator := p
            direction := if direction = 0 then .aToB else if direction = 1 then .bToA else .towardLower
            mode := if mode = 0 then .count else .untilLevel
            count := count, rate := max 100 (min rate 2000), tolerance := tol, resolved := none, moved := 0, residue := 0
            state := .queued, heldSince := none, runs := [] }
        let answer := bytesOf 1 tag ++ bytesOf 2 j.rate ++ bytesOf 1 (tol.getD 0) ++ bytesOf 1 q.length
        let placed (x : Job) : State := { u with bal := { u.bal with queue := q ++ [x], tagCounter := (tag + 1) % 256 } }
        let paused := u.hold.state ≠ .off ∨ u.bal.dieHot = true
        let asking : Arbiter := { u.arb with waiting := { u.arb.waiting with balance := true } }
        let settled := u.linkStage.ramping = false ∧ u.linkStage.target = Flow.zero
        let waits := u.arb.link = .changeover ∨ u.arb.link = .held .supply
          ∨ (u.arb.link = .held .chargeB ∧ u.arb.tenureExpired = false)
          ∨ (u.arb.link = .free ∧ (¬settled ∨ asking.choice = none))
        (∀ y ∈ q, y.tag ≠ tag) ∧ (∀ m ∈ List.range k, ∃ y ∈ q, y.tag = (u.bal.tagCounter + m) % 256)
        ∧ (q ≠ [] → exec i s = .next (withReply p .ok answer (placed j)))
        ∧ (q = [] → paused → exec i s = .next (withReply p .ok answer (placed { j with state := .suspended })))
        ∧ (q = [] → ¬paused → u.arb.waiting.balance = false → waits →
            exec i s = .next (withReply p .ok answer { placed j with arb := asking }))
        ∧ (q = [] → ¬paused → u.arb.waiting.balance = false → u.arb.link = .free → settled → ∀ w ∈ asking.choice,
          ∃ t, exec i s = .next t ∧ Answers t p .ok answer ∧ Granted { placed j with arb := asking } t w
            ∧ (w = .balance → j.endsAtStart u.sample = none → Triggered u t
              ∧ t.linkStage.target = { dir := if j.wayAtStart u.sample = .aToB then .aToB else .bToA, mag := j.rate }
              ∧ t.still = { u.still with
                  bal := { u.bal with
                    queue := [{ j with state := .running, resolved := some (j.wayAtStart u.sample), heldSince := some u.now }]
                    tagCounter := (tag + 1) % 256 }
                  arb := { u.arb with link := .held .balance, lastPair := some .balance, tenureExpired := false,
                                      yieldPending := false, tenure := some (u.now + u.settings.tenure) }
                  hold := { u.hold with view := .held .balance }
                  linkStage := t.linkStage, freeUses := t.freeUses })
            ∧ (w = .balance → j.endsAtStart u.sample ≠ none → t.bal.queue = [] ∧ t.arb.waiting.balance = false
              ∧ t.outer = { u.outer with ports := t.outer.ports }))
        ∧ (q = [] → ¬paused → u.arb.waiting.balance = false → u.arb.link = .held .chargeB → u.arb.tenureExpired = true →
          ∃ t, exec i s = .next t ∧ Answers t p .ok answer ∧ Yielded { placed j with arb := asking } t))

/-- R145, R146: BAL_CANCEL. A tag of no job is refused NOT_FOUND, one of another port's job NOT_OWNER. Otherwise the job
ends CANCELLED: it leaves the queue, its originator's last result is written and BAL_DONE raised, the reply carrying the
state and the moved count before. A job behind the head changes nothing more. The end of a head makes the next job the
head: a RUNNING head gives up the link with its backoff, and the next head is QUEUED and waiting, or SUSPENDED; a
SUSPENDED head leaves a SUSPENDED one and the arbiter alone. A QUEUED head withdraws BALANCE; where another job is queued,
that one raises it again, and waits, is granted a FREE settled link at once where R119 chooses it, or makes a CHARGE_B
holder past its tenure yield (R126). The queue may so become empty, but a port that asks is awake, so
MONITOR is not entered (R202). -/
def Obligations.JobCancelled : Prop :=
  ∀ (s : State) (p : Port) (tag : Nat), Hands s p → p ≠ .input →
    let i : Instr := .balCancel p (Framing.ofLength 1) tag
    let u := handedOver p i s
    let q := u.bal.queue
    let found := q.find? (fun j => j.tag == tag)
    let result (j : Job) : Option LastResult := some { tag := j.tag, reason := .cancelled, moved := j.moved }
    (found = none → exec i s = .next (withReply p .notFound [] u))
    ∧ ∀ j ∈ found, let answer := bytesOf 1 tag ++ bytesOf 1 j.state.code ++ bytesOf 2 j.moved
      (j.originator ≠ p → exec i s = .next (withReply p .notOwner [] u))
      ∧ (j.originator = p → q.head? ≠ some j → exec i s = .next (withReply p .ok answer { u with
          bal := { u.bal with queue := q.filter (fun k => k.tag != tag), last := u.bal.last.set p (result j) }
          ports := noting 5 [p] u.ports }))
      ∧ (j.originator = p → q.head? = some j → ∃ t, exec i s = .next t ∧ Answers t p .ok answer ∧ Noticed t p .balDone
          ∧ (t.bal.queue.map Job.tag) <:+ (q.tail.map Job.tag) ∧ t.outer = { u.outer with ports := t.outer.ports }
          ∧ t.power = u.power ∧ t.seq = u.seq
          ∧ (j.state = .running → u.arb.link = .held .balance → PassWanted u t
            ∧ t.bal.last = u.bal.last.set p (result j) ∧ t.bal.queue.map Job.tag = q.tail.map Job.tag
            ∧ t.arb.holder ≠ some .balance ∧ t.arb.backoffBalance = some (u.now + 100)
            ∧ (∀ k ∈ t.bal.queue.head?, k.state = if u.hold.state = .off ∧ u.bal.dieHot = false then .queued
                else .suspended)
            ∧ t.arb.waiting.balance = decide (q.tail ≠ [] ∧ u.hold.state = .off ∧ u.bal.dieHot = false))
          ∧ (let paused := u.hold.state ≠ .off ∨ u.bal.dieHot = true
             (j.state = .suspended → paused → t.arb = u.arb ∧ t.bal.last = u.bal.last.set p (result j)
              ∧ t.bal.queue.map Job.tag = q.tail.map Job.tag ∧ ∀ k ∈ t.bal.queue.head?, k.state = .suspended)))
      ∧ (j.originator = p → q.head? = some j → j.state = .queued → u.hold.state = .off → u.bal.dieHot = false →
          u.arb.link ≠ .held .balance → u.arb.waiting.balance = true →
          let next := match q.tail with
            | [] => []
            | k :: rest => { k with state := .queued } :: rest
          let v : State := { u with
            bal := { u.bal with queue := next, last := u.bal.last.set p (result j) }, ports := noting 5 [p] u.ports }
          let settled := u.linkStage.ramping = false ∧ u.linkStage.target = Flow.zero
          let waits := u.arb.link = .changeover ∨ u.arb.link = .held .supply
            ∨ (u.arb.link = .held .chargeB ∧ u.arb.tenureExpired = false)
            ∨ (u.arb.link = .free ∧ (¬settled ∨ u.arb.choice = none))
          (q.tail = [] → exec i s = .next (withReply p .ok answer
            { v with arb := { u.arb with waiting := { u.arb.waiting with balance := false } } }))
          ∧ (q.tail ≠ [] → waits → exec i s = .next (withReply p .ok answer v))
          ∧ (q.tail ≠ [] → u.arb.link = .free → settled → ∀ w ∈ u.arb.choice,
            ∃ t, exec i s = .next t ∧ Answers t p .ok answer ∧ Granted v t w)
          ∧ (q.tail ≠ [] → u.arb.link = .held .chargeB → u.arb.tenureExpired = true →
            ∃ t, exec i s = .next t ∧ Answers t p .ok answer ∧ Yielded v t))

/-- R142 to R144, R128: what a sample that changes no fault does to the head, where CHARGE_B is not asked for or the head
RUNS on the link. The counted time is the ms of the interval in which the job ran or had its tail, from each run's grant to
40 ms after its loss (log 24); the credit, at most its allowance outside a whole interval, goes to the residue and whole
quanta to moved. The first end reason that holds ends the job, a head that waits within its backoff by its tail's credit
too. A head that goes on leaves the last results and the jobs behind as they are, keeps only a tail that reaches past the
arrival, and a completed quantum takes the link from it where a yield is pending. -/
def Obligations.HeadCredited : Prop :=
  ∀ (s : State) (m : RawSample) (order : Nat), s.operating = true → s.seq.running = true → s.power.phase = .running →
    ∀ j ∈ s.bal.queue.head?,
    let runs := j.state = .running ∧ s.arb.link = .held .balance
    let unasked := s.chB.state ≠ .active ∧ s.chB.request = false
    runs ∨ unasked →
    ∃ t, exec (.sampleArrival m order) s = .next t ∧ ∃ x, t.seq.latest = some x ∧ (t.prot.cellA = s.prot.cellA →
      t.prot.cellB = s.prot.cellB → t.prot.device = s.prot.device →
      let start := s.seq.lastArrival
      let whole := t.now - start
      let held (k : Nat) : Bool := decide (j.state = .running) && (j.heldSince.map (fun h => decide (h ≤ start + k))).getD false
      let tail (k : Nat) : Bool := j.runs.any (fun y => decide (y.start ≤ start + k ∧ start + k < y.stop))
      let later := j.runs.filter (fun y => decide (t.now < y.stop))
      let counted := ((List.range whole).filter (fun k => held k || tail k)).length
      let credit := if counted = 0 then 0 else if counted = whole then x.linkCharge
        else min x.linkCharge ((j.rate * counted + 3599) / 3600)
      let quanta := (j.residue + credit) / 500
      let moved := min j.count (j.moved + quanta)
      let near := x.vA ≤ x.vB + j.tolerance.getD 0 ∧ x.vB ≤ x.vA + j.tolerance.getD 0
      let reason : Option EndReason :=
        if moved = j.count then some .countDone
        else if j.mode = .untilLevel ∧ 0 < quanta ∧ near then some .levelReached
        else if j.state = .running ∧ ((j.resolved = some .aToB ∧ 4350 ≤ x.vB) ∨ (j.resolved = some .bToA ∧ 4350 ≤ x.vA)) then
          some .destFull
        else if j.state = .running ∧ ((j.resolved = some .aToB ∧ x.vA < 3400) ∨ (j.resolved = some .bToA ∧ x.vB < 3400)) then
          some .sourceLow
        else none
      (reason = none → t.bal.last = s.bal.last ∧ t.bal.queue.tail = s.bal.queue.tail ∧ ∃ k ∈ t.bal.queue.head?,
          k = { j with moved := moved, residue := (j.residue + credit) % 500
                       state := k.state, heldSince := k.heldSince, runs := k.runs }
          ∧ (unasked → runs → if s.arb.yieldPending = true ∧ 0 < quanta then
              k.state = .queued ∧ k.heldSince = none
                ∧ k.runs = later ++ [{ start := j.heldSince.getD t.now, stop := t.now + 40 }]
            else k.state = .running ∧ k.heldSince = j.heldSince ∧ k.runs = later)
          ∧ (unasked → runs → s.arb.yieldPending = true → 0 < quanta → t.arb.holder ≠ some .balance)
          ∧ (unasked → ¬runs → s.arb.link ≠ .held .balance → k.state = j.state ∧ k.heldSince = j.heldSince
              ∧ k.runs = later))
      ∧ (unasked → j.state ≠ .running → s.arb.link ≠ .held .balance → s.arb.backoffBalance ≠ none → ∀ r ∈ reason,
          Noticed t j.originator .balDone ∧ t.arb.holder ≠ some .balance
          ∧ t.bal.last = s.bal.last.set j.originator (some { tag := j.tag, reason := r, moved := moved })
          ∧ t.bal.queue.map Job.tag = s.bal.queue.tail.map Job.tag)
      ∧ (runs → ∀ r ∈ reason, Noticed t j.originator .balDone ∧ t.arb.holder ≠ some .balance
          ∧ t.bal.last = s.bal.last.set j.originator (some { tag := j.tag, reason := r, moved := moved })
          ∧ t.bal.queue.map Job.tag = s.bal.queue.tail.map Job.tag ∧ t.arb.backoffBalance = some (t.now + 100)))

/-! ### The charge hold (chapter 08) -/

/-- R153, R154: HOLD. A port already in the set, or one that joins a PENDING or EFFECTIVE hold, changes only its own
entry, whose timer starts in EFFECTIVE. Joining an empty set leaves OFF: ACTIVE channels take HOLD and present zero,
channel B drops its request, the head is SUSPENDED and a pass is wanted. The reply carries the flag and the count. -/
def Obligations.HoldJoins : Prop :=
  ∀ (s : State) (p : Port), Hands s p →
    let i : Instr := .hold p (Framing.ofLength 0)
    let u := handedOver p i s
    let h := u.hold
    let n := ([Port.main, .hub, .input].filter (fun q => q = p || (u.holder q).joined)).length
    let effective := h.state = .effective
    let joins (expiry : Timer) : State :=
      { u with hold := { h with holders := h.holders.set p { u.holder p with joined := true, expiry := expiry } } }
    ((u.holder p).joined = true →
      exec i s = .next (withReply p .ok (bytesOf 1 (if effective then 1 else 0) ++ bytesOf 1 n) u))
    ∧ ((u.holder p).joined = false → h.state = .pending →
        exec i s = .next (withReply p .ok (bytesOf 1 0 ++ bytesOf 1 n) (joins none)))
    ∧ ((u.holder p).joined = false → effective →
        exec i s = .next (withReply p .ok (bytesOf 1 1 ++ bytesOf 1 n) (joins (some (u.now + 2000)))))
    ∧ ((u.holder p).joined = false → h.state = .off → ∃ t, exec i s = .next t
        ∧ Answers t p .ok (bytesOf 1 0 ++ bytesOf 1 n) ∧ PassWanted u t ∧ t.hold.state ≠ .off
        ∧ (t.holder p).joined = true ∧ (t.holder p).unanswered = true
        ∧ (∀ c ∈ [Cell.a, .b], (u.channel c).state = .active →
            (t.channel c).state = .active ∧ (t.channel c).reasons.hold = true ∧ (t.channel c).presented = 0)
        ∧ (u.chB.state = .active → t.chB.request = false)
        ∧ (∀ j ∈ t.bal.queue.head?, j.state = .suspended)
        ∧ t.outer = { u.outer with hold := t.outer.hold, ports := t.outer.ports }
        ∧ ∀ q, q ≠ p → (t.holder q).quiet = (u.holder q).quiet)

/-- R159 to R161: a port leaves the holder set, by UNHOLD or as its timer expires, the expiry with HOLD_EXPIRED. A port
that is not in the set is refused NOT_FOUND. While others remain only the entry changes. The last to leave returns the
hold to OFF: ACTIVE channels drop HOLD, a SUSPENDED head is released unless DIE_HOT is present, and a pass is wanted,
whatever the order in which the blocks take it (log 9); MONITOR is entered where that completes what it asks for, which an
UNHOLD of a port, awake as it is, never does (R202). The expiry comes at its time or later (log 6). -/
def Obligations.HoldLeaves : Prop :=
  ∀ (s : State) (p : Port) (order : Nat),
    let i : Instr := .unhold p (Framing.ofLength 0) order
    let u := handedOver p i s
    let others (v : State) := [Port.main, .hub, .input].filter (fun q => q ≠ p && (v.holder q).joined)
    let left (v : State) : State :=
      { v with hold := { v.hold with holders := v.hold.holders.set p { v.holder p with joined := false, expiry := none } } }
    let ends (v t : State) := PassWanted v t ∧ t.hold.state = .off ∧ (t.holder p).joined = false
      ∧ (∀ c ∈ [Cell.a, .b], (v.channel c).state = .active → (t.channel c).reasons.hold = false)
      ∧ (v.bal.dieHot = false → ∀ j ∈ t.bal.queue.head?, j.state ≠ .suspended)
      ∧ MonitorTested v t ∧ t.outer = { (left v).outer with ports := t.outer.ports }
    (Hands s p → (u.holder p).joined = false → exec i s = .next (withReply p .notFound [] u))
    ∧ (Hands s p → (u.holder p).joined = true → others u ≠ [] →
        exec i s = .next (withReply p .ok (bytesOf 1 u.hold.state.code ++ bytesOf 1 (others u).length) (left u)))
    ∧ (Hands s p → (u.holder p).joined = true → others u = [] →
        ∃ t, exec i s = .next t ∧ Answers t p .ok (bytesOf 1 0 ++ bytesOf 1 0) ∧ ends u t)
    ∧ (s.operating = true → s.power.phase = .running → ∀ due ∈ (s.holder p).expiry,
        let v := { s with now := max s.now due, ports := noting 4 [p] s.ports }
        (others s ≠ [] → exec (.holdExpiry p order) s = .next (left v))
        ∧ (others s = [] → ∃ t, exec (.holdExpiry p order) s = .next t ∧ ends v t ∧ Noticed t p .holdExpired))

/-- R155 to R157: at a due entry check, and at the cell A path's settled event, a PENDING hold becomes EFFECTIVE where the
cell A path is settled at zero and the link view is FREE or HELD by SUPPLY or the link is settled at zero: HOLD_EFFECTIVE
goes to every holder, every holder's timer starts, and a pass is triggered. Otherwise only the check is spent (log 16),
or the stage settles. -/
def Obligations.HoldBecomesEffective : Prop :=
  ∀ (s : State) (p : Port), s.operating = true → s.power.phase = .running →
    let rest (v : State) : Prop := v.hold.state = .pending ∧ v.pathA.stage.ramping = false ∧ v.pathA.stage.target = 0
      ∧ (v.hold.view = .free ∨ v.hold.view = .held .supply
        ∨ (v.linkStage.ramping = false ∧ v.linkStage.target = Flow.zero))
    let timed (v : State) (h : Holder) : Holder := { h with expiry := if h.joined = true then some (v.now + 2000) else none }
    let stands (v t : State) : Prop := Triggered v t
      ∧ t.still = { v.still with
          hold := { v.hold with state := .effective, holders := {
            main := timed v (v.holder .main), hub := timed v (v.holder .hub), input := timed v (v.holder .input) } }
          ports := noting 3 ([Port.main, .hub, .input].filter (fun q => (v.holder q).joined)) v.still.ports }
    let checked := { s with hold := { s.hold with holders := s.hold.holders.set p { s.holder p with due := (s.holder p).due - 1 } } }
    let settled := { s with pathA := { s.pathA with
      stage := { target := s.pathA.stage.target, output := s.pathA.stage.target, ramping := false } } }
    ((s.holder p).due = 0 → exec (.holdEntryCheck p) s = .next s)
    ∧ (0 < (s.holder p).due → ¬rest checked → exec (.holdEntryCheck p) s = .next checked)
    ∧ (0 < (s.holder p).due → rest checked → ∃ t, exec (.holdEntryCheck p) s = .next t ∧ stands checked t)
    ∧ (s.pathA.stage.ramping = true → ¬rest settled → exec .cellAPathSettled s = .next settled)
    ∧ (s.pathA.stage.ramping = true → rest settled → ∃ t, exec .cellAPathSettled s = .next t ∧ stands settled t)

/-! ### The hinge arbiter and the timers (chapters 06 and 11) -/

/-- R119, R126, R127, R129, R202, R203: the arbiter's timers and the monitor hold-off. TENURE_EXPIRY marks the tenure
expired; where the other of the pair waits, CHARGE_B yields at once and BALANCE sets yield pending. BACKOFF_EXPIRY stops
the timer, and in FREE, with no fault lock and the link settled at zero, makes the choice of R119. The hold-off's expiry
enters MONITOR where all it asks for stands. Otherwise only the timer stops. An expiry comes at its
time or later (log 6). -/
def Obligations.ArbiterTimersExpire : Prop :=
  ∀ (s : State) (r : Requester), s.operating = true → s.power.phase = .running →
    let other := (s.arb.link = .held .chargeB ∧ s.arb.waiting.balance = true)
      ∨ (s.arb.link = .held .balance ∧ s.arb.waiting.chargeB = true)
    let quiet := s.power.state = .active ∧ s.input.state = .detached ∧ s.hold.state = .off ∧ s.chA.state ≠ .active
      ∧ s.chB.state ≠ .active ∧ s.bal.queue = [] ∧ ∀ q ∈ [Port.main, .hub, .input], (s.port q).dormant = true
    (∀ due ∈ s.arb.tenure,
      let v := { s with now := max s.now due, arb := { s.arb with tenure := none, tenureExpired := true } }
      (¬other → exec .tenureExpiry s = .next v)
      ∧ (other → s.arb.link = .held .balance →
          exec .tenureExpiry s = .next { v with arb := { v.arb with yieldPending := true } })
      ∧ (other → s.arb.link = .held .chargeB → ∃ t, exec .tenureExpiry s = .next t ∧ PassWanted v t ∧ t.outer = v.outer
          ∧ t.arb.holder ≠ some .chargeB ∧ t.arb.waiting.chargeB = true ∧ t.arb.backoffChargeB = some (v.now + 100)
          ∧ (s.chB.state = .active → s.chB.reasons.noLink = false → t.chB.reasons.noLink = true ∧ t.chB.presented = 0)))
    ∧ (∀ due ∈ s.arb.backoff r,
      let v := { s with now := max s.now due, arb := { s.arb with
        backoffChargeB := if r = .chargeB then none else s.arb.backoffChargeB
        backoffBalance := if r = .balance then none else s.arb.backoffBalance } }
      let grants := v.arb.link = .free ∧ v.linkStage.ramping = false ∧ v.linkStage.target = Flow.zero
      (¬grants ∨ v.arb.choice = none → exec (.backoffExpiry r) s = .next v)
      ∧ (grants → ∀ w ∈ v.arb.choice, ∃ t, exec (.backoffExpiry r) s = .next t ∧ Granted v t w))
    ∧ (∀ due ∈ s.power.holdOff,
      let v := { s with now := max s.now due, power := { s.power with holdOff := none } }
      (¬quiet → exec .monitorHoldOffExpiry s = .next v)
      ∧ (quiet → exec .monitorHoldOffExpiry s = .next { v with
          power := { v.power with state := .monitor }, seq := { v.seq with nextArrival := v.seq.lastArrival + 2000 } }))

/-- R119 to R121, R123, R157: HINGE_LINK_SETTLED, whichever of arbiter and hold control takes it first. A settled link reports
nothing. In HELD the arbiter leaves the event alone. In CHANGEOVER, and in FREE at zero, where a grant was held back while
the link still ramped, it makes the choice of R119: none chosen makes the link FREE, SUPPLY and CHARGE_B hold it, and
BALANCE holds it with the head RUNNING, or ends the head at its start checks. A PENDING hold with the cell A path settled
at zero becomes EFFECTIVE where the link has settled at zero. R1 to R4, R6: a stage that takes its target leaves all as it is,
one that takes its present output settles there, any other ramps on from that output, which lies between the start of
the ramp and its target, through zero where the direction changes; the input stage's is zero while VBUS is absent. The cell A
path takes no non-zero setpoint then, and one that settles it at zero brings a PENDING hold to rest where the link allows. -/
def Obligations.LinkSettles : Prop :=
  ∀ (s : State) (holdFirst : Bool) (limit k : Nat),
    let v := { s with linkStage := { target := s.linkStage.target, output := s.linkStage.target, ramping := false } }
    let chooses := s.arb.link = .changeover ∨ (s.arb.link = .free ∧ s.linkStage.target = Flow.zero)
    (s.operating = true → ∃ t, exec (.hingeLinkSettled holdFirst) s = .next t
      ∧ (s.linkStage.ramping = false → t = s)
      ∧ (s.linkStage.ramping = true → s.power.phase = .running → s.LinkUsersSound →
        t.outer = { v.outer with ports := t.outer.ports, bal := t.outer.bal, hold := t.outer.hold }
        ∧ (s.hold.state ≠ .pending → ¬chooses → t = v)
        ∧ (s.hold.state = .pending → s.pathA.stage.ramping = false → s.pathA.stage.target = 0 →
            s.linkStage.target = Flow.zero → t.hold.state = .effective ∧ PassWanted v t)
        ∧ (chooses → s.arb.choice = none → t.arb = { s.arb with link := .free } ∧ t.hold.view = .free)
        ∧ (chooses → ∀ w ∈ s.arb.choice, Granted v t w)))
    ∧ (let out := s.inputOutput
       (s.present = false → out = 0) ∧ (s.present = true → s.inputStage.ramping = false → out = s.inputStage.output)
       ∧ (s.present = true → min s.inputStage.output s.inputStage.target ≤ out
            ∧ out ≤ max s.inputStage.output s.inputStage.target)
       ∧ (takeInput limit s).inputStage = (if limit = s.inputStage.target then s.inputStage
          else if limit = out then { target := limit, output := limit, ramping := false }
          else { target := limit, output := out, ramping := true }))
    ∧ (let x := s.pathA.stage
       let out := x.outputNow s.freeUses
       let taken := limit ≠ x.target ∧ (s.present = true ∨ limit = 0)
       let rests := s.hold.state = .pending ∧ taken ∧ limit = out ∧ limit = 0
         ∧ (s.hold.view = .free ∨ s.hold.view = .held .supply ∨ (s.linkStage.ramping = false ∧ s.linkStage.target = Flow.zero))
       (x.ramping = false → out = x.output) ∧ min x.output x.target ≤ out ∧ out ≤ max x.output x.target
       ∧ (¬taken → takeCharge limit s = s)
       ∧ (taken → (takeCharge limit s).pathA = { s.pathA with stage :=
            if limit = out then { target := limit, output := limit, ramping := false }
            else { target := limit, output := out, ramping := true } })
       ∧ (takeCharge limit s).hold.state = (if rests then .effective else s.hold.state))
    ∧ (let x := s.linkStage
       let out := x.flowNow k
       (x.ramping = false → out = x.output) ∧ out.mag ≤ max x.output.mag x.target.mag
       ∧ (out.mag = 0 ∨ out.dir = x.output.dir ∨ out.dir = x.target.dir)
       ∧ (x.ramping = true → x.output.dir ≠ x.target.dir → (out.dir = x.output.dir → out.mag ≤ x.output.mag)
            ∧ (out.dir = x.target.dir → out.mag ≤ x.target.mag)))
    ∧ (let out := s.linkStage.flowNow s.freeUses
       (linkFollow s).linkStage = (if s.linkTarget = s.linkStage.target then s.linkStage
          else if s.linkTarget = out then { target := out, output := out, ramping := false }
          else { target := s.linkTarget, output := out, ramping := true }))

/-! ### Start-up, resets and SHIP (chapter 11) -/

/-- R204: SHIP_ENTER with the input not DETACHED is refused REFUSED. Otherwise the part enters SHIP and answers nothing:
samples stop, both cells are cut off, the allocator is IDLE, the channels are IDLE, the arbiter, the engine and the hold
are emptied, the ports abandon their requests and notices, and the hold-off and dormancy timers stop. All else is kept
(for what no rule names, log 28, and for what each port acknowledged of its latest write, log 19). -/
def Obligations.ShipEntered : Prop :=
  ∀ s : State, Hands s .main →
    let i : Instr := .shipEnter .main (Framing.ofLength 0)
    let u := handedOver .main i s
    let idle (ch : Channel) : Channel :=
      { (if ch.state = .active then { ch with presented := 0, reasons := Reasons.none, stale := true } else ch) with
        state := .idle, slot := none, code := .none, request := false }
    let empty (q : PortState) : PortState := { q with slot := none, busy := false, handed := none, notices := 0, dormancy := none }
    let out : Holder := { joined := false, expiry := none, unanswered := false, due := 0 }
    let off : Flow := { dir := .none, mag := 0 }
    (u.input.state ≠ .detached → exec i s = .next (withReply .main .refused [] u))
    ∧ (u.input.state = .detached → exec i s = .next { u with
        power := { u.power with state := .ship, holdOff := none }
        seq := { u.seq with running := false }
        pathA := { stage := { target := 0, output := 0, ramping := false }, supply := 0, bridge := false }
        linkStage := { target := off, output := off, ramping := false }
        alloc := { u.alloc with pass := none, rerun := false }
        chA := idle u.chA
        chB := idle u.chB
        arb := { u.arb with link := .free, waiting := { supply := false, chargeB := false, balance := false }, tenure := none,
                            tenureExpired := false, yieldPending := false, backoffChargeB := none, backoffBalance := none }
        bal := { u.bal with queue := [] }
        hold := { state := .off, holders := { main := out, hub := out, input := out }, view := .free }
        ports := { main := empty u.ports.main, hub := empty u.ports.hub, input := empty u.ports.input } })

/-- R201: an accepted DEVICE_RESET, and a falling edge of RSTn in LOADING or out of it, bring every block to its DEVICE_RESET
values; of a part in MONITOR the next arrival moves as R11 directs. In SHIP RSTn has no effect but its level (R205). The
model's own choices here: that move of the next arrival (log 21); over-voltage reports on their way stay (log 15); each port
keeps what it acknowledged of its latest write (log 19); the engine keeps what it was told of DIE_HOT (log 34); settings and
profile memory keep their old contents until the new copy completes (log 2); a part without supply follows the level of RSTn
and does nothing else (log 20); a line already low has no edge (log 7). -/
def Obligations.DeviceResetValues : Prop :=
  ∀ s : State,
    let i : Instr := .deviceReset .main (Framing.ofLength 0)
    let low := { s with power := { s.power with rstnLow := true } }
    let awake (v : State) : State :=
      if v.power.state = .monitor then { v with seq := { v.seq with nextArrival := max v.now (v.seq.lastArrival + 100) } } else v
    (Hands s .main → ∃ t, exec i s = .next t ∧ DeviceResetOf (handedOver .main i s) t)
    ∧ (s.operating = true → s.power.rstnLow = false → ∃ t, exec .rstnAssert s = .next t ∧ DeviceResetOf (awake low) t)
    ∧ (s.power.rstnLow = true → exec .rstnAssert s = .next s)
    ∧ (s.operating = false → exec .rstnAssert s = .next low)

/-- R198, R205: a power-on reset, with the level that VBUS has as it is read. A WAKE press and an attach end SHIP so; a WAKE
press elsewhere, and an attach of a part with VBUS present, do nothing. Every block takes its power-on values. The queue,
the clock, the free value's counter, the OTP and the RSTn line are not the reset's. A supply loss ends all operation.
The model's own choices here: until the first copy profile memory stands at END (log 2); an attach with VBUS present does
nothing (log 7); no over-voltage report is on its way (log 15) and no acknowledge is held (log 19); a supply loss leaves
every other field (log 20); a power-on reset acts in every state (log 22). -/
def Obligations.PowerOnValues : Prop :=
  ∀ (s : State) (level : Bool),
    let idle : Channel :=
      { state := .idle, slot := none, timer := 0, run := 0, lastSetpoint := 0, reasons := Reasons.none, code := .none,
        published := 0, stale := true, presented := 0, request := false }
    let fresh : PortState :=
      { slot := none, busy := false, handed := none, reply := { code := .notReady, payload := [] }, notices := 0, mask := 0,
        dormant := false, dormancy := none, acks := [] }
    let out : Holder := { joined := false, expiry := none, unanswered := false, due := 0 }
    let none3 : CellFaults := { ov := false, hot := false, uv := false }
    let off : Flow := { dir := .none, mag := 0 }
    let t : State :=
      { pending := s.pending, now := s.now, freeUses := s.freeUses, otp := s.otp, present := level
        power := { state := .active, phase := .loading, copied := false, holdOff := none, supplied := true,
                   rstnLow := s.power.rstnLow }
        settings := { dormancy := 10, tenure := 2000, autoStart := true, slotA := 0, slotB := 0 }
        seq := { running := true, lastArrival := s.now, prevArrival := s.now, nextArrival := s.now + 100, latest := none,
                 charge := 0 }
        inputStage := { target := 0, output := 0, ramping := false }
        pathA := { stage := { target := 0, output := 0, ramping := false }, supply := 0, bridge := false }
        linkStage := { target := off, output := off, ramping := false }
        table := { nextAdmission := 1, claims := [{ id := 0, owner := .internal, cls := .essential, requested := 2500,
                                                    floor := 0, grant := 0, standing := .deferred, admission := 0 }] }
        input := { state := if level = true then .dflt else .detached, held := none, pendingContract := none,
                   droopLimit := 500, recovery := none, requester := none, reports := [] }
        ceilings := []
        alloc := { pass := none, rerun := false, record := Publication.zero, published := false }
        profile := List.replicate 48 StepRecord.ended
        chA := idle
        chB := idle
        arb := { link := .free, waiting := { supply := false, chargeB := false, balance := false }, lastPair := none,
                 tenure := none, tenureExpired := false, yieldPending := false, backoffChargeB := none, backoffBalance := none,
                 faultLock := false }
        bal := { queue := [], tagCounter := 0, last := { main := none, hub := none, input := none }, dieHot := false }
        hold := { state := .off, holders := { main := out, hub := out, input := out }, view := .free }
        prot := { cellA := none3, cellB := none3, device := { dieHot := false, inputOv := false, linkFault := false },
                  first := none, thermal := .none }
        ports := { main := fresh, hub := fresh, input := fresh } }
    let ship := s.power.supplied = true ∧ s.power.state = .ship
    exec (.powerOnReset level) s = .next t
    ∧ (ship → exec (.wakePress level) s = .next t ∧ exec (.attach level) s = .next t)
    ∧ (¬ship → exec (.wakePress level) s = .next s ∧ (s.present = true → exec (.attach level) s = .next s))
    ∧ exec .ownSupplyLoss s = .next { s with power := { s.power with supplied := false } }
    ∧ (s.power.supplied = false → exec (.attach level) s = .next s ∧ exec .detach s = .next s)

/-- R199, R200, R34, R41, R111: COPY_COMPLETE loads the settings, each at the nearer end of its range, and the profile image,
each record as STEP_WRITE records it, END where STEP_WRITE would refuse it. RSTN_RELEASE releases the line, and a sample
arrives. Each ends LOADING where copy, latest sample and released line all stand: the input stage is handed its limit, the
dormancy timers start, READY goes to every port, a pass is wanted, and with the setting on and the input not DETACHED each
channel of an unlatched cell starts at its default slot. Else LOADING goes on. That the old contents stand in LOADING and are
replaced all at once as the copy completes is the model's choice (log 2). -/
def Obligations.LoadingEnds : Prop :=
  ∀ (s : State) (m : RawSample) (order : Nat), s.operating = true → s.power.phase = .loading →
    let x := s.otp.settings
    let copied : State := { s with
      power := { s.power with copied := true }
      settings := { dormancy := min x.dormancy 60, tenure := max 250 (min x.tenure 8000), autoStart := x.autoStart,
                    slotA := min x.slotA 47, slotB := min x.slotB 47 }
      profile := (List.range 48).map (fun n => ((s.otp.profile[n]?).bind recordedStep).getD
        { kind := .endStep, current := 0, volt := 0, endCurrent := 0, duration := 0, timeout := 0, cold := 0, hot := 0, next := 0 }) }
    let released : State := { s with power := { s.power with rstnLow := false } }
    let ready (v : State) := v.power.copied = true ∧ v.power.rstnLow = false ∧ v.seq.latest ≠ none
    let timer (v : State) : Timer := if v.settings.dormancy = 0 then none else some (v.now + v.settings.dormancy * 1000)
    let starts (v : State) (c : Cell) := v.settings.autoStart = true ∧ v.input.state ≠ .detached
      ∧ (v.prot.cell c).ov = false ∧ (v.prot.cell c).hot = false
    let ended (v t : State) := t.power.phase = .running ∧ PassWanted v t
      ∧ t.inputStage.target = (if v.input.state = .dflt ∨ v.input.state = .contracted then v.input.droopLimit else 0)
      ∧ (∀ q ∈ [Port.main, .hub, .input], (t.port q).dormancy = timer v ∧ Noticed t q .ready)
      ∧ (∀ c ∈ [Cell.a, .b], let slot := if c = .a then v.settings.slotA else v.settings.slotB
          (¬starts v c → (t.channel c).state = (v.channel c).state ∧ (t.channel c).slot = (v.channel c).slot)
          ∧ (starts v c → (v.profile.getD slot StepRecord.ended).kind ≠ .endStep →
              exitHolds (v.profile.getD slot StepRecord.ended) (v.sample.volt c) 0 0 = false →
              (t.channel c).state = .active ∧ (t.channel c).slot = some slot ∧ Noticed t .main .chStep ∧ Noticed t .hub .chStep)
          ∧ (starts v c → (v.profile.getD slot StepRecord.ended).kind = .endStep →
              (t.channel c).state = .done ∧ (t.channel c).slot = some slot ∧ Noticed t .main .chEnd ∧ Noticed t .hub .chEnd))
      ∧ t.outer = { v.outer with power := t.outer.power, inputStage := t.inputStage, freeUses := t.outer.freeUses,
                                 ports := t.outer.ports }
    (s.power.copied = false → ¬ready copied → exec .copyComplete s = .next copied)
    ∧ (s.power.copied = false → ready copied → ∃ t, exec .copyComplete s = .next t ∧ ended copied t)
    ∧ (¬ready released → exec .rstnRelease s = .next released)
    ∧ (ready released → ∃ t, exec .rstnRelease s = .next t ∧ ended released t)
    ∧ (s.seq.running = true → ∃ t, exec (.sampleArrival m order) s = .next t
      ∧ (s.power.copied = false ∨ s.power.rstnLow = true →
          t.power.phase = .loading ∧ t.alloc = s.alloc
            ∧ ∀ c ∈ [Cell.a, .b], (s.channel c).state = .idle → (t.channel c).state = .idle)
      ∧ (s.power.copied = true → s.power.rstnLow = false → t.power.phase = .running ∧ PassWanted s t
        ∧ t.inputStage.target = (if t.input.state = .dflt ∨ t.input.state = .contracted then t.input.droopLimit else 0)
        ∧ (∀ q ∈ [Port.main, .hub, .input], (t.port q).dormancy = timer t ∧ Noticed t q .ready)
        ∧ (t.prot.cellA = s.prot.cellA → t.prot.cellB = s.prot.cellB → t.prot.device = s.prot.device → ∀ c ∈ [Cell.a, .b],
          let slot := if c = .a then s.settings.slotA else s.settings.slotB
          let r := s.profile.getD slot StepRecord.ended
          (¬starts s c → (s.channel c).state = .idle → (t.channel c).state = .idle)
          ∧ (starts s c → (s.channel c).state = .idle → r.kind ≠ .endStep → ¬r.PassesAt (t.sample.volt c) →
              (t.channel c).state = .active ∧ (t.channel c).slot = some slot ∧ Noticed t .main .chStep ∧ Noticed t .hub .chStep)
          ∧ (starts s c → (s.channel c).state = .idle → r.kind = .endStep →
              (t.channel c).state = .done ∧ (t.channel c).slot = some slot ∧ Noticed t .main .chEnd ∧ Noticed t .hub .chEnd))))

/-! ### What every step keeps -/

/-- R17 to R19, R55, R58, R40, R51, R90, R91: every step keeps the claim table within its slots, shares, essential cap and
field ranges, the ceiling stack within its depth and largest ceiling, the droop limit between the droop floor and the
contract current, profile memory at 48 records that STEP_WRITE could have written, and the thermal state ZERO under DIE_HOT,
in the snapshot of the pass in progress too (R172), from any state that has them so. -/
def Obligations.TablesStaySound : Prop := ∀ s t : State, s.TablesSound → step s = .next t → t.TablesSound

/-- R134, R135, R152, R116, R117, R124, R132, R138, R140, R141, R153, R158: every step keeps the queue at 4 jobs at most with
distinct tags, every field of a job in its range, and no job behind the head that has run; the hold OFF exactly when the
holder set is empty; the holder out of the waiting set, and SUPPLY waiting in FREE and CHANGEOVER alone; CHARGE_B and
BALANCE waiting or holding exactly as channel B's request stands and the head is not SUSPENDED; the head SUSPENDED exactly
under a hold or DIE_HOT and RUNNING exactly while BALANCE holds; what the engine was told of DIE_HOT at what the monitor
holds (over a reset of the part the model's reading, log 34); the hold control's view at the link state, which at SHIP_ENTER
is the model's choice, as no rule names the view there (log 28); and under a hold
HOLD in every ACTIVE channel, and no request of channel B. From any state that has it so. -/
def Obligations.LinkUsersStaySound : Prop := ∀ s t : State, s.LinkUsersSound → step s = .next t → t.LinkUsersSound

/-- R98, R93, R94, R95, R99, R199, R1, R4, R6, R8, R9: every step keeps what each channel presents at the smaller of its
published setpoint and its demand, the reasons of a channel that is not ACTIVE empty, channel B's request as its state
asks and its NO_LINK as the link's holder says, both channels IDLE in LOADING, each stage RAMPING exactly while its
output is not its target, the input stage's output zero while VBUS is absent, and the cell A path and the hinge link
following what channel A presents and what the holder asks, from any state that has them so. -/
def Obligations.ChannelsStaySound : Prop := ∀ s t : State, s.ChannelsSound → step s = .next t → t.ChannelsSound

/-- The three invariants hold after a power-on reset. That profile memory holds END until the first copy is the model's own
choice (log 2). -/
def Obligations.ResetIsSound : Prop :=
  State.reset.TablesSound ∧ State.reset.LinkUsersSound ∧ State.reset.ChannelsSound
end

