-- ==== Sys2Proof/Laws/State.lean ====
section
/-! SUPPORT. Field lemmas of the state: one for each field and each update, each true by unfolding. -/

namespace Sys2Proof.Machine

variable (s : State)


/-! setPower -/

@[simp] theorem setPower_pending (x : PowerCtl) : (s.setPower x).pending = s.pending := rfl
@[simp] theorem setPower_now (x : PowerCtl) : (s.setPower x).now = s.now := rfl
@[simp] theorem setPower_freeUses (x : PowerCtl) : (s.setPower x).freeUses = s.freeUses := rfl
@[simp] theorem setPower_power (x : PowerCtl) : (s.setPower x).power = x := rfl
@[simp] theorem setPower_present (x : PowerCtl) : (s.setPower x).present = s.present := rfl
@[simp] theorem setPower_settings (x : PowerCtl) : (s.setPower x).settings = s.settings := rfl
@[simp] theorem setPower_otp (x : PowerCtl) : (s.setPower x).otp = s.otp := rfl
@[simp] theorem setPower_seq (x : PowerCtl) : (s.setPower x).seq = s.seq := rfl
@[simp] theorem setPower_inputStage (x : PowerCtl) : (s.setPower x).inputStage = s.inputStage := rfl
@[simp] theorem setPower_pathA (x : PowerCtl) : (s.setPower x).pathA = s.pathA := rfl
@[simp] theorem setPower_linkStage (x : PowerCtl) : (s.setPower x).linkStage = s.linkStage := rfl
@[simp] theorem setPower_table (x : PowerCtl) : (s.setPower x).table = s.table := rfl
@[simp] theorem setPower_input (x : PowerCtl) : (s.setPower x).input = s.input := rfl
@[simp] theorem setPower_ceilings (x : PowerCtl) : (s.setPower x).ceilings = s.ceilings := rfl
@[simp] theorem setPower_alloc (x : PowerCtl) : (s.setPower x).alloc = s.alloc := rfl
@[simp] theorem setPower_profile (x : PowerCtl) : (s.setPower x).profile = s.profile := rfl
@[simp] theorem setPower_chA (x : PowerCtl) : (s.setPower x).chA = s.chA := rfl
@[simp] theorem setPower_chB (x : PowerCtl) : (s.setPower x).chB = s.chB := rfl
@[simp] theorem setPower_arb (x : PowerCtl) : (s.setPower x).arb = s.arb := rfl
@[simp] theorem setPower_bal (x : PowerCtl) : (s.setPower x).bal = s.bal := rfl
@[simp] theorem setPower_hold (x : PowerCtl) : (s.setPower x).hold = s.hold := rfl
@[simp] theorem setPower_prot (x : PowerCtl) : (s.setPower x).prot = s.prot := rfl
@[simp] theorem setPower_ports (x : PowerCtl) : (s.setPower x).ports = s.ports := rfl

/-! setSeq -/

@[simp] theorem setSeq_pending (x : Sequencer) : (s.setSeq x).pending = s.pending := rfl
@[simp] theorem setSeq_now (x : Sequencer) : (s.setSeq x).now = s.now := rfl
@[simp] theorem setSeq_freeUses (x : Sequencer) : (s.setSeq x).freeUses = s.freeUses := rfl
@[simp] theorem setSeq_power (x : Sequencer) : (s.setSeq x).power = s.power := rfl
@[simp] theorem setSeq_present (x : Sequencer) : (s.setSeq x).present = s.present := rfl
@[simp] theorem setSeq_settings (x : Sequencer) : (s.setSeq x).settings = s.settings := rfl
@[simp] theorem setSeq_otp (x : Sequencer) : (s.setSeq x).otp = s.otp := rfl
@[simp] theorem setSeq_seq (x : Sequencer) : (s.setSeq x).seq = x := rfl
@[simp] theorem setSeq_inputStage (x : Sequencer) : (s.setSeq x).inputStage = s.inputStage := rfl
@[simp] theorem setSeq_pathA (x : Sequencer) : (s.setSeq x).pathA = s.pathA := rfl
@[simp] theorem setSeq_linkStage (x : Sequencer) : (s.setSeq x).linkStage = s.linkStage := rfl
@[simp] theorem setSeq_table (x : Sequencer) : (s.setSeq x).table = s.table := rfl
@[simp] theorem setSeq_input (x : Sequencer) : (s.setSeq x).input = s.input := rfl
@[simp] theorem setSeq_ceilings (x : Sequencer) : (s.setSeq x).ceilings = s.ceilings := rfl
@[simp] theorem setSeq_alloc (x : Sequencer) : (s.setSeq x).alloc = s.alloc := rfl
@[simp] theorem setSeq_profile (x : Sequencer) : (s.setSeq x).profile = s.profile := rfl
@[simp] theorem setSeq_chA (x : Sequencer) : (s.setSeq x).chA = s.chA := rfl
@[simp] theorem setSeq_chB (x : Sequencer) : (s.setSeq x).chB = s.chB := rfl
@[simp] theorem setSeq_arb (x : Sequencer) : (s.setSeq x).arb = s.arb := rfl
@[simp] theorem setSeq_bal (x : Sequencer) : (s.setSeq x).bal = s.bal := rfl
@[simp] theorem setSeq_hold (x : Sequencer) : (s.setSeq x).hold = s.hold := rfl
@[simp] theorem setSeq_prot (x : Sequencer) : (s.setSeq x).prot = s.prot := rfl
@[simp] theorem setSeq_ports (x : Sequencer) : (s.setSeq x).ports = s.ports := rfl

/-! setInput -/

@[simp] theorem setInput_pending (x : InputCtl) : (s.setInput x).pending = s.pending := rfl
@[simp] theorem setInput_now (x : InputCtl) : (s.setInput x).now = s.now := rfl
@[simp] theorem setInput_freeUses (x : InputCtl) : (s.setInput x).freeUses = s.freeUses := rfl
@[simp] theorem setInput_power (x : InputCtl) : (s.setInput x).power = s.power := rfl
@[simp] theorem setInput_present (x : InputCtl) : (s.setInput x).present = s.present := rfl
@[simp] theorem setInput_settings (x : InputCtl) : (s.setInput x).settings = s.settings := rfl
@[simp] theorem setInput_otp (x : InputCtl) : (s.setInput x).otp = s.otp := rfl
@[simp] theorem setInput_seq (x : InputCtl) : (s.setInput x).seq = s.seq := rfl
@[simp] theorem setInput_inputStage (x : InputCtl) : (s.setInput x).inputStage = s.inputStage := rfl
@[simp] theorem setInput_pathA (x : InputCtl) : (s.setInput x).pathA = s.pathA := rfl
@[simp] theorem setInput_linkStage (x : InputCtl) : (s.setInput x).linkStage = s.linkStage := rfl
@[simp] theorem setInput_table (x : InputCtl) : (s.setInput x).table = s.table := rfl
@[simp] theorem setInput_input (x : InputCtl) : (s.setInput x).input = x := rfl
@[simp] theorem setInput_ceilings (x : InputCtl) : (s.setInput x).ceilings = s.ceilings := rfl
@[simp] theorem setInput_alloc (x : InputCtl) : (s.setInput x).alloc = s.alloc := rfl
@[simp] theorem setInput_profile (x : InputCtl) : (s.setInput x).profile = s.profile := rfl
@[simp] theorem setInput_chA (x : InputCtl) : (s.setInput x).chA = s.chA := rfl
@[simp] theorem setInput_chB (x : InputCtl) : (s.setInput x).chB = s.chB := rfl
@[simp] theorem setInput_arb (x : InputCtl) : (s.setInput x).arb = s.arb := rfl
@[simp] theorem setInput_bal (x : InputCtl) : (s.setInput x).bal = s.bal := rfl
@[simp] theorem setInput_hold (x : InputCtl) : (s.setInput x).hold = s.hold := rfl
@[simp] theorem setInput_prot (x : InputCtl) : (s.setInput x).prot = s.prot := rfl
@[simp] theorem setInput_ports (x : InputCtl) : (s.setInput x).ports = s.ports := rfl

/-! setTable -/

@[simp] theorem setTable_pending (x : ClaimTable) : (s.setTable x).pending = s.pending := rfl
@[simp] theorem setTable_now (x : ClaimTable) : (s.setTable x).now = s.now := rfl
@[simp] theorem setTable_freeUses (x : ClaimTable) : (s.setTable x).freeUses = s.freeUses := rfl
@[simp] theorem setTable_power (x : ClaimTable) : (s.setTable x).power = s.power := rfl
@[simp] theorem setTable_present (x : ClaimTable) : (s.setTable x).present = s.present := rfl
@[simp] theorem setTable_settings (x : ClaimTable) : (s.setTable x).settings = s.settings := rfl
@[simp] theorem setTable_otp (x : ClaimTable) : (s.setTable x).otp = s.otp := rfl
@[simp] theorem setTable_seq (x : ClaimTable) : (s.setTable x).seq = s.seq := rfl
@[simp] theorem setTable_inputStage (x : ClaimTable) : (s.setTable x).inputStage = s.inputStage := rfl
@[simp] theorem setTable_pathA (x : ClaimTable) : (s.setTable x).pathA = s.pathA := rfl
@[simp] theorem setTable_linkStage (x : ClaimTable) : (s.setTable x).linkStage = s.linkStage := rfl
@[simp] theorem setTable_table (x : ClaimTable) : (s.setTable x).table = x := rfl
@[simp] theorem setTable_input (x : ClaimTable) : (s.setTable x).input = s.input := rfl
@[simp] theorem setTable_ceilings (x : ClaimTable) : (s.setTable x).ceilings = s.ceilings := rfl
@[simp] theorem setTable_alloc (x : ClaimTable) : (s.setTable x).alloc = s.alloc := rfl
@[simp] theorem setTable_profile (x : ClaimTable) : (s.setTable x).profile = s.profile := rfl
@[simp] theorem setTable_chA (x : ClaimTable) : (s.setTable x).chA = s.chA := rfl
@[simp] theorem setTable_chB (x : ClaimTable) : (s.setTable x).chB = s.chB := rfl
@[simp] theorem setTable_arb (x : ClaimTable) : (s.setTable x).arb = s.arb := rfl
@[simp] theorem setTable_bal (x : ClaimTable) : (s.setTable x).bal = s.bal := rfl
@[simp] theorem setTable_hold (x : ClaimTable) : (s.setTable x).hold = s.hold := rfl
@[simp] theorem setTable_prot (x : ClaimTable) : (s.setTable x).prot = s.prot := rfl
@[simp] theorem setTable_ports (x : ClaimTable) : (s.setTable x).ports = s.ports := rfl

/-! setAlloc -/

@[simp] theorem setAlloc_pending (x : Allocator) : (s.setAlloc x).pending = s.pending := rfl
@[simp] theorem setAlloc_now (x : Allocator) : (s.setAlloc x).now = s.now := rfl
@[simp] theorem setAlloc_freeUses (x : Allocator) : (s.setAlloc x).freeUses = s.freeUses := rfl
@[simp] theorem setAlloc_power (x : Allocator) : (s.setAlloc x).power = s.power := rfl
@[simp] theorem setAlloc_present (x : Allocator) : (s.setAlloc x).present = s.present := rfl
@[simp] theorem setAlloc_settings (x : Allocator) : (s.setAlloc x).settings = s.settings := rfl
@[simp] theorem setAlloc_otp (x : Allocator) : (s.setAlloc x).otp = s.otp := rfl
@[simp] theorem setAlloc_seq (x : Allocator) : (s.setAlloc x).seq = s.seq := rfl
@[simp] theorem setAlloc_inputStage (x : Allocator) : (s.setAlloc x).inputStage = s.inputStage := rfl
@[simp] theorem setAlloc_pathA (x : Allocator) : (s.setAlloc x).pathA = s.pathA := rfl
@[simp] theorem setAlloc_linkStage (x : Allocator) : (s.setAlloc x).linkStage = s.linkStage := rfl
@[simp] theorem setAlloc_table (x : Allocator) : (s.setAlloc x).table = s.table := rfl
@[simp] theorem setAlloc_input (x : Allocator) : (s.setAlloc x).input = s.input := rfl
@[simp] theorem setAlloc_ceilings (x : Allocator) : (s.setAlloc x).ceilings = s.ceilings := rfl
@[simp] theorem setAlloc_alloc (x : Allocator) : (s.setAlloc x).alloc = x := rfl
@[simp] theorem setAlloc_profile (x : Allocator) : (s.setAlloc x).profile = s.profile := rfl
@[simp] theorem setAlloc_chA (x : Allocator) : (s.setAlloc x).chA = s.chA := rfl
@[simp] theorem setAlloc_chB (x : Allocator) : (s.setAlloc x).chB = s.chB := rfl
@[simp] theorem setAlloc_arb (x : Allocator) : (s.setAlloc x).arb = s.arb := rfl
@[simp] theorem setAlloc_bal (x : Allocator) : (s.setAlloc x).bal = s.bal := rfl
@[simp] theorem setAlloc_hold (x : Allocator) : (s.setAlloc x).hold = s.hold := rfl
@[simp] theorem setAlloc_prot (x : Allocator) : (s.setAlloc x).prot = s.prot := rfl
@[simp] theorem setAlloc_ports (x : Allocator) : (s.setAlloc x).ports = s.ports := rfl

/-! setArb -/

@[simp] theorem setArb_pending (x : Arbiter) : (s.setArb x).pending = s.pending := rfl
@[simp] theorem setArb_now (x : Arbiter) : (s.setArb x).now = s.now := rfl
@[simp] theorem setArb_freeUses (x : Arbiter) : (s.setArb x).freeUses = s.freeUses := rfl
@[simp] theorem setArb_power (x : Arbiter) : (s.setArb x).power = s.power := rfl
@[simp] theorem setArb_present (x : Arbiter) : (s.setArb x).present = s.present := rfl
@[simp] theorem setArb_settings (x : Arbiter) : (s.setArb x).settings = s.settings := rfl
@[simp] theorem setArb_otp (x : Arbiter) : (s.setArb x).otp = s.otp := rfl
@[simp] theorem setArb_seq (x : Arbiter) : (s.setArb x).seq = s.seq := rfl
@[simp] theorem setArb_inputStage (x : Arbiter) : (s.setArb x).inputStage = s.inputStage := rfl
@[simp] theorem setArb_pathA (x : Arbiter) : (s.setArb x).pathA = s.pathA := rfl
@[simp] theorem setArb_linkStage (x : Arbiter) : (s.setArb x).linkStage = s.linkStage := rfl
@[simp] theorem setArb_table (x : Arbiter) : (s.setArb x).table = s.table := rfl
@[simp] theorem setArb_input (x : Arbiter) : (s.setArb x).input = s.input := rfl
@[simp] theorem setArb_ceilings (x : Arbiter) : (s.setArb x).ceilings = s.ceilings := rfl
@[simp] theorem setArb_alloc (x : Arbiter) : (s.setArb x).alloc = s.alloc := rfl
@[simp] theorem setArb_profile (x : Arbiter) : (s.setArb x).profile = s.profile := rfl
@[simp] theorem setArb_chA (x : Arbiter) : (s.setArb x).chA = s.chA := rfl
@[simp] theorem setArb_chB (x : Arbiter) : (s.setArb x).chB = s.chB := rfl
@[simp] theorem setArb_arb (x : Arbiter) : (s.setArb x).arb = x := rfl
@[simp] theorem setArb_bal (x : Arbiter) : (s.setArb x).bal = s.bal := rfl
@[simp] theorem setArb_hold (x : Arbiter) : (s.setArb x).hold = s.hold := rfl
@[simp] theorem setArb_prot (x : Arbiter) : (s.setArb x).prot = s.prot := rfl
@[simp] theorem setArb_ports (x : Arbiter) : (s.setArb x).ports = s.ports := rfl

/-! setBal -/

@[simp] theorem setBal_pending (x : Balance) : (s.setBal x).pending = s.pending := rfl
@[simp] theorem setBal_now (x : Balance) : (s.setBal x).now = s.now := rfl
@[simp] theorem setBal_freeUses (x : Balance) : (s.setBal x).freeUses = s.freeUses := rfl
@[simp] theorem setBal_power (x : Balance) : (s.setBal x).power = s.power := rfl
@[simp] theorem setBal_present (x : Balance) : (s.setBal x).present = s.present := rfl
@[simp] theorem setBal_settings (x : Balance) : (s.setBal x).settings = s.settings := rfl
@[simp] theorem setBal_otp (x : Balance) : (s.setBal x).otp = s.otp := rfl
@[simp] theorem setBal_seq (x : Balance) : (s.setBal x).seq = s.seq := rfl
@[simp] theorem setBal_inputStage (x : Balance) : (s.setBal x).inputStage = s.inputStage := rfl
@[simp] theorem setBal_pathA (x : Balance) : (s.setBal x).pathA = s.pathA := rfl
@[simp] theorem setBal_linkStage (x : Balance) : (s.setBal x).linkStage = s.linkStage := rfl
@[simp] theorem setBal_table (x : Balance) : (s.setBal x).table = s.table := rfl
@[simp] theorem setBal_input (x : Balance) : (s.setBal x).input = s.input := rfl
@[simp] theorem setBal_ceilings (x : Balance) : (s.setBal x).ceilings = s.ceilings := rfl
@[simp] theorem setBal_alloc (x : Balance) : (s.setBal x).alloc = s.alloc := rfl
@[simp] theorem setBal_profile (x : Balance) : (s.setBal x).profile = s.profile := rfl
@[simp] theorem setBal_chA (x : Balance) : (s.setBal x).chA = s.chA := rfl
@[simp] theorem setBal_chB (x : Balance) : (s.setBal x).chB = s.chB := rfl
@[simp] theorem setBal_arb (x : Balance) : (s.setBal x).arb = s.arb := rfl
@[simp] theorem setBal_bal (x : Balance) : (s.setBal x).bal = x := rfl
@[simp] theorem setBal_hold (x : Balance) : (s.setBal x).hold = s.hold := rfl
@[simp] theorem setBal_prot (x : Balance) : (s.setBal x).prot = s.prot := rfl
@[simp] theorem setBal_ports (x : Balance) : (s.setBal x).ports = s.ports := rfl

/-! setHold -/

@[simp] theorem setHold_pending (x : HoldCtl) : (s.setHold x).pending = s.pending := rfl
@[simp] theorem setHold_now (x : HoldCtl) : (s.setHold x).now = s.now := rfl
@[simp] theorem setHold_freeUses (x : HoldCtl) : (s.setHold x).freeUses = s.freeUses := rfl
@[simp] theorem setHold_power (x : HoldCtl) : (s.setHold x).power = s.power := rfl
@[simp] theorem setHold_present (x : HoldCtl) : (s.setHold x).present = s.present := rfl
@[simp] theorem setHold_settings (x : HoldCtl) : (s.setHold x).settings = s.settings := rfl
@[simp] theorem setHold_otp (x : HoldCtl) : (s.setHold x).otp = s.otp := rfl
@[simp] theorem setHold_seq (x : HoldCtl) : (s.setHold x).seq = s.seq := rfl
@[simp] theorem setHold_inputStage (x : HoldCtl) : (s.setHold x).inputStage = s.inputStage := rfl
@[simp] theorem setHold_pathA (x : HoldCtl) : (s.setHold x).pathA = s.pathA := rfl
@[simp] theorem setHold_linkStage (x : HoldCtl) : (s.setHold x).linkStage = s.linkStage := rfl
@[simp] theorem setHold_table (x : HoldCtl) : (s.setHold x).table = s.table := rfl
@[simp] theorem setHold_input (x : HoldCtl) : (s.setHold x).input = s.input := rfl
@[simp] theorem setHold_ceilings (x : HoldCtl) : (s.setHold x).ceilings = s.ceilings := rfl
@[simp] theorem setHold_alloc (x : HoldCtl) : (s.setHold x).alloc = s.alloc := rfl
@[simp] theorem setHold_profile (x : HoldCtl) : (s.setHold x).profile = s.profile := rfl
@[simp] theorem setHold_chA (x : HoldCtl) : (s.setHold x).chA = s.chA := rfl
@[simp] theorem setHold_chB (x : HoldCtl) : (s.setHold x).chB = s.chB := rfl
@[simp] theorem setHold_arb (x : HoldCtl) : (s.setHold x).arb = s.arb := rfl
@[simp] theorem setHold_bal (x : HoldCtl) : (s.setHold x).bal = s.bal := rfl
@[simp] theorem setHold_hold (x : HoldCtl) : (s.setHold x).hold = x := rfl
@[simp] theorem setHold_prot (x : HoldCtl) : (s.setHold x).prot = s.prot := rfl
@[simp] theorem setHold_ports (x : HoldCtl) : (s.setHold x).ports = s.ports := rfl

/-! setProt -/

@[simp] theorem setProt_pending (x : Protection) : (s.setProt x).pending = s.pending := rfl
@[simp] theorem setProt_now (x : Protection) : (s.setProt x).now = s.now := rfl
@[simp] theorem setProt_freeUses (x : Protection) : (s.setProt x).freeUses = s.freeUses := rfl
@[simp] theorem setProt_power (x : Protection) : (s.setProt x).power = s.power := rfl
@[simp] theorem setProt_present (x : Protection) : (s.setProt x).present = s.present := rfl
@[simp] theorem setProt_settings (x : Protection) : (s.setProt x).settings = s.settings := rfl
@[simp] theorem setProt_otp (x : Protection) : (s.setProt x).otp = s.otp := rfl
@[simp] theorem setProt_seq (x : Protection) : (s.setProt x).seq = s.seq := rfl
@[simp] theorem setProt_inputStage (x : Protection) : (s.setProt x).inputStage = s.inputStage := rfl
@[simp] theorem setProt_pathA (x : Protection) : (s.setProt x).pathA = s.pathA := rfl
@[simp] theorem setProt_linkStage (x : Protection) : (s.setProt x).linkStage = s.linkStage := rfl
@[simp] theorem setProt_table (x : Protection) : (s.setProt x).table = s.table := rfl
@[simp] theorem setProt_input (x : Protection) : (s.setProt x).input = s.input := rfl
@[simp] theorem setProt_ceilings (x : Protection) : (s.setProt x).ceilings = s.ceilings := rfl
@[simp] theorem setProt_alloc (x : Protection) : (s.setProt x).alloc = s.alloc := rfl
@[simp] theorem setProt_profile (x : Protection) : (s.setProt x).profile = s.profile := rfl
@[simp] theorem setProt_chA (x : Protection) : (s.setProt x).chA = s.chA := rfl
@[simp] theorem setProt_chB (x : Protection) : (s.setProt x).chB = s.chB := rfl
@[simp] theorem setProt_arb (x : Protection) : (s.setProt x).arb = s.arb := rfl
@[simp] theorem setProt_bal (x : Protection) : (s.setProt x).bal = s.bal := rfl
@[simp] theorem setProt_hold (x : Protection) : (s.setProt x).hold = s.hold := rfl
@[simp] theorem setProt_prot (x : Protection) : (s.setProt x).prot = x := rfl
@[simp] theorem setProt_ports (x : Protection) : (s.setProt x).ports = s.ports := rfl

/-! setPathA -/

@[simp] theorem setPathA_pending (x : PathA) : (s.setPathA x).pending = s.pending := rfl
@[simp] theorem setPathA_now (x : PathA) : (s.setPathA x).now = s.now := rfl
@[simp] theorem setPathA_freeUses (x : PathA) : (s.setPathA x).freeUses = s.freeUses := rfl
@[simp] theorem setPathA_power (x : PathA) : (s.setPathA x).power = s.power := rfl
@[simp] theorem setPathA_present (x : PathA) : (s.setPathA x).present = s.present := rfl
@[simp] theorem setPathA_settings (x : PathA) : (s.setPathA x).settings = s.settings := rfl
@[simp] theorem setPathA_otp (x : PathA) : (s.setPathA x).otp = s.otp := rfl
@[simp] theorem setPathA_seq (x : PathA) : (s.setPathA x).seq = s.seq := rfl
@[simp] theorem setPathA_inputStage (x : PathA) : (s.setPathA x).inputStage = s.inputStage := rfl
@[simp] theorem setPathA_pathA (x : PathA) : (s.setPathA x).pathA = x := rfl
@[simp] theorem setPathA_linkStage (x : PathA) : (s.setPathA x).linkStage = s.linkStage := rfl
@[simp] theorem setPathA_table (x : PathA) : (s.setPathA x).table = s.table := rfl
@[simp] theorem setPathA_input (x : PathA) : (s.setPathA x).input = s.input := rfl
@[simp] theorem setPathA_ceilings (x : PathA) : (s.setPathA x).ceilings = s.ceilings := rfl
@[simp] theorem setPathA_alloc (x : PathA) : (s.setPathA x).alloc = s.alloc := rfl
@[simp] theorem setPathA_profile (x : PathA) : (s.setPathA x).profile = s.profile := rfl
@[simp] theorem setPathA_chA (x : PathA) : (s.setPathA x).chA = s.chA := rfl
@[simp] theorem setPathA_chB (x : PathA) : (s.setPathA x).chB = s.chB := rfl
@[simp] theorem setPathA_arb (x : PathA) : (s.setPathA x).arb = s.arb := rfl
@[simp] theorem setPathA_bal (x : PathA) : (s.setPathA x).bal = s.bal := rfl
@[simp] theorem setPathA_hold (x : PathA) : (s.setPathA x).hold = s.hold := rfl
@[simp] theorem setPathA_prot (x : PathA) : (s.setPathA x).prot = s.prot := rfl
@[simp] theorem setPathA_ports (x : PathA) : (s.setPathA x).ports = s.ports := rfl

/-! setQueue -/

@[simp] theorem setQueue_pending (q : List Job) : (s.setQueue q).pending = s.pending := rfl
@[simp] theorem setQueue_now (q : List Job) : (s.setQueue q).now = s.now := rfl
@[simp] theorem setQueue_freeUses (q : List Job) : (s.setQueue q).freeUses = s.freeUses := rfl
@[simp] theorem setQueue_power (q : List Job) : (s.setQueue q).power = s.power := rfl
@[simp] theorem setQueue_present (q : List Job) : (s.setQueue q).present = s.present := rfl
@[simp] theorem setQueue_settings (q : List Job) : (s.setQueue q).settings = s.settings := rfl
@[simp] theorem setQueue_otp (q : List Job) : (s.setQueue q).otp = s.otp := rfl
@[simp] theorem setQueue_seq (q : List Job) : (s.setQueue q).seq = s.seq := rfl
@[simp] theorem setQueue_inputStage (q : List Job) : (s.setQueue q).inputStage = s.inputStage := rfl
@[simp] theorem setQueue_pathA (q : List Job) : (s.setQueue q).pathA = s.pathA := rfl
@[simp] theorem setQueue_linkStage (q : List Job) : (s.setQueue q).linkStage = s.linkStage := rfl
@[simp] theorem setQueue_table (q : List Job) : (s.setQueue q).table = s.table := rfl
@[simp] theorem setQueue_input (q : List Job) : (s.setQueue q).input = s.input := rfl
@[simp] theorem setQueue_ceilings (q : List Job) : (s.setQueue q).ceilings = s.ceilings := rfl
@[simp] theorem setQueue_alloc (q : List Job) : (s.setQueue q).alloc = s.alloc := rfl
@[simp] theorem setQueue_profile (q : List Job) : (s.setQueue q).profile = s.profile := rfl
@[simp] theorem setQueue_chA (q : List Job) : (s.setQueue q).chA = s.chA := rfl
@[simp] theorem setQueue_chB (q : List Job) : (s.setQueue q).chB = s.chB := rfl
@[simp] theorem setQueue_arb (q : List Job) : (s.setQueue q).arb = s.arb := rfl
@[simp] theorem setQueue_bal (q : List Job) : (s.setQueue q).bal = { s.bal with queue := q } := rfl
@[simp] theorem setQueue_hold (q : List Job) : (s.setQueue q).hold = s.hold := rfl
@[simp] theorem setQueue_prot (q : List Job) : (s.setQueue q).prot = s.prot := rfl
@[simp] theorem setQueue_ports (q : List Job) : (s.setQueue q).ports = s.ports := rfl

/-! setEngineHot -/

@[simp] theorem setEngineHot_pending (b : Bool) : (s.setEngineHot b).pending = s.pending := rfl
@[simp] theorem setEngineHot_now (b : Bool) : (s.setEngineHot b).now = s.now := rfl
@[simp] theorem setEngineHot_freeUses (b : Bool) : (s.setEngineHot b).freeUses = s.freeUses := rfl
@[simp] theorem setEngineHot_power (b : Bool) : (s.setEngineHot b).power = s.power := rfl
@[simp] theorem setEngineHot_present (b : Bool) : (s.setEngineHot b).present = s.present := rfl
@[simp] theorem setEngineHot_settings (b : Bool) : (s.setEngineHot b).settings = s.settings := rfl
@[simp] theorem setEngineHot_otp (b : Bool) : (s.setEngineHot b).otp = s.otp := rfl
@[simp] theorem setEngineHot_seq (b : Bool) : (s.setEngineHot b).seq = s.seq := rfl
@[simp] theorem setEngineHot_inputStage (b : Bool) : (s.setEngineHot b).inputStage = s.inputStage := rfl
@[simp] theorem setEngineHot_pathA (b : Bool) : (s.setEngineHot b).pathA = s.pathA := rfl
@[simp] theorem setEngineHot_linkStage (b : Bool) : (s.setEngineHot b).linkStage = s.linkStage := rfl
@[simp] theorem setEngineHot_table (b : Bool) : (s.setEngineHot b).table = s.table := rfl
@[simp] theorem setEngineHot_input (b : Bool) : (s.setEngineHot b).input = s.input := rfl
@[simp] theorem setEngineHot_ceilings (b : Bool) : (s.setEngineHot b).ceilings = s.ceilings := rfl
@[simp] theorem setEngineHot_alloc (b : Bool) : (s.setEngineHot b).alloc = s.alloc := rfl
@[simp] theorem setEngineHot_profile (b : Bool) : (s.setEngineHot b).profile = s.profile := rfl
@[simp] theorem setEngineHot_chA (b : Bool) : (s.setEngineHot b).chA = s.chA := rfl
@[simp] theorem setEngineHot_chB (b : Bool) : (s.setEngineHot b).chB = s.chB := rfl
@[simp] theorem setEngineHot_arb (b : Bool) : (s.setEngineHot b).arb = s.arb := rfl
@[simp] theorem setEngineHot_bal (b : Bool) : (s.setEngineHot b).bal = { s.bal with dieHot := b } := rfl
@[simp] theorem setEngineHot_hold (b : Bool) : (s.setEngineHot b).hold = s.hold := rfl
@[simp] theorem setEngineHot_prot (b : Bool) : (s.setEngineHot b).prot = s.prot := rfl
@[simp] theorem setEngineHot_ports (b : Bool) : (s.setEngineHot b).ports = s.ports := rfl

/-! setPort and raiseNotice -/

@[simp] theorem setPort_pending (p : Port) (q : PortState) : (s.setPort p q).pending = s.pending := rfl
@[simp] theorem setPort_now (p : Port) (q : PortState) : (s.setPort p q).now = s.now := rfl
@[simp] theorem setPort_freeUses (p : Port) (q : PortState) : (s.setPort p q).freeUses = s.freeUses := rfl
@[simp] theorem setPort_power (p : Port) (q : PortState) : (s.setPort p q).power = s.power := rfl
@[simp] theorem setPort_present (p : Port) (q : PortState) : (s.setPort p q).present = s.present := rfl
@[simp] theorem setPort_settings (p : Port) (q : PortState) : (s.setPort p q).settings = s.settings := rfl
@[simp] theorem setPort_otp (p : Port) (q : PortState) : (s.setPort p q).otp = s.otp := rfl
@[simp] theorem setPort_seq (p : Port) (q : PortState) : (s.setPort p q).seq = s.seq := rfl
@[simp] theorem setPort_inputStage (p : Port) (q : PortState) : (s.setPort p q).inputStage = s.inputStage := rfl
@[simp] theorem setPort_pathA (p : Port) (q : PortState) : (s.setPort p q).pathA = s.pathA := rfl
@[simp] theorem setPort_linkStage (p : Port) (q : PortState) : (s.setPort p q).linkStage = s.linkStage := rfl
@[simp] theorem setPort_table (p : Port) (q : PortState) : (s.setPort p q).table = s.table := rfl
@[simp] theorem setPort_input (p : Port) (q : PortState) : (s.setPort p q).input = s.input := rfl
@[simp] theorem setPort_ceilings (p : Port) (q : PortState) : (s.setPort p q).ceilings = s.ceilings := rfl
@[simp] theorem setPort_alloc (p : Port) (q : PortState) : (s.setPort p q).alloc = s.alloc := rfl
@[simp] theorem setPort_profile (p : Port) (q : PortState) : (s.setPort p q).profile = s.profile := rfl
@[simp] theorem setPort_chA (p : Port) (q : PortState) : (s.setPort p q).chA = s.chA := rfl
@[simp] theorem setPort_chB (p : Port) (q : PortState) : (s.setPort p q).chB = s.chB := rfl
@[simp] theorem setPort_arb (p : Port) (q : PortState) : (s.setPort p q).arb = s.arb := rfl
@[simp] theorem setPort_bal (p : Port) (q : PortState) : (s.setPort p q).bal = s.bal := rfl
@[simp] theorem setPort_hold (p : Port) (q : PortState) : (s.setPort p q).hold = s.hold := rfl
@[simp] theorem setPort_prot (p : Port) (q : PortState) : (s.setPort p q).prot = s.prot := rfl
@[simp] theorem setPort_ports (p : Port) (q : PortState) : (s.setPort p q).ports = s.ports.set p q := rfl
@[simp] theorem raiseNotice_pending (k : Notice) (p : Port) : (raiseNotice k p s).pending = s.pending := rfl
@[simp] theorem raiseNotice_now (k : Notice) (p : Port) : (raiseNotice k p s).now = s.now := rfl
@[simp] theorem raiseNotice_freeUses (k : Notice) (p : Port) : (raiseNotice k p s).freeUses = s.freeUses := rfl
@[simp] theorem raiseNotice_power (k : Notice) (p : Port) : (raiseNotice k p s).power = s.power := rfl
@[simp] theorem raiseNotice_present (k : Notice) (p : Port) : (raiseNotice k p s).present = s.present := rfl
@[simp] theorem raiseNotice_settings (k : Notice) (p : Port) : (raiseNotice k p s).settings = s.settings := rfl
@[simp] theorem raiseNotice_otp (k : Notice) (p : Port) : (raiseNotice k p s).otp = s.otp := rfl
@[simp] theorem raiseNotice_seq (k : Notice) (p : Port) : (raiseNotice k p s).seq = s.seq := rfl
@[simp] theorem raiseNotice_inputStage (k : Notice) (p : Port) : (raiseNotice k p s).inputStage = s.inputStage := rfl
@[simp] theorem raiseNotice_pathA (k : Notice) (p : Port) : (raiseNotice k p s).pathA = s.pathA := rfl
@[simp] theorem raiseNotice_linkStage (k : Notice) (p : Port) : (raiseNotice k p s).linkStage = s.linkStage := rfl
@[simp] theorem raiseNotice_table (k : Notice) (p : Port) : (raiseNotice k p s).table = s.table := rfl
@[simp] theorem raiseNotice_input (k : Notice) (p : Port) : (raiseNotice k p s).input = s.input := rfl
@[simp] theorem raiseNotice_ceilings (k : Notice) (p : Port) : (raiseNotice k p s).ceilings = s.ceilings := rfl
@[simp] theorem raiseNotice_alloc (k : Notice) (p : Port) : (raiseNotice k p s).alloc = s.alloc := rfl
@[simp] theorem raiseNotice_profile (k : Notice) (p : Port) : (raiseNotice k p s).profile = s.profile := rfl
@[simp] theorem raiseNotice_chA (k : Notice) (p : Port) : (raiseNotice k p s).chA = s.chA := rfl
@[simp] theorem raiseNotice_chB (k : Notice) (p : Port) : (raiseNotice k p s).chB = s.chB := rfl
@[simp] theorem raiseNotice_arb (k : Notice) (p : Port) : (raiseNotice k p s).arb = s.arb := rfl
@[simp] theorem raiseNotice_bal (k : Notice) (p : Port) : (raiseNotice k p s).bal = s.bal := rfl
@[simp] theorem raiseNotice_hold (k : Notice) (p : Port) : (raiseNotice k p s).hold = s.hold := rfl
@[simp] theorem raiseNotice_prot (k : Notice) (p : Port) : (raiseNotice k p s).prot = s.prot := rfl
@[simp] theorem handReply_pending (p : Port) (code : ReplyCode) (l : List Byte) : (handReply p code l s).pending = s.pending := rfl
@[simp] theorem handReply_now (p : Port) (code : ReplyCode) (l : List Byte) : (handReply p code l s).now = s.now := rfl
@[simp] theorem handReply_freeUses (p : Port) (code : ReplyCode) (l : List Byte) : (handReply p code l s).freeUses = s.freeUses := rfl
@[simp] theorem handReply_power (p : Port) (code : ReplyCode) (l : List Byte) : (handReply p code l s).power = s.power := rfl
@[simp] theorem handReply_present (p : Port) (code : ReplyCode) (l : List Byte) : (handReply p code l s).present = s.present := rfl
@[simp] theorem handReply_settings (p : Port) (code : ReplyCode) (l : List Byte) : (handReply p code l s).settings = s.settings := rfl
@[simp] theorem handReply_otp (p : Port) (code : ReplyCode) (l : List Byte) : (handReply p code l s).otp = s.otp := rfl
@[simp] theorem handReply_seq (p : Port) (code : ReplyCode) (l : List Byte) : (handReply p code l s).seq = s.seq := rfl
@[simp] theorem handReply_inputStage (p : Port) (code : ReplyCode) (l : List Byte) : (handReply p code l s).inputStage = s.inputStage := rfl
@[simp] theorem handReply_pathA (p : Port) (code : ReplyCode) (l : List Byte) : (handReply p code l s).pathA = s.pathA := rfl
@[simp] theorem handReply_linkStage (p : Port) (code : ReplyCode) (l : List Byte) : (handReply p code l s).linkStage = s.linkStage := rfl
@[simp] theorem handReply_table (p : Port) (code : ReplyCode) (l : List Byte) : (handReply p code l s).table = s.table := rfl
@[simp] theorem handReply_input (p : Port) (code : ReplyCode) (l : List Byte) : (handReply p code l s).input = s.input := rfl
@[simp] theorem handReply_ceilings (p : Port) (code : ReplyCode) (l : List Byte) : (handReply p code l s).ceilings = s.ceilings := rfl
@[simp] theorem handReply_alloc (p : Port) (code : ReplyCode) (l : List Byte) : (handReply p code l s).alloc = s.alloc := rfl
@[simp] theorem handReply_profile (p : Port) (code : ReplyCode) (l : List Byte) : (handReply p code l s).profile = s.profile := rfl
@[simp] theorem handReply_chA (p : Port) (code : ReplyCode) (l : List Byte) : (handReply p code l s).chA = s.chA := rfl
@[simp] theorem handReply_chB (p : Port) (code : ReplyCode) (l : List Byte) : (handReply p code l s).chB = s.chB := rfl
@[simp] theorem handReply_arb (p : Port) (code : ReplyCode) (l : List Byte) : (handReply p code l s).arb = s.arb := rfl
@[simp] theorem handReply_bal (p : Port) (code : ReplyCode) (l : List Byte) : (handReply p code l s).bal = s.bal := rfl
@[simp] theorem handReply_hold (p : Port) (code : ReplyCode) (l : List Byte) : (handReply p code l s).hold = s.hold := rfl
@[simp] theorem handReply_prot (p : Port) (code : ReplyCode) (l : List Byte) : (handReply p code l s).prot = s.prot := rfl

/-! setChannel -/

@[simp] theorem setChannel_pending (c : Cell) (ch : Channel) : (s.setChannel c ch).pending = s.pending := by cases c <;> rfl
@[simp] theorem setChannel_now (c : Cell) (ch : Channel) : (s.setChannel c ch).now = s.now := by cases c <;> rfl
@[simp] theorem setChannel_freeUses (c : Cell) (ch : Channel) : (s.setChannel c ch).freeUses = s.freeUses := by cases c <;> rfl
@[simp] theorem setChannel_power (c : Cell) (ch : Channel) : (s.setChannel c ch).power = s.power := by cases c <;> rfl
@[simp] theorem setChannel_present (c : Cell) (ch : Channel) : (s.setChannel c ch).present = s.present := by cases c <;> rfl
@[simp] theorem setChannel_settings (c : Cell) (ch : Channel) : (s.setChannel c ch).settings = s.settings := by cases c <;> rfl
@[simp] theorem setChannel_otp (c : Cell) (ch : Channel) : (s.setChannel c ch).otp = s.otp := by cases c <;> rfl
@[simp] theorem setChannel_seq (c : Cell) (ch : Channel) : (s.setChannel c ch).seq = s.seq := by cases c <;> rfl
@[simp] theorem setChannel_inputStage (c : Cell) (ch : Channel) : (s.setChannel c ch).inputStage = s.inputStage := by cases c <;> rfl
@[simp] theorem setChannel_pathA (c : Cell) (ch : Channel) : (s.setChannel c ch).pathA = s.pathA := by cases c <;> rfl
@[simp] theorem setChannel_linkStage (c : Cell) (ch : Channel) : (s.setChannel c ch).linkStage = s.linkStage := by cases c <;> rfl
@[simp] theorem setChannel_table (c : Cell) (ch : Channel) : (s.setChannel c ch).table = s.table := by cases c <;> rfl
@[simp] theorem setChannel_input (c : Cell) (ch : Channel) : (s.setChannel c ch).input = s.input := by cases c <;> rfl
@[simp] theorem setChannel_ceilings (c : Cell) (ch : Channel) : (s.setChannel c ch).ceilings = s.ceilings := by cases c <;> rfl
@[simp] theorem setChannel_alloc (c : Cell) (ch : Channel) : (s.setChannel c ch).alloc = s.alloc := by cases c <;> rfl
@[simp] theorem setChannel_profile (c : Cell) (ch : Channel) : (s.setChannel c ch).profile = s.profile := by cases c <;> rfl
@[simp] theorem setChannel_arb (c : Cell) (ch : Channel) : (s.setChannel c ch).arb = s.arb := by cases c <;> rfl
@[simp] theorem setChannel_bal (c : Cell) (ch : Channel) : (s.setChannel c ch).bal = s.bal := by cases c <;> rfl
@[simp] theorem setChannel_hold (c : Cell) (ch : Channel) : (s.setChannel c ch).hold = s.hold := by cases c <;> rfl
@[simp] theorem setChannel_prot (c : Cell) (ch : Channel) : (s.setChannel c ch).prot = s.prot := by cases c <;> rfl
@[simp] theorem setChannel_ports (c : Cell) (ch : Channel) : (s.setChannel c ch).ports = s.ports := by cases c <;> rfl
@[simp] theorem setChannel_channel (c : Cell) (ch : Channel) : (s.setChannel c ch).channel c = ch := by cases c <;> rfl

/-! reach and tickFree -/

@[simp] theorem reach_pending (t : Nat) : (reach t s).pending = s.pending := rfl
@[simp] theorem reach_now (t : Nat) : (reach t s).now = max s.now t := rfl
@[simp] theorem reach_freeUses (t : Nat) : (reach t s).freeUses = s.freeUses := rfl
@[simp] theorem reach_power (t : Nat) : (reach t s).power = s.power := rfl
@[simp] theorem reach_present (t : Nat) : (reach t s).present = s.present := rfl
@[simp] theorem reach_settings (t : Nat) : (reach t s).settings = s.settings := rfl
@[simp] theorem reach_otp (t : Nat) : (reach t s).otp = s.otp := rfl
@[simp] theorem reach_seq (t : Nat) : (reach t s).seq = s.seq := rfl
@[simp] theorem reach_inputStage (t : Nat) : (reach t s).inputStage = s.inputStage := rfl
@[simp] theorem reach_pathA (t : Nat) : (reach t s).pathA = s.pathA := rfl
@[simp] theorem reach_linkStage (t : Nat) : (reach t s).linkStage = s.linkStage := rfl
@[simp] theorem reach_table (t : Nat) : (reach t s).table = s.table := rfl
@[simp] theorem reach_input (t : Nat) : (reach t s).input = s.input := rfl
@[simp] theorem reach_ceilings (t : Nat) : (reach t s).ceilings = s.ceilings := rfl
@[simp] theorem reach_alloc (t : Nat) : (reach t s).alloc = s.alloc := rfl
@[simp] theorem reach_profile (t : Nat) : (reach t s).profile = s.profile := rfl
@[simp] theorem reach_chA (t : Nat) : (reach t s).chA = s.chA := rfl
@[simp] theorem reach_chB (t : Nat) : (reach t s).chB = s.chB := rfl
@[simp] theorem reach_arb (t : Nat) : (reach t s).arb = s.arb := rfl
@[simp] theorem reach_bal (t : Nat) : (reach t s).bal = s.bal := rfl
@[simp] theorem reach_hold (t : Nat) : (reach t s).hold = s.hold := rfl
@[simp] theorem reach_prot (t : Nat) : (reach t s).prot = s.prot := rfl
@[simp] theorem reach_ports (t : Nat) : (reach t s).ports = s.ports := rfl
@[simp] theorem tickFree_pending : s.tickFree.pending = s.pending := rfl
@[simp] theorem tickFree_now : s.tickFree.now = s.now := rfl
@[simp] theorem tickFree_freeUses : s.tickFree.freeUses = s.freeUses + 1 := rfl
@[simp] theorem tickFree_power : s.tickFree.power = s.power := rfl
@[simp] theorem tickFree_present : s.tickFree.present = s.present := rfl
@[simp] theorem tickFree_settings : s.tickFree.settings = s.settings := rfl
@[simp] theorem tickFree_otp : s.tickFree.otp = s.otp := rfl
@[simp] theorem tickFree_seq : s.tickFree.seq = s.seq := rfl
@[simp] theorem tickFree_inputStage : s.tickFree.inputStage = s.inputStage := rfl
@[simp] theorem tickFree_pathA : s.tickFree.pathA = s.pathA := rfl
@[simp] theorem tickFree_linkStage : s.tickFree.linkStage = s.linkStage := rfl
@[simp] theorem tickFree_table : s.tickFree.table = s.table := rfl
@[simp] theorem tickFree_input : s.tickFree.input = s.input := rfl
@[simp] theorem tickFree_ceilings : s.tickFree.ceilings = s.ceilings := rfl
@[simp] theorem tickFree_alloc : s.tickFree.alloc = s.alloc := rfl
@[simp] theorem tickFree_profile : s.tickFree.profile = s.profile := rfl
@[simp] theorem tickFree_chA : s.tickFree.chA = s.chA := rfl
@[simp] theorem tickFree_chB : s.tickFree.chB = s.chB := rfl
@[simp] theorem tickFree_arb : s.tickFree.arb = s.arb := rfl
@[simp] theorem tickFree_bal : s.tickFree.bal = s.bal := rfl
@[simp] theorem tickFree_hold : s.tickFree.hold = s.hold := rfl
@[simp] theorem tickFree_prot : s.tickFree.prot = s.prot := rfl
@[simp] theorem tickFree_ports : s.tickFree.ports = s.ports := rfl

/-! Ports -/

@[simp] theorem PerPort.get_set_self {α : Type} (x : PerPort α) (p : Port) (v : α) : (x.set p v).get p = v := by
  cases p <;> rfl

theorem PerPort.get_set_other {α : Type} (x : PerPort α) {p q : Port} (h : q ≠ p) (v : α) : (x.set p v).get q = x.get q := by
  cases p <;> cases q <;> first | rfl | exact absurd rfl h

@[simp] theorem setPort_port (p : Port) (q : PortState) : (s.setPort p q).port p = q := PerPort.get_set_self _ _ _

theorem setPort_port_other {p q : Port} (h : q ≠ p) (x : PortState) : (s.setPort p x).port q = s.port q :=
  PerPort.get_set_other _ h _

@[simp] theorem handReply_handed (p : Port) (code : ReplyCode) (l : List Byte) :
    ((handReply p code l s).port p).handed = some { code := code, payload := l } := by
  simp [handReply]

theorem handReply_port_other {p q : Port} (h : q ≠ p) (code : ReplyCode) (l : List Byte) :
    (handReply p code l s).port q = s.port q := setPort_port_other s h _

theorem raiseNotice_port (k : Notice) (p : Port) :
    (raiseNotice k p s).port p = { s.port p with notices := (s.port p).notices ||| k.only } := by
  simp [raiseNotice]

theorem raiseNotice_port_other {p q : Port} (h : q ≠ p) (k : Notice) : (raiseNotice k p s).port q = s.port q :=
  setPort_port_other s h _

end Sys2Proof.Machine
end

