-- ==== Sys2Proof/Laws/Frame.lean ====
section
/-! SUPPORT. What the reactions of the blocks leave alone: every operation that a report or a trigger sets off keeps
`State.outer`. One lemma for each operation, over its callees' lemmas. -/

namespace Sys2Proof.Machine

/-! ### Updates inside the blanked part -/

@[simp] theorem setArb_outer (s : State) (x : Arbiter) : (s.setArb x).outer = s.outer := rfl
@[simp] theorem setBal_outer (s : State) (x : Balance) : (s.setBal x).outer = s.outer := rfl
@[simp] theorem setEngineHot_outer (s : State) (b : Bool) : (s.setEngineHot b).outer = s.outer := rfl
@[simp] theorem setQueue_outer (s : State) (q : List Job) : (s.setQueue q).outer = s.outer := rfl
@[simp] theorem setChannel_outer (s : State) (c : Cell) (ch : Channel) : (s.setChannel c ch).outer = s.outer := by
  cases c <;> rfl
@[simp] theorem tickFree_outer (s : State) : s.tickFree.outer = s.outer := rfl
@[simp] theorem raiseNotice_outer (k : Notice) (p : Port) (s : State) : (raiseNotice k p s).outer = s.outer := by
  cases p <;> rfl
@[simp] theorem raiseMainHub_outer (k : Notice) (s : State) : (raiseMainHub k s).outer = s.outer := rfl
@[simp] theorem raiseAll_outer (k : Notice) (s : State) : (raiseAll k s).outer = s.outer := rfl
@[simp] theorem raiseOwner_outer (k : Notice) (o : Owner) (s : State) : (raiseOwner k o s).outer = s.outer := by
  cases o <;> simp [raiseOwner]

/-- A condition around an operation that keeps the rest. -/
theorem raiseIf_outer (b : Bool) (f : State → State) (s : State) (h : ∀ s, (f s).outer = s.outer) :
    (raiseIf b f s).outer = s.outer := by
  cases b
  · rfl
  · exact h s

@[simp] theorem raiseIf_raiseNotice_outer (b : Bool) (k : Notice) (p : Port) (s : State) :
    (raiseIf b (raiseNotice k p) s).outer = s.outer := raiseIf_outer _ _ _ (raiseNotice_outer k p)
@[simp] theorem raiseIf_raiseMainHub_outer (b : Bool) (k : Notice) (s : State) :
    (raiseIf b (raiseMainHub k) s).outer = s.outer := raiseIf_outer _ _ _ (raiseMainHub_outer k)
@[simp] theorem raiseIf_raiseNotice_hold (b : Bool) (k : Notice) (p : Port) (s : State) :
    (raiseIf b (raiseNotice k p) s).hold = s.hold := by cases b <;> rfl

/-- The hold control's new state keeps the rest where it keeps the holder set and its entry checks. -/
theorem setHold_outer (s : State) (x : HoldCtl) (hm : x.holders.main.quiet = s.hold.holders.main.quiet)
    (hh : x.holders.hub.quiet = s.hold.holders.hub.quiet) (hi : x.holders.input.quiet = s.hold.holders.input.quiet) :
    (s.setHold x).outer = s.outer := by
  simp only [State.outer, State.setHold, hm, hh, hi]

/-- A list of operations that each keep the rest keeps it. -/
theorem foldl_outer {α : Type} (f : State → α → State) (l : List α) (h : ∀ s x, (f s x).outer = s.outer) :
    ∀ s : State, (l.foldl f s).outer = s.outer := by
  induction l with
  | nil => intro s; rfl
  | cons x l ih => intro s; rw [List.foldl_cons, ih, h]

/-! ### Ops -/

@[simp] theorem startPass_outer (s : State) : (startPass s).outer = s.outer := rfl

@[simp] theorem trigger_outer (s : State) : (trigger s).outer = s.outer := by
  unfold trigger
  split
  · rfl
  · split <;> rfl

@[simp] theorem leaveMonitor_outer (s : State) : (leaveMonitor s).outer = s.outer := by
  unfold leaveMonitor; split <;> rfl

@[simp] theorem monitorTest_outer (s : State) : (monitorTest s).outer = s.outer := by
  unfold monitorTest; split <;> rfl

@[simp] theorem becomeEffective_outer (s : State) : (becomeEffective s).outer = s.outer := by
  simp only [becomeEffective, trigger_outer]
  rw [setHold_outer]
  · simp only [raiseIf_raiseNotice_outer]
  · simp only [raiseIf_raiseNotice_hold]; rfl
  · simp only [raiseIf_raiseNotice_hold]; rfl
  · simp only [raiseIf_raiseNotice_hold]; rfl

@[simp] theorem holdTest_outer (s : State) : (holdTest s).outer = s.outer := by
  unfold holdTest; split
  · exact becomeEffective_outer s
  · rfl

@[simp] theorem takeCharge_outer (n : Nat) (s : State) : (takeCharge n s).outer = s.outer := by
  unfold takeCharge
  split
  · rfl
  · dsimp only
    split
    · rw [holdTest_outer]; rfl
    · rfl

@[simp] theorem linkFollow_outer (s : State) : (linkFollow s).outer = s.outer := by
  unfold linkFollow
  split
  · rfl
  · dsimp only
    split
    · rw [holdTest_outer]; rfl
    · rfl

/-! ### Arbiter -/

@[simp] theorem reportToB_outer (b : Bool) (s : State) : (reportToB b s).outer = s.outer := by
  unfold reportToB
  dsimp only
  split
  · rw [trigger_outer, linkFollow_outer]; rfl
  · rw [linkFollow_outer]; rfl

@[simp] theorem reportLink_outer (s : State) : (reportLink s).outer = s.outer := by
  unfold reportLink; rw [holdTest_outer]; rfl

@[simp] theorem reportLossToEngine_outer (c : LossCause) (s : State) : (reportLossToEngine c s).outer = s.outer := by
  unfold reportLossToEngine
  split <;> first | rfl | (split <;> rfl)

section Arb
variable {onBalance : State → State} (hB : ∀ s, (onBalance s).outer = s.outer)
include hB

theorem grantLink_outer (r : Requester) (s : State) : (grantLink onBalance r s).outer = s.outer := by
  unfold grantLink
  cases r <;> simp [hB]

theorem chooseFree_outer (s : State) : (chooseFree onBalance s).outer = s.outer := by
  unfold chooseFree
  split
  · split
    · exact grantLink_outer hB _ _
    · rfl
  · rfl

theorem endChangeover_outer (s : State) : (endChangeover onBalance s).outer = s.outer := by
  unfold endChangeover
  split
  · exact grantLink_outer hB _ _
  · simp

theorem loseLink_outer (c : LossCause) (r : Requester) (s : State) : (loseLink onBalance c r s).outer = s.outer := by
  unfold loseLink
  cases r <;> dsimp only <;> split <;> simp [endChangeover_outer hB]

theorem startYield_outer (r : Requester) (s : State) : (startYield onBalance r s).outer = s.outer := by
  unfold startYield
  cases r
  · rfl
  · exact loseLink_outer hB _ _ _
  · rfl

theorem arriveHeld_outer (r q : Requester) (s : State) : (arriveHeld onBalance r q s).outer = s.outer := by
  unfold arriveHeld
  cases r <;> dsimp only
  · exact loseLink_outer hB _ _ _
  · split
    · exact startYield_outer hB _ _
    · rfl
  · split
    · exact startYield_outer hB _ _
    · rfl

theorem raiseLink_outer (r : Requester) (s : State) : (raiseLink onBalance r s).outer = s.outer := by
  unfold raiseLink
  split
  · rfl
  · dsimp only
    split
    · rw [chooseFree_outer hB]; rfl
    · rw [arriveHeld_outer hB]; rfl
    · rfl

theorem withdrawLink_outer (r : Requester) (s : State) : (withdrawLink onBalance r s).outer = s.outer := by
  unfold withdrawLink
  split
  · exact loseLink_outer hB _ _ _
  · split <;> rfl

/-! ### Engine -/

theorem newHead_outer (s : State) : (newHead onBalance s).outer = s.outer := by
  unfold newHead
  split
  · rfl
  · split
    · rw [raiseLink_outer hB]; rfl
    · rfl

omit hB in
@[simp] theorem queueEmptied_outer (s : State) : (queueEmptied s).outer = s.outer := by
  unfold queueEmptied; split
  · exact monitorTest_outer s
  · rfl

omit hB in
@[simp] theorem recordEnding_outer (j : Job) (e : EndReason) (s : State) : (recordEnding j e s).outer = s.outer := by
  unfold recordEnding; rw [raiseNotice_outer]; rfl

theorem endHead_outer (e : EndReason) (s : State) : (endHead onBalance e s).outer = s.outer := by
  unfold endHead
  split
  · rfl
  · dsimp only
    rw [queueEmptied_outer, newHead_outer hB, recordEnding_outer]
    split
    · rfl
    · rw [withdrawLink_outer hB]; rfl

end Arb

@[simp] theorem startChecks_outer (s : State) : (startChecks s).outer = s.outer := by
  unfold startChecks
  split
  · rfl
  · split
    · split
      · rw [linkFollow_outer]; rfl
      · exact endHead_outer (fun _ => rfl) _ _
    · rfl

@[simp] theorem raiseReq_outer (r : Requester) (s : State) : (raiseReq r s).outer = s.outer :=
  raiseLink_outer startChecks_outer r s
@[simp] theorem withdrawReq_outer (r : Requester) (s : State) : (withdrawReq r s).outer = s.outer :=
  withdrawLink_outer startChecks_outer r s
@[simp] theorem choiceFree_outer (s : State) : (choiceFree s).outer = s.outer := chooseFree_outer startChecks_outer s
@[simp] theorem changeoverEnds_outer (s : State) : (changeoverEnds s).outer = s.outer :=
  endChangeover_outer startChecks_outer s
@[simp] theorem lossOf_outer (c : LossCause) (r : Requester) (s : State) : (lossOf c r s).outer = s.outer :=
  loseLink_outer startChecks_outer c r s
@[simp] theorem yieldOf_outer (r : Requester) (s : State) : (yieldOf r s).outer = s.outer :=
  startYield_outer startChecks_outer r s
@[simp] theorem finishHead_outer (e : EndReason) (s : State) : (finishHead e s).outer = s.outer :=
  endHead_outer startChecks_outer e s
@[simp] theorem newHead_startChecks_outer (s : State) : (newHead startChecks s).outer = s.outer :=
  newHead_outer startChecks_outer s

@[simp] theorem suspendHead_outer (s : State) : (suspendHead s).outer = s.outer := by
  unfold suspendHead
  split
  · rfl
  · split
    · rfl
    · rw [withdrawReq_outer]; rfl
    · rw [withdrawReq_outer, linkFollow_outer]; rfl

@[simp] theorem releaseHead_outer (s : State) : (releaseHead s).outer = s.outer := by
  unfold releaseHead
  split
  · rfl
  · split
    · rw [raiseReq_outer]; rfl
    · rfl

@[simp] theorem quantumReport_outer (s : State) : (quantumReport s).outer = s.outer := by
  unfold quantumReport; split
  · exact lossOf_outer _ _ _
  · rfl

@[simp] theorem engineSample_outer (s : State) : (engineSample s).outer = s.outer := by
  unfold engineSample
  split
  · rfl
  · dsimp only
    split <;> (try rw [finishHead_outer]) <;> (split <;> simp)

@[simp] theorem endAll_outer (n : Nat) : ∀ s : State, (endAll n s).outer = s.outer := by
  induction n with
  | zero => intro s; rfl
  | succ n ih => intro s; rw [endAll, ih, finishHead_outer]

@[simp] theorem cellFaultToEngine_outer (s : State) : (cellFaultToEngine s).outer = s.outer := endAll_outer _ s

@[simp] theorem linkFaultToEngine_outer (s : State) : (linkFaultToEngine s).outer = s.outer := by
  unfold linkFaultToEngine
  split
  · rfl
  · split
    · exact finishHead_outer _ _
    · rfl

@[simp] theorem enginePortReset_outer (p : Port) (s : State) : (enginePortReset p s).outer = s.outer := by
  unfold enginePortReset
  dsimp only
  split
  · rfl
  · split
    · rw [queueEmptied_outer, newHead_startChecks_outer]
      split
      · rfl
      · rw [withdrawReq_outer]; rfl
    · rfl

/-! ### Channels -/

@[simp] theorem syncChargeB_outer (s : State) : (syncChargeB s).outer = s.outer := by
  unfold syncChargeB
  dsimp only
  split
  · rfl
  · split
    · rw [raiseReq_outer]; rfl
    · rw [withdrawReq_outer]; rfl

@[simp] theorem handPresented_outer (c : Cell) (s : State) : (handPresented c s).outer = s.outer := by
  cases c <;> simp [handPresented]

@[simp] theorem commit_outer (c : Cell) (y : Change) (s : State) : (commit c y s).outer = s.outer := by
  unfold commit
  dsimp only
  split <;> split <;> simp

@[simp] theorem channelReasons_outer (c : Cell) (f : Reasons → Reasons) (s : State) :
    (channelReasons c f s).outer = s.outer := commit_outer _ _ _
@[simp] theorem startChannel_outer (c : Cell) (n : Nat) (s : State) : (startChannel c n s).outer = s.outer :=
  commit_outer _ _ _
@[simp] theorem channelSample_outer (c : Cell) (s : State) : (channelSample c s).outer = s.outer := commit_outer _ _ _
@[simp] theorem cellFaultToChannel_outer (c : Cell) (s : State) : (cellFaultToChannel c s).outer = s.outer :=
  commit_outer _ _ _
@[simp] theorem publishToChannel_outer (c : Cell) (s : State) : (publishToChannel c s).outer = s.outer :=
  commit_outer _ _ _

/-! ### Reports of the hold and of faults -/

@[simp] theorem holdBegan_outer (l : Listener) (s : State) : (holdBegan l s).outer = s.outer := by
  cases l <;> simp [holdBegan]
@[simp] theorem holdEnded_outer (l : Listener) (s : State) : (holdEnded l s).outer = s.outer := by
  cases l <;> simp [holdEnded]
@[simp] theorem dieHotBegan_outer (l : Listener) (s : State) : (dieHotBegan l s).outer = s.outer := by
  cases l <;> simp [dieHotBegan]
@[simp] theorem dieHotEnded_outer (l : Listener) (s : State) : (dieHotEnded l s).outer = s.outer := by
  cases l <;> simp [dieHotEnded]
@[simp] theorem reportHoldBegan_outer (s : State) : (reportHoldBegan s).outer = s.outer := by
  unfold reportHoldBegan
  split <;> exact foldl_outer _ _ (fun s l => holdBegan_outer l s) s

@[simp] theorem beginHold_outer (s : State) : (beginHold s).outer = s.outer := by
  unfold beginHold; rw [trigger_outer, reportHoldBegan_outer]; rfl

@[simp] theorem endHold_outer (k : Nat) (own : Bool) (s : State) : (endHold k own s).outer = s.outer := by
  unfold endHold
  dsimp only
  rw [monitorTest_outer]
  split
  · rw [trigger_outer, foldl_outer _ _ (fun s l => holdEnded_outer l s)]; rfl
  · rw [foldl_outer _ _ (fun s l => holdEnded_outer l s)]; rfl

@[simp] theorem lockLink_outer (s : State) : (lockLink s).outer = s.outer := by
  unfold lockLink
  dsimp only
  split
  · rw [linkFaultToEngine_outer, lossOf_outer]; rfl
  · rfl
  · rfl

@[simp] theorem takeReport_outer (x : FaultReport) (s : State) : (takeReport x s).outer = s.outer := by
  cases x with
  | dieHot b l => cases b <;> simp [takeReport]
  | _ => simp [takeReport]

/-- R168: the reports of a sample change nothing but what reactions may change. -/
theorem takeReports_outer (l : List FaultReport) (s : State) :
    (l.foldl (fun s x => takeReport x s) s).outer = s.outer :=
  foldl_outer _ _ (fun s x => takeReport_outer x s) s

@[simp] theorem unlockLink_outer (s : State) : (unlockLink s).outer = s.outer := by
  unfold unlockLink
  dsimp only
  split
  · rw [choiceFree_outer]; rfl
  · rfl
  · rfl

@[simp] theorem arbiterSettled_outer (s : State) : (arbiterSettled s).outer = s.outer := by
  unfold arbiterSettled; split <;> simp

@[simp] theorem publishSupply_outer (s : State) : (publishSupply s).outer = s.outer := by
  unfold publishSupply; split <;> simp

/-! ### What `outer` tells -/

theorem keeps_refl (s : State) : Keeps s s := rfl
theorem Keeps.trans {s t u : State} (h : Keeps s t) (k : Keeps t u) : Keeps s u := Eq.trans k h

theorem Keeps.table {s t : State} (h : Keeps s t) : t.table = s.table := (congrArg State.table (show t.outer = s.outer from h) :)
theorem Keeps.ceilings {s t : State} (h : Keeps s t) : t.ceilings = s.ceilings := (congrArg State.ceilings (show t.outer = s.outer from h) :)
theorem Keeps.input {s t : State} (h : Keeps s t) : t.input = s.input := (congrArg State.input (show t.outer = s.outer from h) :)
theorem Keeps.prot {s t : State} (h : Keeps s t) : t.prot = s.prot := (congrArg State.prot (show t.outer = s.outer from h) :)
theorem Keeps.profile {s t : State} (h : Keeps s t) : t.profile = s.profile := (congrArg State.profile (show t.outer = s.outer from h) :)
theorem Keeps.settings {s t : State} (h : Keeps s t) : t.settings = s.settings := (congrArg State.settings (show t.outer = s.outer from h) :)
theorem Keeps.otp {s t : State} (h : Keeps s t) : t.otp = s.otp := (congrArg State.otp (show t.outer = s.outer from h) :)
theorem Keeps.pending {s t : State} (h : Keeps s t) : t.pending = s.pending := (congrArg State.pending (show t.outer = s.outer from h) :)
theorem Keeps.now {s t : State} (h : Keeps s t) : t.now = s.now := (congrArg State.now (show t.outer = s.outer from h) :)
theorem Keeps.present {s t : State} (h : Keeps s t) : t.present = s.present := (congrArg State.present (show t.outer = s.outer from h) :)
theorem Keeps.inputStage {s t : State} (h : Keeps s t) : t.inputStage = s.inputStage := (congrArg State.inputStage (show t.outer = s.outer from h) :)
theorem Keeps.record {s t : State} (h : Keeps s t) : t.alloc.record = s.alloc.record :=
  (congrArg (fun x => x.alloc.record) (show t.outer = s.outer from h) :)
theorem Keeps.latest {s t : State} (h : Keeps s t) : t.seq.latest = s.seq.latest := (congrArg (fun x => x.seq.latest) (show t.outer = s.outer from h) :)
theorem Keeps.sample {s t : State} (h : Keeps s t) : t.sample = s.sample := (congrArg State.sample (show t.outer = s.outer from h) :)
theorem Keeps.phase {s t : State} (h : Keeps s t) : t.power.phase = s.power.phase := (congrArg (fun x => x.power.phase) (show t.outer = s.outer from h) :)
theorem Keeps.supply {s t : State} (h : Keeps s t) : t.pathA.supply = s.pathA.supply :=
  (congrArg (fun x => x.pathA.supply) (show t.outer = s.outer from h) :)
theorem Keeps.port {s t : State} (h : Keeps s t) (p : Port) : (t.port p).quiet = (s.port p).quiet := by
  cases p
  · exact (congrArg (fun x => x.ports.main) (show t.outer = s.outer from h) :)
  · exact (congrArg (fun x => x.ports.hub) (show t.outer = s.outer from h) :)
  · exact (congrArg (fun x => x.ports.input) (show t.outer = s.outer from h) :)
theorem Keeps.holder {s t : State} (h : Keeps s t) (p : Port) : (t.holder p).quiet = (s.holder p).quiet := by
  cases p
  · exact (congrArg (fun x => x.hold.holders.main) (show t.outer = s.outer from h) :)
  · exact (congrArg (fun x => x.hold.holders.hub) (show t.outer = s.outer from h) :)
  · exact (congrArg (fun x => x.hold.holders.input) (show t.outer = s.outer from h) :)

/-! ### The monitor's state after a sample -/

/-- R168: telling a raise leaves the monitor and the cell A path alone. -/
theorem raiseIf_tellRaise (b : Bool) (s : State) :
    (raiseIf b tellRaise s).prot = s.prot ∧ (raiseIf b tellRaise s).pathA = s.pathA := by
  have hm (u : State) : (leaveMonitor u).prot = u.prot ∧ (leaveMonitor u).pathA = u.pathA := by
    unfold leaveMonitor; split <;> exact ⟨rfl, rfl⟩
  cases b
  · exact ⟨rfl, rfl⟩
  · exact hm (raiseAll .fault s)

/-- R168: entering the fault sets makes them those given. -/
theorem enterFaults_prot (new : Protection) (s : State) : (enterFaults new s).prot = new := by
  rw [enterFaults, (raiseIf_tellRaise _ _).1]
  unfold raiseIf; split <;> rfl

/-- R171: as CELL_UV clears on cell A its path holds no allowance; otherwise the path is left alone. -/
theorem enterFaults_pathA (new : Protection) (s : State) : (enterFaults new s).pathA
    = if s.prot.cellA.uv && !new.cellA.uv then { s.pathA with supply := 0 } else s.pathA := by
  rw [enterFaults, (raiseIf_tellRaise _ _).2]
  unfold raiseIf; split <;> rfl

/-- R167 to R172: whatever the order of the reports, the monitor's state after its part of a sample is the one that its tests
give. -/
theorem monitorSample_prot (k : Nat) (s : State) : (monitorSample k s).prot = s.prot.judged s.sample := by
  unfold monitorSample
  dsimp only
  split
  · rename_i h; exact h.symm
  · have h := takeReports_outer (arrange k (reportsOf s.prot (s.prot.judged s.sample))) (enterFaults (s.prot.judged s.sample) s)
    have ht : ∀ u : State, (trigger u).prot = u.prot := fun u => Keeps.prot (trigger_outer u)
    rw [ht, Keeps.prot h, enterFaults_prot]

end Sys2Proof.Machine
end

