-- ==== Sys2Proof/Laws/Ops.lean ====
section
/-! SUPPORT. One lemma for each shared operation that says once what it can do: the port interface taking a frame, the
allocator taking a trigger, a stage taking a setpoint, the arbiter's choice, the start checks, the MONITOR test. -/

namespace Sys2Proof.Machine

/-! ### Taking a frame (R180, R181) -/

theorem takeFrame_busy (p : Port) (i : Instr) (check : Option ReplyCode) (own : State → State) (s : State)
    (h : s.operating = false ∨ (s.port p).busy = true) : takeFrame p i check own s = turnAway p (writtenBytes i).length s := by
  rcases h with h | h <;> simp [takeFrame, h]

theorem takeFrame_loading (p : Port) (i : Instr) (check : Option ReplyCode) (own : State → State) (s : State)
    (h : Takes s p) (hl : s.power.phase = .loading) :
    takeFrame p i check own s = refuse p .notReady (fillSlot p (writtenBytes i) s) := by
  simp [takeFrame, h.1, h.2, hl]

theorem takeFrame_refused (p : Port) (i : Instr) (code : ReplyCode) (own : State → State) (s : State) (h : Hands s p) :
    takeFrame p i (some code) own s = refuse p code (handedOver p i s) := by
  simp [takeFrame, h.1.1, h.1.2, h.2, handedOver]

theorem takeFrame_handed (p : Port) (i : Instr) (own : State → State) (s : State) (h : Hands s p) :
    takeFrame p i none own s = own (handedOver p i s) := by
  simp [takeFrame, h.1.1, h.1.2, h.2, handedOver]

theorem judgeFrame_none (p : Port) (r : Request) (h : r.ports.allows p = true) :
    judgeFrame p r (Framing.ofLength r.length) = none := by
  simp [judgeFrame, Framing.fits, Framing.ofLength, h]

/-- A well-framed request from a port that may send it reaches its block. -/
theorem takeRequest_handed (p : Port) (r : Request) (i : Instr) (own : State → State) (s : State) (h : Hands s p)
    (hp : r.ports.allows p = true) :
    takeRequest p r (Framing.ofLength r.length) i own s = own (handedOver p i s) := by
  unfold takeRequest
  rw [judgeFrame_none p r hp, takeFrame_handed p i own s h]

/-! ### Triggers (R66, R67) -/

/-- A trigger past LOADING, of a part at work, is taken. -/
theorem trigger_triggered (s : State) (hp : s.power.phase = .running) (ho : s.operating = true) :
    Triggered s (trigger s) := by
  unfold Triggered PassRaised trigger
  cases h : s.alloc.pass <;> simp [hp, ho, h, startPass, State.setAlloc]
  rfl

theorem trigger_still (s : State) : (trigger s).still = s.still := by
  unfold trigger
  split
  · rfl
  · split <;> rfl

/-- In LOADING and out of operation a trigger is not taken. -/
theorem trigger_ignored (s : State) (h : s.power.phase = .loading ∨ s.operating = false) : trigger s = s := by
  unfold trigger
  rcases h with h | h <;> simp [h]

/-! ### What the port interface leaves (R34, R36, R181) -/

theorem handedOver_power (p : Port) (i : Instr) (s : State) :
    (handedOver p i s).power = { s.power with state := if s.power.state = .monitor then .active else s.power.state } := by
  have h : (wakePort p (fillSlot p (writtenBytes i) s)).power = s.power := by
    unfold wakePort; dsimp only; split
    · unfold trigger; split
      · rfl
      · split <;> rfl
    · rfl
  unfold handedOver leaveMonitor
  rw [h]
  split
  · simp
  · simp [h]

theorem handedOver_operating (p : Port) (i : Instr) (s : State) (h : s.operating = true) :
    (handedOver p i s).operating = true := by
  unfold State.operating at *
  rw [handedOver_power]
  cases hs : s.power.state <;> simp_all

theorem handedOver_phase (p : Port) (i : Instr) (s : State) : (handedOver p i s).power.phase = s.power.phase := by
  rw [handedOver_power]

/-- A trigger that the block of a request raises is taken. -/
theorem handedOver_triggered (p : Port) (i : Instr) (s u : State) (h : Hands s p) (hu : u.power = (handedOver p i s).power) :
    Triggered u (trigger u) := by
  refine trigger_triggered u ?_ ?_
  · rw [hu, handedOver_phase, h.2]
  · have := handedOver_operating p i s h.1.1
    unfold State.operating at *
    rw [hu]; exact this

/-! ### Acknowledges (R180) -/

theorem acknowledges_free (s : State) (p : Port) (n : Nat) (h : Takes s p) :
    s.acknowledges p n = true :: (List.range n).map (fun k => decide (k < 32)) := by
  simp only [State.acknowledges, State.addressed, h.1, h.2]; rfl

theorem acknowledges_busy (s : State) (p : Port) (n : Nat) (ho : s.operating = true) (hb : (s.port p).busy = true) :
    s.acknowledges p n = true :: List.replicate n false := by
  simp [State.acknowledges, State.addressed, ho, hb, List.map_const']

theorem acknowledges_off (s : State) (p : Port) (n : Nat) (ho : s.operating = false) :
    s.acknowledges p n = List.replicate (n + 1) false := by
  simp [State.acknowledges, State.addressed, ho, List.map_const', List.replicate_succ]

/-! ### The monitor's tests (R167, R172) -/

@[simp] theorem take_cellA (x y : Protection) (b : Bool) (k : FaultKind) (l : FaultPlace) : (x.take b k l y).cellA = y.cellA := rfl
@[simp] theorem take_cellB (x y : Protection) (b : Bool) (k : FaultKind) (l : FaultPlace) : (x.take b k l y).cellB = y.cellB := rfl
@[simp] theorem take_device (x y : Protection) (b : Bool) (k : FaultKind) (l : FaultPlace) : (x.take b k l y).device = y.device := rfl
@[simp] theorem take_thermal (x y : Protection) (b : Bool) (k : FaultKind) (l : FaultPlace) : (x.take b k l y).thermal = y.thermal := rfl
@[simp] theorem take_first (x y : Protection) (b : Bool) (k : FaultKind) (l : FaultPlace) :
    (x.take b k l y).first = if b && !x.anyFault then some (k, l) else x.first := rfl

theorem judged_device (y : Sample) (x : Protection) :
    (x.judged y).device = { dieHot := if x.device.dieHot then decide (110 ≤ y.tDie) else decide (125 ≤ y.tDie)
                            inputOv := x.device.inputOv
                            linkFault := x.device.linkFault || decide (3300 < y.linkCurrent) } := rfl

/-- R172: under DIE_HOT the thermal state is ZERO. -/
theorem judged_dieHot_zero (y : Sample) (x : Protection) (h : (x.judged y).device.dieHot = true) :
    (x.judged y).thermal = .zero := by
  simp only [Protection.judged] at h ⊢
  simp [thermalOf, h]

/-! ### Counting (R142) -/

/-- R140 to R142: the ms at the time t counts for a run that has just ended, or its tail, exactly where it lies between its
grant and 40 ms after the loss. -/
theorem stops_counts (now t : Nat) (st : JobState) (j : Job) :
    (j.stops now st).counts t
      = (j.runs.any (fun x => decide (x.start ≤ t) && decide (t < x.stop))
          || (decide (j.heldSince.getD now ≤ t) && decide (t < now + 40))) := by
  simp [Job.stops, Job.counts, Config.tailMs]

/-- R142: the counted time lies within the interval. -/
theorem countedTime_le (j : Job) (start stop : Nat) : j.countedTime start stop ≤ stop - start := by
  unfold Job.countedTime
  exact (List.countP_le_length).trans_eq List.length_range

/-! ### Stages (R1, R4) -/

@[simp] theorem cut_target (x : Stage Nat) : x.cut.target = x.target := rfl
@[simp] theorem cut_output (x : Stage Nat) : x.cut.output = 0 := rfl
@[simp] theorem cut_ramping (x : Stage Nat) : x.cut.ramping = (x.target != 0) := rfl

theorem take_same {α : Type} [DecidableEq α] (out : α) (x : Stage α) : x.take out x.target = (x, false) := by
  simp [Stage.take]

theorem take_at_output {α : Type} [DecidableEq α] (out : α) (x : Stage α) (h : out ≠ x.target) :
    x.take out out = ({ target := out, output := out, ramping := false }, true) := by
  simp [Stage.take, h]

theorem take_ramps {α : Type} [DecidableEq α] (out new : α) (x : Stage α) (h : new ≠ x.target) (ho : new ≠ out) :
    x.take out new = ({ target := new, output := out, ramping := true }, false) := by
  simp [Stage.take, h, ho]

/-! ### The arbiter's choice, the start checks, the MONITOR test (R119, R139, R202) -/

/-- R119: the arbiter's choice is the one of `Arbiter.choice`. -/
theorem Arbiter.choose_eq_choice (a : Arbiter) : a.choose = a.choice := by
  obtain ⟨_, ⟨ws, wc, wb⟩, _, _, _, _, bc, bb, fl⟩ := a
  simp only [Arbiter.choose, Arbiter.choice, Arbiter.eligible, Waiting.has, Arbiter.backoff]
  cases fl <;> cases ws <;> cases wc <;> cases wb <;> cases bc <;> cases bb <;> simp

theorem gap_le (a b n : Nat) : gap a b ≤ n ↔ a ≤ b + n ∧ b ≤ a + n := by
  unfold gap; omega

/-- R139 step 1: a job resolves to the way of `wayAtStart`, but a level TOWARD_LOWER job to none. -/
theorem Job.resolve_eq (x : Sample) (j : Job) :
    j.resolve x = if j.resolved = none ∧ j.direction = .towardLower ∧ x.vA ≤ x.vB + j.tolerance.getD 0
      ∧ x.vB ≤ x.vA + j.tolerance.getD 0 then none else some (j.wayAtStart x) := by
  cases hr : j.resolved with
  | some w => simp [Job.resolve, Job.wayAtStart, hr]
  | none =>
    cases hd : j.direction <;> simp [Job.resolve, Job.wayAtStart, hr, hd, gap_le]
    split
    · rfl
    · split <;> rfl

/-- R139: the start checks end the job with the reason of `endsAtStart`, or let it run the way of `wayAtStart`. -/
theorem Job.startCheck_eq (x : Sample) (j : Job) :
    j.startCheck x = match j.endsAtStart x with
      | none => .inl (j.wayAtStart x)
      | some r => .inr r := by
  unfold Job.startCheck Job.endsAtStart
  rw [Job.resolve_eq]
  by_cases hl : j.resolved = none ∧ j.direction = .towardLower ∧ x.vA ≤ x.vB + j.tolerance.getD 0
      ∧ x.vB ≤ x.vA + j.tolerance.getD 0
  · simp [hl]
  · simp only [if_neg hl]
    have split (p q : Prop) [Decidable p] [Decidable q] (w : Way) :
        (if p then Sum.inr .destFull else if q then Sum.inr .sourceLow else Sum.inl w : Way ⊕ EndReason)
          = match (if p then some .destFull else if q then some .sourceLow else none : Option EndReason) with
            | none => .inl w
            | some r => .inr r := by
      split_ifs <;> rfl
    cases j.wayAtStart x <;> exact split _ _ _

/-- R202: the model's test is the one that `MonitorTested` says. -/
theorem monitorTest_tested (s : State) (h : s.power.supplied = true) : MonitorTested s (monitorTest s) := by
  by_cases hq : s.quiet = true
  · have hm : monitorTest s = { s with power := { s.power with state := .monitor }
                                       seq := { s.seq with nextArrival := s.seq.lastArrival + Config.periodMonitor } } := by
      simp [monitorTest, hq]
    rw [hm]
    simp [State.quiet, h] at hq
    simp [MonitorTested, State.RestsForMonitor, State.port, PerPort.get, hq, Config.periodMonitor]
  · have hm : monitorTest s = s := by simp [monitorTest, hq]
    rw [hm]
    simp [State.quiet, h] at hq
    simp [MonitorTested, State.RestsForMonitor, State.port, PerPort.get]
    intros; simp_all
end Sys2Proof.Machine
end

