-- ==== Sys2Proof/Tests/Slice0.lean ====
section
/-! SUPPORT. Tests: the well-formedness smoke tests, frames written out from the manual's layouts, the manual's worked
figures, one or two small tests per command, and the witnesses of the statements' hypotheses. -/

namespace Sys2Proof.Tests

-- The tests are checked one after another: many kernel evaluations at once take more threads than a checker may have.
set_option Elab.async false

open Sys2Proof Sys2Proof.Machine

/-! ### Well-formedness: each check refuses a term -/

theorem test_wf_byte : (Instr.release .main (Framing.ofLength 1) 256).wf = false := by decide
theorem test_wf_two : (Instr.noticeMask .main (Framing.ofLength 2) 65536).wf = false := by decide
theorem test_wf_four : (Instr.ceilPush .main (Framing.ofLength 4) 4294967296).wf = false := by decide
theorem test_wf_signed : (Instr.stepWrite .main (Framing.ofLength 15) 0
    { kind := 0, current := 0, volt := 0, endCurrent := 0, duration := 0, timeout := 0, cold := -129, hot := 0, next := 0 }).wf
    = false := by decide
theorem test_wf_no_length_byte : (Instr.hold .main { lengthByte := none, carried := 1, stray := [] }).wf = false := by decide
/-- R180: of 31 bytes after the length byte the frame holds 30. -/
theorem test_wf_frame_too_long : (Instr.hold .main { lengthByte := some 31, carried := 31, stray := List.replicate 31 0 }).wf = false
    ∧ (Instr.hold .main { lengthByte := some 31, carried := 30, stray := List.replicate 31 0 }).wf = true := by decide
theorem test_wf_stray_of_fitting : (Instr.hold .main { lengthByte := some 0, carried := 0, stray := [1] }).wf = false := by decide
theorem test_wf_nothing_turned_away : (Instr.frameTurnedAway { port := .main, count := 0 }).wf = false := by decide
theorem test_wf_backoff_supply : (Instr.backoffExpiry .supply).wf = false := by decide
theorem test_wf_known_code : (Instr.unknownRequestFrame .main [0x10]).wf = false := by decide
theorem test_wf_claim : (Instr.claim .main (Framing.ofLength 5) 1 3000 2000).wf = true := by decide

/-! ### Frames (R193, R194): bytes written out from the layouts -/

/-- Chapter 10: CLAIM is code 10h, its payload 5 bytes: class, requested and floor, low byte first. -/
theorem test_claim_frame : encodeFrame (.claim .main (Framing.ofLength 5) 1 3000 2000)
    = some [0x10, 0x05, 0x01, 0xB8, 0x0B, 0xD0, 0x07] := by decide +kernel

theorem test_claim_frame_read : decodeFrame .main 0 [0x10, 0x05, 0x01, 0xB8, 0x0B, 0xD0, 0x07]
    = some (.claim .main (Framing.ofLength 5) 1 3000 2000) := by decide +kernel

/-- A frame that ends after its code has no length byte (R181 step 4). -/
theorem test_short_frame : ((decodeFrame .hub 0 [0x10]).bind requestOf).map (fun x => x.2.2.lengthByte) = some none := by
  decide +kernel

/-! ### The worked figures of chapter 04 -/

def essentialOf (id : Nat) (p : Port) (mw : Nat) : Claim :=
  { id := id, owner := .port p, cls := .essential, requested := mw, floor := 0, grant := 0, standing := .deferred, admission := id }

def electiveOf (id : Nat) (p : Port) (mw floor : Nat) : Claim :=
  { id := id, owner := .port p, cls := .elective, requested := mw, floor := floor, grant := 0, standing := .deferred,
    admission := id }

/-- The snapshot of worked case 1 (4.9). -/
def caseOne : Snapshot :=
  { inputState := .contracted, contract := { voltage := 9000, current := 2000 }, droopLimit := 2000, ceiling := some 15000
    thermal := .none, inputOv := false, dieHot := false, latchedA := false, latchedB := false, isolatedA := false
    isolatedB := false, linkFault := false
    claims := [essentialOf 0 .main 4000, essentialOf 1 .hub 1500, electiveOf 2 .main 3000 2000, electiveOf 3 .hub 1000 500,
      electiveOf 4 .input 6000 6000]
    demandA := 2000, demandB := 1500, holder := some .chargeB, holdOff := true, vA := 3900, vB := 3800 }

def noSupply : Publication := { Publication.zero with count := 1 }

theorem test_case_one : caseOne.figures 1 = { noSupply with
    pConv := 16523, pBud := 15000, limit := .ceiling, essential := 5500, elective := 4000, pChg := 5500, gA := 2176, gB := 3324
    cA := 550, cB := 830 } := by decide +kernel

theorem test_case_one_grants : caseOne.grants.map (fun g => (g.grant, g.standing))
    = [(4000, .granted), (1500, .granted), (3000, .granted), (1000, .granted), (0, .deferred)] := by decide +kernel

def caseTwo : Snapshot := { caseOne with inputState := .detached, ceiling := none, claims := caseOne.claims.take 2 }

theorem test_case_two : caseTwo.figures 1 = { noSupply with
    essential := 5500, deficit := 5500, sA := 3055, sB := 2445, supply := true } := by decide +kernel

/-- Case 4 gives P_bud as 6600; here a ceiling does. -/
def caseFour : Snapshot := { caseOne with ceiling := some 6600, claims := [essentialOf 0 .main 5700], vA := 4000, vB := 3700 }

theorem test_case_four : caseFour.figures 1 = { noSupply with
    pConv := 16523, pBud := 6600, limit := .ceiling, essential := 5700, pChg := 900, gB := 900, cB := 230, starvedA := true }
    := by decide +kernel

def caseFive : Snapshot :=
  { caseOne with inputState := .released, ceiling := none, claims := [essentialOf 0 .main 12000], vA := 2750, vB := 3450, isolatedA := true }

theorem test_case_five : caseFive.figures 1 = { noSupply with
    essential := 12000, deficit := 12000, sB := 9905, shortfall := 2095, supply := true } := by decide +kernel

/-! ### Small states -/

/-- What a command leaves. -/
def run (i : Instr) (s : State) : State :=
  match exec i s with
  | .next t => t
  | .fault _ => s
  | .refused _ => s

/-- Cells at rest, nothing flowing. -/
def calm : Sample :=
  { vA := 3900, vB := 3800, iA := 0, iB := 0, tA := 250, tB := 250, vIn := 5000, tDie := 40, linkCurrent := 0, linkCharge := 0 }

def measured : RawSample :=
  { vA := 3900, vB := 3800, iA := 0, iB := 0, tA := 250, tB := 250, vIn := 5000, tDie := 40, linkCurrent := 0, linkCharge := 0 }

/-- Past LOADING on an adapter, both channels IDLE, the factory image loaded, the input stage settled at 500 mA. -/
def ready : State :=
  { State.reset with
    now := 1000
    power := { State.reset.power with phase := .running, copied := true }
    present := true
    input := InputCtl.atReset true
    inputStage := { target := 500, output := 500, ramping := false }
    profile := loadProfile Otp.factory.profile
    seq := { running := true, lastArrival := 900, prevArrival := 800, nextArrival := 1000, latest := some calm, charge := 0 } }

/-- The same part without an adapter. -/
def adrift : State := { ready with present := false, input := InputCtl.atReset false, inputStage := Stage.off 0 }

/-- The same part in LOADING. -/
def loading : State := { ready with power := { ready.power with phase := .loading, copied := false } }

def withLink (l : LinkState) (s : State) : State := { s with arb := { s.arb with link := l }, hold := { s.hold with view := l } }

/-- One job of the main port, RUNNING from A to B at 1000 mA with the link in its hand since 900 ms. -/
def runningJob : Job :=
  { tag := 7, originator := .main, direction := .aToB, mode := .count, count := 20, rate := 1000, tolerance := none
    resolved := some .aToB, moved := 2, residue := 480, state := .running, heldSince := some 900, runs := [] }

def balancing : State :=
  { withLink (.held .balance) ready with
    bal := { queue := [runningJob], tagCounter := 8, last := PerPort.all none, dieHot := false }
    linkStage := { target := { dir := .aToB, mag := 1000 }, output := { dir := .aToB, mag := 1000 }, ramping := false } }

/-- Channel A ACTIVE in the CURRENT step of the factory image, presenting 1000 mA. -/
def charging : State :=
  { ready with
    chA := { Channel.atReset with state := .active, slot := some 1, published := 1000, presented := 1000, stale := false }
    pathA := { ready.pathA with stage := { target := 1000, output := 1000, ramping := false } } }

def frame (n : Nat) : Framing := Framing.ofLength n

def handed (p : Port) (s : State) : Option Reply := (s.port p).handed

/-! ### Commands: requests -/

theorem test_unknown_code : handed .hub (run (.unknownRequestFrame .hub [0xFF, 1, 2]) ready) = some { code := .unknown, payload := [] }
    := by decide +kernel

theorem test_busy_port_turns_away :
    ((run (.frameTurnedAway { port := .main, count := 2 }) (run (.hold .main (frame 0)) ready)).port .main).acks = [true, false, false] := by
  decide +kernel

/-- R180: of 40 bytes written the port acknowledges 32, beside its address, and the slot holds these. -/
theorem test_long_frame :
    let q := (run (.unknownRequestFrame .hub (0xFF :: List.replicate 39 5)) ready).port .hub
    q.slot = some (0xFF :: List.replicate 31 5) ∧ q.acks = List.replicate 33 true ++ List.replicate 8 false := by decide +kernel

/-- R183: PENDING while the port is busy; R179: no port answers at another address. -/
theorem test_read : let s := run (.hold .main (frame 0)) ready
    s.readFrame .main 0x4B = some [0x01, 0x00] ∧ s.readFrame .main 0x4A = none
    ∧ (run (.replyPlaced .main) s).readFrame .main 0x4B = some [0x00, 0x02, 0x00, 0x01] := by decide +kernel

theorem test_reply_placed : (run (.replyPlaced .main) (run (.hold .main (frame 0)) ready)).port .main
    = { PortState.atReset with reply := { code := .ok, payload := [0, 1] }, dormancy := some 11000, acks := [true, true, true] } := by decide +kernel

theorem test_bad_length : handed .main (run (.hold .main { lengthByte := some 1, carried := 1, stray := [9] }) ready) = some { code := .badLength, payload := [] } := by
  decide +kernel

theorem test_status_read :
    (handed .input (run (.statusRead .input (frame 0)) ready)).map (fun r => ((r.payload.drop 6).take 4).map BitVec.toNat)
    = some [60, 15, 216, 14] := by decide +kernel

theorem test_notice_read : (run (.noticeRead .main (frame 0)) { ready with ports := noting 12 [.main] ready.ports }).ports.main.handed
    = some { code := .ok, payload := [0x00, 0x10] } := by decide +kernel

theorem test_notice_mask : ((run (.noticeMask .main (frame 2) 0xFFFF) ready).port .main).mask = 0x1FFF#13 := by decide +kernel

theorem test_port_reset : (run (.portReset .main (frame 0) 0) balancing).bal
    = { queue := [], tagCounter := 8, last := PerPort.set (PerPort.all none) .main (some { tag := 7, reason := .reset, moved := 2 }), dieHot := false }
    := by decide +kernel

/-- 2.3: the main port's first essential claim takes the start-up claim's place. -/
theorem test_claim_replaces_start_up :
    ((run (.claim .main (frame 5) 0 4000 0) ready).table.claims.map (fun c => (c.id, c.requested, c.owner)))
    = [(0, 4000, .port .main)] := by decide +kernel

theorem test_claim_over_cap : handed .hub (run (.claim .hub (frame 5) 0 9501 0) ready) = some { code := .overCap, payload := [] }
    := by decide +kernel

def claimed : State := { ready with table := { claims := caseOne.claims, nextAdmission := 5 } }

/-- R27: a raised amount makes the claim the youngest. -/
theorem test_amend_moves : (run (.amend .main (frame 5) 2 3500 2000) claimed).table.claims.map Claim.id = [0, 1, 3, 4, 2] := by
  decide +kernel

theorem test_release : (run (.release .hub (frame 1) 1) claimed).table.claims.map Claim.id = [0, 2, 3, 4] := by decide +kernel

theorem test_release_not_owner : handed .input (run (.release .input (frame 1) 1) claimed)
    = some { code := .notOwner, payload := [] } := by decide +kernel

theorem test_claim_read : handed .input (run (.claimRead .input (frame 1) 2) claimed)
    = some { code := .ok, payload := [2, 1, 1, 0xB8, 0x0B, 0xD0, 0x07, 2, 0, 0, 2] } := by decide +kernel

def stacked : State := { ready with ceilings := [{ owner := .input, limit := 20000 }, { owner := .hub, limit := 15000 }] }

theorem test_ceil_push : handed .main (run (.ceilPush .main (frame 4) 18000) stacked)
    = some { code := .ok, payload := [0x50, 0x46, 0, 0, 3, 0x98, 0x3A, 0, 0] } := by decide +kernel

theorem test_ceil_pop : (run (.ceilPop .hub (frame 0)) stacked).ceilings = [{ owner := .input, limit := 20000 }] := by decide +kernel

/-- R154: the first HOLD receives effective = no and one holder. -/
theorem test_hold : handed .hub (run (.hold .hub (frame 0)) ready) = some { code := .ok, payload := [0, 1] } := by decide +kernel

def held : State := run (.replyPlaced .hub) (run (.hold .hub (frame 0)) ready)

theorem test_hold_entry_check : (run (.holdEntryCheck .hub) held).hold.state = .effective
    ∧ ((run (.holdEntryCheck .hub) held).holder .hub).expiry = some 3000 := by decide +kernel

theorem test_unhold : (run (.unhold .hub (frame 0) 0) held).hold.state = .off := by decide +kernel

theorem test_hold_expiry : (run (.holdExpiry .hub 0) (run (.holdEntryCheck .hub) held)).hold.state = .off
    ∧ Noticed (run (.holdExpiry .hub 0) (run (.holdEntryCheck .hub) held)) .hub .holdExpired := by
  unfold Noticed; decide +kernel

/-- 5.10: at 3900 mV the factory chain passes PRECHARGE and enters CURRENT. -/
theorem test_ch_start : (run (.chStart .main (frame 2) 0 0) ready).chA.slot = some 1 := by decide +kernel

theorem test_ch_stop : handed .main (run (.chStop .main (frame 1) 0) charging) = some { code := .ok, payload := [1] } := by
  decide +kernel

/-- R111: a current of 4567 mA is recorded as 4000, a volt of 5000 as 4450. -/
theorem test_step_write : (run (.stepWrite .main (frame 15) 9
    { kind := 1, current := 4567, volt := 5000, endCurrent := 9, duration := 9, timeout := 9, cold := 0, hot := 45, next := 2 })
    ready).profile[9]? = some
    { kind := .current, current := 4000, volt := 4450, endCurrent := 0, duration := 0, timeout := 9, cold := 0, hot := 45, next := 2 }
    := by decide +kernel

theorem test_step_read : handed .hub (run (.stepRead .hub (frame 1) 3) ready)
    = some { code := .ok, payload := [4, 0, 0, 0xCC, 0x10, 0, 0, 0xA0, 0x05, 0, 0, 0, 45, 1] } := by decide +kernel

/-- 7.8: TOWARD_LOWER with V_A 3960 and V_B 3870 resolves to A_TO_B and runs. -/
theorem test_bal_queue :
    (run (.balQueue .hub (frame 7) 2 1 20 1800 30)
      { ready with bal := { ready.bal with tagCounter := 12 }
                   seq := { ready.seq with latest := some { calm with vA := 3960, vB := 3870 } } }).bal.queue.map
      (fun j => (j.tag, j.resolved, j.state)) = [(12, some .aToB, .running)] := by decide +kernel

theorem test_bal_cancel : handed .main (run (.balCancel .main (frame 1) 7) balancing)
    = some { code := .ok, payload := [7, 1, 2, 0] } := by decide +kernel

theorem test_contract_set : (run (.contractSet .input (frame 4) 9000 2000) ready).inputStage.target = 2000 := by decide +kernel

theorem test_contract_from_main : handed .main (run (.contractSet .main (frame 4) 9000 2000) ready)
    = some { code := .notPermitted, payload := [] } := by decide +kernel

theorem test_input_release : (run (.inputRelease .main (frame 0)) ready).input.state = .releasing := by decide +kernel

def releasing : State := run (.replyPlaced .main) (run (.inputRelease .main (frame 0)) ready)

theorem test_input_stage_settled : (run .inputStageSettled releasing).input.state = .released
    ∧ Noticed (run .inputStageSettled releasing) .main .inputReleased := by unfold Noticed; decide +kernel

theorem test_input_resume : (run (.inputResume .main (frame 0)) releasing).input.state = .dflt := by decide +kernel

def hotB : State := { ready with
  prot := { ready.prot with cellB := { ov := false, hot := true, uv := false }, first := some (.cellHot, .cellB) } }

theorem test_fault_clear : handed .main (run (.faultClear .main (frame 1) 1) hotB) = some { code := .ok, payload := [2, 0] } := by
  decide +kernel

theorem test_ship_enter : (run (.shipEnter .main (frame 0)) adrift).power.state = .ship := by decide +kernel
theorem test_ship_enter_refused : handed .main (run (.shipEnter .main (frame 0)) ready) = some { code := .refused, payload := [] }
    := by decide +kernel

theorem test_device_reset : (run (.deviceReset .main (frame 0)) claimed).table.claims = [startUpClaim] := by decide +kernel

/-! ### Commands: lines, power, timers, stages, passes -/

theorem test_power_on_reset : (run (.powerOnReset true) ready).power.phase = .loading
    ∧ (run (.powerOnReset true) ready).seq.nextArrival = 1100 := by decide +kernel

/-- 11.7: the copy completes, and the first sample ends LOADING with both channels started. -/
def booted : State := run (.sampleArrival { measured with vA := 2600, vB := 2900, vIn := 5000 } 0)
  (run .copyComplete (run (.powerOnReset true) State.reset))

theorem test_boot : (booted.power.phase, booted.chA.slot, booted.chB.slot, booted.arb.link, booted.inputStage.target, booted.prot.cellA.uv)
    = (.running, some 0, some 0, .held .chargeB, 500, true) := by decide +kernel

/-- 11.7: the first pass, a deficit of 206 mW against 2294, all of it from cell B. -/
theorem test_publication : ((run (.publication 0) booted).alloc.record.pConv, (run (.publication 0) booted).alloc.record.deficit,
    (run (.publication 0) booted).alloc.record.sB, (run (.publication 0) booted).chB.request) = (2294, 206, 206, false) := by
  decide +kernel

theorem test_rstn_assert : (run .rstnAssert ready).power.phase = .loading := by decide +kernel
theorem test_rstn_holds_loading : (run .copyComplete (run .rstnAssert ready)).power.phase = .loading := by decide +kernel
theorem test_rstn_release : (run .rstnRelease (run .copyComplete (run .rstnAssert ready))).power.phase = .running := by decide +kernel
theorem test_attach : (run (.attach true) adrift).inputStage.target = 500 := by decide +kernel
/-- R4: a ramp to zero that VBUS leaves under way is cut, and the next attach ramps from zero. -/
theorem test_attach_from_zero : (run (.attach true) (run .detach
    { ready with inputStage := { target := 0, output := 900, ramping := true } })).inputStage
    = { target := 500, output := 0, ramping := true } := by decide +kernel

/-- R7: the bridge is V_A × 6 mW. -/
theorem test_detach : (run .detach ready).pathA.supply = 23400 := by decide +kernel
theorem test_wake : (run (.wakePress false) (run (.shipEnter .main (frame 0)) adrift)).power.phase = .loading := by decide +kernel
theorem test_supply_loss : (run (.hold .main (frame 0)) (run .ownSupplyLoss ready)).hold.state = .off := by decide +kernel

/-- R51: a droop under the default contract, 500 mA to 450. -/
theorem test_droop : (run (.sampleArrival { measured with vIn := 4499 } 0) ready).input.droopLimit = 450 := by decide +kernel

/-- R52: a tenth of the contract current back. -/
theorem test_recovery : (run .recoveryTimerExpiry
    { ready with input := { ready.input with droopLimit := 400, recovery := some 31000 } }).input.droopLimit = 450 := by decide +kernel

def drowsy : State := claimed.setPort .main { claimed.port .main with dormancy := some 11000 }

theorem test_dormancy : ((run (.dormancyExpiry .main) drowsy).table.claims.map Claim.standing)
    = [.deferred, .deferred, .suspended, .deferred, .deferred] := by decide +kernel

/-- 6.9: the tenure of BALANCE expires with CHARGE_B waiting. -/
theorem test_tenure : (run .tenureExpiry { balancing with arb := { balancing.arb with
    tenure := some 3000, waiting := { supply := false, chargeB := true, balance := false } } }).arb.yieldPending = true := by
  decide +kernel

/-- 6.10: a requester that has waited out its backoff alone is granted. -/
theorem test_backoff : (run (.backoffExpiry .chargeB) { ready with arb := { ready.arb with
    backoffChargeB := some 1100, waiting := { supply := false, chargeB := true, balance := false } } }).arb.link = .held .chargeB := by
  decide +kernel

def asleep : State :=
  { adrift with ports := PerPort.all { PortState.atReset with dormant := true }
                power := { adrift.power with holdOff := some 11000 } }

theorem test_monitor_hold_off : (run .monitorHoldOffExpiry asleep).power.state = .monitor
    ∧ (run .monitorHoldOffExpiry asleep).seq.nextArrival = 2900 := by decide +kernel

/-- R101, R103: 180 minutes of 600 samples. -/
def overdue : State := { charging with chA := { charging.chA with timer := 108001 } }

theorem test_step_timeout : (run (.stepTimeout .a) overdue).chA.code = .stepTimeout := by decide +kernel

theorem test_step_duration_end : (run (.stepDurationEnd .a)
    { charging with chA := { charging.chA with slot := some 3, timer := 864000 } }).chA.slot = some 1 := by decide +kernel

theorem test_cell_a_path_settled : (run .cellAPathSettled { held with pathA := { held.pathA with
    stage := { target := 0, output := 1000, ramping := true } } }).hold.state = .effective := by decide +kernel

def changing : State := { withLink .changeover ready with
  arb := { ready.arb with link := .changeover, waiting := { supply := true, chargeB := true, balance := false } }
  linkStage := { target := Flow.zero, output := { dir := .aToB, mag := 1000 }, ramping := true } }

theorem test_hinge_link_settled : (run (.hingeLinkSettled false) changing).arb.link = .held .supply := by decide +kernel

theorem test_input_ov : (run .inputOvReport { ready with input := { ready.input with reports := [true] } }).prot.first
    = some (.inputOv, .device) := by decide +kernel

/-- 7.8: a sample that completes a quantum; 480 + 28 µAh over 100 ms at 1000 mA. -/
theorem test_quantum : (run (.sampleArrival { measured with linkCharge := 28 } 0) balancing).bal.queue.map
    (fun j => (j.moved, j.residue)) = [(3, 8)] := by decide +kernel

/-- R142: granted at 150, lost at 160: of the interval from 100 to 200, the 10 ms of the run and the 40 of its tail count. -/
theorem test_counted_time : ({ runningJob with heldSince := some 150 }.stops 160 .queued).countedTime 100 200 = 50 := by
  decide +kernel

/-- R71, R172: the pass that a channel's report of DIE_HOT starts reads the thermal state ZERO: its budget is 0. -/
theorem test_die_hot_pass : ((run (.sampleArrival { measured with tDie := 125 } 0) charging).alloc.pass.map
    fun x => (x.dieHot, x.thermal, x.pBud)) = some (true, .zero, 0) := by decide +kernel

/-- R199: what the copy loads is what STEP_WRITE records, or END. -/
theorem test_copy_records : ∀ r ∈ Otp.factory.profile.take 5 ++ [{ rawEnd with kind := 6 }, { rawEnd with kind := 1, volt := 4000, hot := 1 }],
    recordedStep r = judgeStep r := by decide +kernel

theorem test_step_takes_front : step { ready with pending := [.detach] } = exec .detach ready := rfl

theorem test_idle : step State.reset = .next { State.reset with now := 1 } := rfl

/-! ### Witnesses: for each statement with hypotheses, states and operands that meet them, clause by clause -/

/-- The state in which the block that owns a request takes it, with port and request named. -/
abbrev taken (p : Port) (i : Instr) (s : State) : State := handedOver p i s

def allDormant (s : State) : State := { s with ports := PerPort.all { PortState.atReset with dormant := true } }

def seventh : List Ceiling := List.replicate 7 { owner := .main, limit := 100000 }

theorem witness_FrameRoundTrip :
    (requestOf (.claim .hub (frame 5) 255 65535 65535) = some (.hub, .claim, Framing.ofLength (Request.length .claim))
      ∧ (Instr.claim .hub (frame 5) 255 65535 65535).wf = true)
    ∧ (requestOf (.unhold .main (frame 0) 5) = some (.main, .unhold, Framing.ofLength (Request.length .unhold))
      ∧ (Instr.unhold .main (frame 0) 5).wf = true)
    ∧ (∀ r : Request, r.code ≠ (0xFF : Byte).toNat)
    ∧ (decodeFrame .main 0 [0x30, 0x05, 1, 2]).map writtenBytes = some [0x30, 0x05, 1, 2]
    ∧ decodeWrite .main 0 0x4A [0x30, 0x00] = none ∧ decodeWrite .main 0 0x4B [0x30, 0x00] ≠ none :=
  ⟨⟨rfl, by decide⟩, ⟨rfl, by decide⟩, fun r => by cases r <;> decide, by decide +kernel, by decide +kernel, by decide +kernel⟩

theorem witness_FramesTurnedAway :
    let s := run (.hold .main (frame 0)) ready
    (s.operating = true ∧ (s.port .main).busy = true ∧ IsFrame (.hold .main (frame 0)) .main)
    ∧ loading.operating = true ∧ (loading.port .hub).busy = false ∧ loading.power.phase = .loading
      ∧ IsFrame (.unknownRequestFrame .hub [0]) .hub ∧ 0 < (writtenBytes (.hold .main (frame 0))).length
      ∧ (writtenBytes (.unknownRequestFrame .hub [0])).length = 1 ∧ (run .ownSupplyLoss ready).operating = false :=
  ⟨⟨by decide +kernel, by decide +kernel, .inl ⟨_, _, rfl⟩⟩, by decide +kernel, by decide +kernel, by decide +kernel,
    .inr ⟨_, rfl⟩, by decide +kernel, by decide +kernel, by decide +kernel⟩

theorem witness_UnknownCodeWakes : Hands ready .main ∧ Hands (allDormant adrift) .input
    ∧ ((allDormant adrift).port .input).dormant = true := by decide +kernel

theorem witness_MisframedAnswered : Hands ready .main ∧ Hands ready .input
    ∧ requestOf (.hold .main { lengthByte := none, carried := 0, stray := [] })
      = some (.main, .hold, { lengthByte := none, carried := 0, stray := [] })
    ∧ requestOf (.contractSet .main (frame 4) 5000 0) = some (.main, .contractSet, frame 4)
    ∧ requestOf (.chStart .input (frame 2) 0 0) = some (.input, .chStart, frame 2)
    ∧ (frame 4).lengthByte = some (Request.length .contractSet) ∧ (frame 2).carried = Request.length .chStart := by decide +kernel

theorem ready_bounded : ready.table.Bounded :=
  ⟨by decide, by decide, by decide, fun p => by cases p <;> decide, by decide⟩

theorem witness_RequestsKeepOtherPorts : ready.table.Bounded ∧ IsFrame (.portReset .main (frame 0) 0) .main
    ∧ (∃ t, exec (.portReset .main (frame 0) 0) ready = .next t) ∧ Port.hub ≠ .main
    ∧ ∀ fr, Instr.portReset .main (frame 0) 0 ≠ .deviceReset .main fr ∧ Instr.portReset .main (frame 0) 0 ≠ .shipEnter .main fr :=
  ⟨ready_bounded, .inl ⟨_, _, rfl⟩, ⟨_, rfl⟩, by decide, fun _ => ⟨nofun, nofun⟩⟩

theorem witness_StatusReadReports : Hands ready .input ∧ Hands { ready with power := { ready.power with state := .monitor } } .main := by
  decide +kernel

theorem witness_NoticesReadAndMasked : Hands ready .main ∧ Hands ready .input
    ∧ loading.power.supplied = true ∧ (run (.hold .main (frame 0)) ready).power.supplied = true
    ∧ { loading with ports := noting 11 [.main] loading.ports }.attention .main = true
    ∧ (run .ownSupplyLoss ready).power.supplied = false := by decide +kernel

theorem witness_PortResetClears : Hands balancing .main ∧ Hands held .hub ∧ (held.holder .hub).joined = true
    ∧ (held.holder .main).joined = false ∧ (held.holder .input).joined = false
    ∧ ((taken .main (.portReset .main (frame 0) 0) balancing).holder .main).joined = false
    ∧ (taken .main (.portReset .main (frame 0) 0) balancing).bal.queue.head? = some runningJob
    ∧ Hands balancing .hub ∧ (taken .hub (.portReset .hub (frame 0) 0) balancing).bal.queue.head?.map Job.originator = some .main
    := by decide +kernel

theorem witness_ReplyPlaced : (run (.hold .main (frame 0)) ready).operating = true
    ∧ handed .main (run (.hold .main (frame 0)) ready) = some { code := .ok, payload := [0, 1] }
    ∧ ((run (.hold .main (frame 0)) ready).port .main).busy = true ∧ (run .ownSupplyLoss ready).operating = false := by decide +kernel

/-- The start-up claim's 2500 mW and 9500 more make 12000 exactly; an elective claim with a floor of 1. -/
theorem witness_ClaimAdmitted : Hands ready .hub ∧ classOf 0 = some .essential ∧ classOf 1 = some .elective
    ∧ (taken .hub (.claim .hub (frame 5) 0 9500 0) ready).table.claims.length < 16
    ∧ essentialTotal (taken .hub (.claim .hub (frame 5) 0 9500 0) ready).table.claims + min 9500 30000 = 12000
    ∧ (taken .hub (.claim .hub (frame 5) 1 1 1) ready).table.claims.length < 16 := by decide +kernel

def crowded : State := { ready with table := { claims := (List.range 8).map (fun n => electiveOf n .hub 10 1), nextAdmission := 8 } }

theorem witness_ClaimRefused : Hands crowded .hub ∧ Hands ready .hub
    ∧ 8 ≤ ((taken .hub (.claim .hub (frame 5) 1 1 1) crowded).table.claims.filter (fun c => c.owner == .port .hub)).length
    ∧ 12000 < essentialTotal (taken .hub (.claim .hub (frame 5) 0 9501 0) ready).table.claims + min 9501 30000
    ∧ ¬(16 ≤ (taken .hub (.claim .hub (frame 5) 0 9501 0) ready).table.claims.length) := by decide +kernel

/-- Amounts that stay, that rise, and an essential amount of exactly the cap. -/
theorem witness_AmendAccepted :
    let u := taken .main (.amend .main (frame 5) 2 3000 2000) claimed
    Hands claimed .main ∧ (u.table.claims.map Claim.id).Nodup
    ∧ u.table.claims.find? (fun d => d.id == 2) = some (electiveOf 2 .main 3000 2000)
    ∧ (3000 ≤ (electiveOf 2 .main 3000 2000).requested ∧ (electiveOf 2 .main 3000 2000).requested < 3001)
    ∧ u.table.claims.find? (fun d => d.id == 0) = some (essentialOf 0 .main 4000)
    ∧ essentialTotal u.table.claims - 4000 + 10500 = 12000 := by decide +kernel

theorem witness_ReleaseFrees : Hands claimed .hub ∧ Hands ready .hub
    ∧ (taken .hub (.release .hub (frame 1) 1) claimed).table.claims.find? (fun d => d.id == 1) = some (essentialOf 1 .hub 1500)
    ∧ (taken .hub (.release .hub (frame 1) 0) ready).table.claims.find? (fun d => d.id == 0) = some startUpClaim := by
  decide +kernel

theorem witness_ClaimTableRefuses :
    let u := taken .main (.amend .main (frame 5) 15 0 0) claimed
    Hands claimed .main ∧ Hands ready .input ∧ u.table.claims.find? (fun d => d.id == 15) = none
    ∧ u.table.claims.find? (fun d => d.id == 1) = some (essentialOf 1 .hub 1500)
    ∧ u.table.claims.find? (fun d => d.id == 2) = some (electiveOf 2 .main 3000 2000)
    ∧ u.table.claims.find? (fun d => d.id == 0) = some (essentialOf 0 .main 4000)
    ∧ 12000 < essentialTotal u.table.claims - 4000 + min 10501 30000
    ∧ (taken .input (.release .input (frame 1) 0) ready).table.claims.find? (fun d => d.id == 0) = some startUpClaim := by
  decide +kernel

theorem witness_ClaimReadReturns : Hands claimed .input
    ∧ (taken .input (.claimRead .input (frame 1) 15) claimed).table.claims.find? (fun d => d.id == 15) = none
    ∧ (taken .input (.claimRead .input (frame 1) 0) claimed).table.claims.find? (fun d => d.id == 0)
      = some (essentialOf 0 .main 4000) := by decide +kernel

theorem witness_DormancySuspends : drowsy.operating = true ∧ drowsy.power.phase = .running
    ∧ (drowsy.port .main).dormancy = some 11000
    ∧ ((allDormant adrift).setPort .hub { PortState.atReset with dormancy := some 2000 }).operating = true := by decide +kernel

theorem witness_CeilingPushed : Hands { ready with ceilings := seventh } .main
    ∧ (taken .main (.ceilPush .main (frame 4) 100001) { ready with ceilings := seventh }).ceilings.length = 7
    ∧ (taken .main (.ceilPush .main (frame 4) 0) { ready with ceilings := seventh ++ [{ owner := .hub, limit := 0 }] }).ceilings.length = 8
    := by decide +kernel

theorem witness_CeilingPopped : Hands stacked .hub ∧ Hands stacked .main
    ∧ (taken .hub (.ceilPop .hub (frame 0)) stacked).ceilings
      = [{ owner := .input, limit := 20000 }] ++ { owner := .hub, limit := 15000 } :: []
    ∧ ∀ x ∈ (taken .main (.ceilPop .main (frame 0)) stacked).ceilings, x.owner ≠ .main := by decide +kernel

theorem witness_ContractTaken : Hands ready .input ∧ Hands adrift .input ∧ Hands releasing .input
    ∧ (taken .input (.contractSet .input (frame 4) 5000 5000) ready).input.state = .dflt
    ∧ (taken .input (.contractSet .input (frame 4) 20000 0) adrift).input.state = .detached
    ∧ (taken .input (.contractSet .input (frame 4) 20000 0) releasing).input.state = .releasing := by decide +kernel

def contracted : State := run (.contractSet .input (frame 4) 9000 2000) ready

theorem witness_InputReleasedAndResumed : Hands ready .main ∧ Hands adrift .hub ∧ Hands releasing .main
    ∧ (taken .hub (.inputRelease .hub (frame 0)) adrift).input.state = .detached
    ∧ (taken .main (.inputRelease .main (frame 0)) ready).input.state = .dflt
    ∧ (taken .main (.inputResume .main (frame 0)) releasing).input.state = .releasing
    ∧ releasing.inputStage.ramping = true ∧ releasing.inputStage.target = 0 ∧ releasing.power.phase = .running
    ∧ contracted.inputStage.ramping = true ∧ contracted.input.state = .contracted := by decide +kernel

def recovering (limit : Nat) : State := { ready with input := { ready.input with droopLimit := limit, recovery := some 31000 } }

theorem witness_RecoveryRaisesLimit : (recovering 450).operating = true ∧ (recovering 450).power.phase = .running
    ∧ (recovering 450).input.recovery = some 31000 ∧ min 500 (450 + 500 / 10 / 10 * 10) ≠ (recovering 450).input.droopLimit
    ∧ min 500 (500 + 500 / 10 / 10 * 10) = (recovering 500).input.droopLimit := by decide +kernel

theorem witness_AttachTaken : adrift.operating = true ∧ adrift.present = false ∧ adrift.power.phase = .running
    ∧ { loading with present := false }.operating = true ∧ { loading with present := false }.power.phase = .loading
    ∧ (withLink (.held .chargeB) adrift).arb.link = .held .chargeB := by decide +kernel

theorem witness_DetachTaken : contracted.operating = true ∧ contracted.present = true ∧ contracted.input.held.isSome = true
    ∧ contracted.power.phase = .running ∧ (withLink (.held .chargeB) ready).arb.link = .held .chargeB
    ∧ (run .detach (allDormant ready)).RestsForMonitor ∧ (allDormant ready).power.state = .active
    ∧ (run .detach (allDormant ready)).power.state = .monitor ∧ (run .detach ready).power.state = .active := by decide +kernel

theorem witness_SampleRecorded : ready.operating = true ∧ ready.seq.running = true ∧ ready.power.phase = .running
    ∧ loading.operating = true ∧ loading.seq.running = true
    ∧ (let s := allDormant { withLink (.held .balance) adrift with
         bal := { balancing.bal with queue := [{ runningJob with count := 3 }] }, linkStage := balancing.linkStage }
       let t := run (.sampleArrival { measured with linkCharge := 28 } 0) s
       s.power.state = .active ∧ ¬s.RestsForMonitor ∧ t.RestsForMonitor ∧ t.power.state = .monitor
         ∧ t.seq.nextArrival = 3000) := by decide +kernel

/-- A part under the bridge of a reset, isolated. -/
def bridged : State := { loading with
  pathA := { loading.pathA with supply := 15600, bridge := true }
  prot := { ready.prot with cellA := { CellFaults.none with uv := true } } }

/-- R6, R171: an isolated cell A gives nothing, and nothing either from the clear to the next publication. -/
theorem test_uv_clear : (bridged.allowanceA, (run (.sampleArrival { measured with vA := 2999 } 0) bridged).pathA,
      (run (.sampleArrival { measured with vA := 3000 } 0) bridged).prot.cellA.uv,
      (run (.sampleArrival { measured with vA := 3000 } 0) bridged).allowanceA)
    = (0, bridged.pathA, false, 0) := by decide +kernel

theorem witness_SampleJudgesFaults : ready.operating = true ∧ ready.seq.running = true
    ∧ (run (.sampleArrival { measured with vA := 4500 } 0) ready).prot.cellA.ov = true ∧ ready.prot.cellA.ov = false := by
  decide +kernel

theorem linkUsersSound_of {s : State} (b : s.bal.Sound) (h : s.hold.Sound
    ∧ (∀ r ∈ [Requester.supply, .chargeB, .balance], s.arb.link = .held r → s.arb.waiting.has r = false)
    ∧ (s.arb.waiting.supply = true → s.arb.link = .free ∨ s.arb.link = .changeover) ∧ s.RequestsSound ∧ s.HoldSound) :
    s.LinkUsersSound :=
  ⟨b, h.1, ⟨fun r => h.2.1 r (by cases r <;> simp), h.2.2.1⟩, h.2.2.2⟩

def dieHot (s : State) : State :=
  { s with prot := { s.prot with device := { dieHot := true, inputOv := false, linkFault := false }, thermal := .zero }
           bal := { s.bal with dieHot := true } }

theorem witness_FaultsStopTheirBlocks : balancing.operating = true ∧ balancing.seq.running = true
    ∧ balancing.power.phase = .running ∧ balancing.prot.cellB.hot = false ∧ balancing.prot.device.linkFault = false
    ∧ (run (.sampleArrival { measured with tB := 650 } 0) balancing).prot.cellB.hot = true
    ∧ (let t := run (.sampleArrival { measured with linkCurrent := 3301 } 0) balancing
       t.prot.device.linkFault = true ∧ t.prot.device.dieHot = false ∧ t.prot.cellA = balancing.prot.cellA
         ∧ t.prot.cellB = balancing.prot.cellB)
    ∧ balancing.bal.queue.head? = some runningJob ∧ balancing.arb.link = .held .balance
    ∧ balancing.arb.yieldPending = false ∧ balancing.chB.state ≠ .active
    ∧ charging.prot.device.dieHot = false
    ∧ (let t := run (.sampleArrival { measured with tDie := 125 } 0) charging
       t.prot.device.dieHot = true ∧ t.chA.state = .active)
    ∧ (run (.sampleArrival { measured with tDie := 125 } 0) balancing).bal.queue.head?.map Job.state = some .suspended
    ∧ (run (.sampleArrival { measured with tDie := 109 } 0) (dieHot charging)).prot.device.dieHot = false
    ∧ (dieHot charging).hold.state = .off ∧ (dieHot charging).operating = true ∧ balancing.bal.Sound := by
  unfold Balance.Sound Job.Sound Job.Fresh; decide +kernel

def second : Job := { runningJob with tag := 8, originator := .hub, state := .queued, resolved := none, moved := 0, residue := 0, heldSince := none }

/-- Two jobs under DIE_HOT, with the link FREE. -/
def paused : State :=
  dieHot { ready with bal := { balancing.bal with queue := [{ runningJob with state := .suspended, heldSince := none }, second] } }

/-- R138, R148: the sample that latches CELL_HOT also clears DIE_HOT, which the engine is told of only after the cell fault. -/
theorem test_fault_before_release :
    let t := run (.sampleArrival { measured with tB := 650, tDie := 109 } 0) paused
    (t.bal.queue, t.bal.dieHot, t.bal.last.main, t.bal.last.hub)
      = ([], false, some { tag := 7, reason := .fault, moved := 2 }, some { tag := 8, reason := .fault, moved := 0 }) := by
  decide +kernel

theorem witness_FaultsStopTheirBlocks_paused : paused.operating = true ∧ paused.seq.running = true
    ∧ paused.power.phase = .running ∧ paused.LinkUsersSound ∧ paused.bal.queue.head?.map Job.state = some .suspended
    ∧ (run (.sampleArrival { measured with tB := 650, tDie := 109 } 0) paused).prot.cellB.hot = true ∧ paused.prot.cellB.hot = false
    ∧ (run (.sampleArrival { measured with tB := 650, tDie := 109 } 0) paused).prot.device.dieHot = false :=
  ⟨by decide +kernel, by decide +kernel, by decide +kernel,
    linkUsersSound_of (by unfold Balance.Sound Job.Sound Job.Fresh; decide +kernel)
      (by unfold HoldCtl.Sound State.RequestsSound State.HoldSound; decide +kernel),
    by decide +kernel, by decide +kernel, by decide +kernel, by decide +kernel⟩

theorem witness_SampleJudgesInput : ready.operating = true ∧ ready.seq.running = true ∧ ready.power.phase = .running := by
  decide +kernel

theorem witness_InputOvReported : ready.operating = true ∧ ready.power.phase = .running ∧ ready.prot.device.inputOv = false
    ∧ (run .inputOvReport { ready with input := { ready.input with reports := [true] } }).operating = true
    ∧ (run .inputOvReport { ready with input := { ready.input with reports := [true] } }).prot.device.inputOv = true := by
  decide +kernel

def faultyLink (ma : Nat) : State := { ready with
  seq := { ready.seq with latest := some { calm with linkCurrent := ma } }
  prot := { ready.prot with device := { dieHot := false, inputOv := false, linkFault := true } } }

theorem witness_FaultsCleared : Hands ready .main ∧ Hands hotB .main ∧ Hands (faultyLink 3300) .hub
    ∧ (taken .main (.faultClear .main (frame 1) 1) hotB).prot.cellB.hot = true
    ∧ (taken .main (.faultClear .main (frame 1) 1) hotB).sample.tB < 550
    ∧ 550 ≤ (taken .main (.faultClear .main (frame 1) 1)
        { hotB with seq := { hotB.seq with latest := some { calm with tB := 550 } } }).sample.tB
    ∧ (taken .hub (.faultClear .hub (frame 1) 2) (faultyLink 3300)).sample.linkCurrent ≤ 3300
    ∧ 3300 < (taken .hub (.faultClear .hub (frame 1) 2) (faultyLink 3301)).sample.linkCurrent
    ∧ (let s := { faultyLink 0 with
         arb := { ready.arb with faultLock := true, waiting := { supply := false, chargeB := false, balance := true } }
         bal := { ready.bal with queue := [{ second with originator := .main }] } }
       let u := taken .hub (.faultClear .hub (frame 1) 2) s
       Hands s .hub ∧ u.arb.link = .free ∧ u.linkStage = Stage.off Flow.zero
         ∧ ({ u.arb with faultLock := false } : Arbiter).choice = some .balance
         ∧ (run (.faultClear .hub (frame 1) 2) s).arb.link = .held .balance) := by decide +kernel

/-- Cell A's share above its cap, and cell B's, each passing on as much as the other cell takes. -/
theorem witness_SupplyCoversDeficit :
    (let x : Snapshot := { caseTwo with claims := [essentialOf 0 .main 40000], vA := 3900, vB := 3401 }
     23400 < x.deficit * 500 / (500 + 1) ∧ ((x.figures 0).sA, (x.figures 0).sB) = (23400, 9764))
    ∧ (let x : Snapshot := { caseTwo with claims := [essentialOf 0 .main 12000], vA := 3401, vB := 3900 }
       12000 * 1 / (1 + 500) ≤ 20406 ∧ 11197 < x.deficit - x.deficit * 1 / (1 + 500)
         ∧ ((x.figures 0).sA, (x.figures 0).sB, (x.figures 0).shortfall) = (803, 11197, 0)) := by decide +kernel

/-- Both covered; divided with none starved; A starved, B starved, both; channel A alone. -/
theorem witness_ChargeSplitWeighs :
    (∀ x ∈ [caseOne, caseFour], x.holdOff = true ∧ x.deficit = 0 ∧ x.dieHot = false ∧ x.demandA % 10 = 0 ∧ x.demandB % 10 = 0)
    ∧ 390 + 397 ≤ ({ caseOne with demandA := 100, demandB := 100 }.figures 0).pChg
    ∧ (caseOne.figures 0).pChg < 7800 + 5956 ∧ (caseOne.figures 0).starvedA = false ∧ (caseOne.figures 0).starvedB = false
    ∧ (caseFour.figures 0).starvedA = true ∧ (caseFour.figures 0).starvedB = false
    ∧ (({ caseFour with vA := 3700, vB := 4000 }).figures 0).starvedB = true
    ∧ (let x := { caseFour with ceiling := some 5900 }
       (x.figures 0).pChg = 200 ∧ (x.figures 0).starvedA = true ∧ (x.figures 0).starvedB = true)
    ∧ (let x := { caseOne with holder := none }
       (x.figures 0).pChg < 7800 ∧ (x.figures 0).cA = 1410 ∧ (x.figures 0).gB = 0) := by decide +kernel

/-- A PARTLY grant and a claim of a dormant port. -/
theorem witness_GrantsFollowClaims :
    ({ caseOne with
        ceiling := some 8000
        claims := caseOne.claims.take 3 ++ [{ electiveOf 3 .hub 1000 500 with standing := .suspended }] : Snapshot }.grants.map
      fun g => (g.grant, g.standing)) = [(4000, .granted), (1500, .granted), (2500, .partly), (0, .suspended)] := by decide +kernel

theorem witness_PublicationTaken : booted.operating = true ∧ booted.alloc.pass.isSome = true
    ∧ booted.alloc.record.deficit = 0 ∧ ((booted.alloc.pass.map (fun x => (x.figures 1).deficit)).getD 0) = 206 := by decide +kernel

theorem witness_SupplyFollowsPublication : booted.operating = true ∧ booted.arb.Sound ∧ booted.alloc.pass.isSome = true :=
  ⟨by decide +kernel, ⟨fun r => by cases r <;> decide +kernel, by decide +kernel⟩, by decide +kernel⟩

/-- Two CURRENT steps that lead to one another, both with an exit at 3000 mV. -/
def loopStep (next : Nat) : StepRecord :=
  { kind := .current, current := 1000, volt := 3000, endCurrent := 0, duration := 0, timeout := 0, cold := 0, hot := 45, next := next }

def looping (s : State) : State := { s with profile := loopStep 1 :: loopStep 0 :: s.profile.drop 2 }

theorem witness_ChannelStarts : Hands ready .main ∧ Hands charging .hub ∧ Hands hotB .main
    ∧ (taken .main (.chStart .main (frame 2) 0 47) ready).profile.getD 47 StepRecord.ended = StepRecord.ended
    ∧ ((taken .main (.chStart .main (frame 2) 0 1) ready).channel .a).state ≠ .active
    ∧ ((taken .hub (.chStart .hub (frame 2) 0 1) charging).channel .a).state = .active
    ∧ ((taken .main (.chStart .main (frame 2) 1 0) hotB).prot.cell .b).hot = true := by decide +kernel

/-- The walk that stops at its slot, the one that goes a step on, and the one that goes on for ever. -/
theorem witness_ChannelStarts_walks :
    (PassesThrough ready.profile 3900 1 0 ∧ ¬(ready.profile.getD 1 StepRecord.ended).PassesAt 3900)
    ∧ (PassesThrough ready.profile 3900 0 1 ∧ chainSlot ready.profile 0 1 = 1)
    ∧ PassesThrough (looping ready).profile 3900 0 4 ∧ Hands (looping ready) .main
    ∧ (run (.chStart .main (frame 2) 0 0) (looping ready)).chA.code = .chainLoop := by
  unfold PassesThrough StepRecord.PassesAt; decide +kernel

theorem witness_ChannelStops : Hands ready .main ∧ Hands charging .main
    ∧ (taken .main (.chStop .main (frame 1) 0) ready).chA.state = .idle
    ∧ (taken .main (.chStop .main (frame 1) 0) ready).pathA.stage.target = (taken .main (.chStop .main (frame 1) 0) ready).chA.presented
    ∧ (taken .main (.chStop .main (frame 1) 1) ready).linkStage.target = (taken .main (.chStop .main (frame 1) 1) ready).linkTarget
    ∧ (taken .main (.chStop .main (frame 1) 1) ready).chB.request = false
    ∧ (taken .main (.chStop .main (frame 1) 0) charging).chA.state = .active := by decide +kernel

theorem witness_StepWriteRecords : Hands charging .main
    ∧ (taken .main (.stepWrite .main (frame 15) 1 rawEnd) charging).chA.slot = some 1
    ∧ StepKind.voltage.code = 2 ∧ StepKind.rest.code = 4 := by decide +kernel

theorem witness_StepReadReturns : Hands ready .hub := by decide +kernel

/-- Channel B ACTIVE in the CURRENT step with CHARGE_B holding the link. -/
def chargingB : State :=
  { withLink (.held .chargeB) ready with
    chB := { Channel.atReset with state := .active, slot := some 1, published := 1000, presented := 1000, stale := false, request := true }
    linkStage := { target := { dir := .nodeToB, mag := 1000 }, output := { dir := .nodeToB, mag := 1000 }, ramping := false } }

/-- A sample that changes no fault, in the CURRENT step, which exits at 4400 mV; a step that is late; an exit into a loop. -/
theorem witness_ChannelTakesSample : charging.operating = true ∧ charging.seq.running = true ∧ charging.power.phase = .running
    ∧ charging.chA.state = .active ∧ (run (.sampleArrival measured 0) charging).prot = charging.prot
    ∧ (run (.sampleArrival { measured with vA := 4400 } 0) charging).prot = charging.prot
    ∧ 180 * 600 < (run (.sampleArrival measured 0) { charging with chA := { charging.chA with timer := 108000 } }).chA.timer
    ∧ (run (.sampleArrival measured 0) { looping charging with chA := charging.chA }).chA.code = .chainLoop
    ∧ (let t := run (.sampleArrival { measured with tDie := 105 } 0) charging
       t.prot ≠ charging.prot ∧ t.prot.cellA = charging.prot.cellA ∧ t.prot.device = charging.prot.device ∧ t.chA.state = .active)
    ∧ chargingB.chB.state = .active ∧ chargingB.bal.queue = [] ∧ chargingB.chB.request = chargingB.chB.wantsLink chargingB.profile
    ∧ (run (.sampleArrival measured 0) chargingB).prot = chargingB.prot
    ∧ (run (.sampleArrival { measured with tB := 500 } 0) chargingB).chB.request = false := by decide +kernel

theorem witness_StepTimersEnd : overdue.operating = true ∧ overdue.power.phase = .running
    ∧ 180 * 600 < overdue.chA.timer ∧ exitHolds (overdue.chA.step overdue.profile) overdue.sample.vA overdue.chA.timer 0 = false
    ∧ ({ charging.chA with slot := some 3, timer := 864000 }.step charging.profile).kind = .rest
    ∧ (run (.stepTimeout .a) (allDormant { overdue with input := InputCtl.atReset false })).power.state = .monitor := by
  decide +kernel

theorem witness_JobQueued :
    let i : Instr := .balQueue .main (frame 7) 2 1 4095 2000 30
    Hands ready .main ∧ ready.bal.tagCounter < 256
    ∧ (taken .main i ready).bal.queue = [] ∧ (taken .main i balancing).bal.queue ≠ [] ∧ Hands balancing .main
    ∧ Hands hotB .main ∧ (taken .main i hotB).prot.cellB.hot = true
    ∧ (taken .main i ready).hold.state = .off ∧ (taken .main i ready).arb.link = .free
    ∧ (taken .main i ready).linkStage.target = Flow.zero ∧ (taken .main i ready).arb.backoffBalance = none
    ∧ (taken .main i changing).arb.link = .changeover ∧ Hands changing .main
    ∧ (taken .main i held).hold.state = .pending ∧ Hands held .main
    ∧ (taken .main i { balancing with bal := { balancing.bal with queue := List.replicate 4 runningJob } }).bal.queue.length = 4 := by
  decide +kernel

/-- Channel B's holding past its tenure, presenting 1000 mA or, starved, nothing. -/
def outstayed (presented : Nat) : State :=
  let flow := Flow.of .nodeToB presented
  { chargingB with
    chB := { chargingB.chB with published := presented, presented := presented }
    arb := { chargingB.arb with tenure := none, tenureExpired := true }
    linkStage := { target := flow, output := flow, ramping := false } }

def backing (s : State) : State := { s with arb := { s.arb with backoffBalance := some 1050 } }

/-- A head placed in FREE within BALANCE's backoff, one that CHARGE_B yields to with the link still carrying current, and one
that it yields to with the link at zero: granted at once, or waiting out its backoff. -/
theorem witness_JobQueued_waits :
    let i : Instr := .balQueue .main (frame 7) 0 0 20 1000 0
    (let u := taken .main i (backing ready)
     Hands (backing ready) .main ∧ u.arb.link = .free ∧ u.bal.queue = [] ∧ u.hold.state = .off ∧ u.bal.dieHot = false
       ∧ ({ u.arb with waiting := { u.arb.waiting with balance := true } } : Arbiter).choice = none)
    ∧ (∀ s ∈ [outstayed 1000, outstayed 0, backing (outstayed 0)], Hands s .main ∧ (taken .main i s).bal.queue = []
      ∧ (taken .main i s).arb.link = .held .chargeB ∧ (taken .main i s).arb.tenureExpired = true
      ∧ (taken .main i s).arb.waiting.balance = false ∧ (run i s).chB.reasons.noLink = true
      ∧ (run i s).arb.backoffChargeB = some 1100)
    ∧ [outstayed 1000, outstayed 0, backing (outstayed 0)].map (fun s => (run i s).arb.link)
      = [.changeover, .held .balance, .free] := by
  decide +kernel

def queued : State := { balancing with bal := { balancing.bal with queue := [runningJob, second] } }

def waitingJob : Job := { second with originator := .main }
def withHead (j : Job) (s : State) : State := { s with bal := { s.bal with queue := [j] } }

/-- A QUEUED head with a job behind it: in FREE within the backoff, in CHANGEOVER, in FREE with nothing in the way, and behind a
CHARGE_B holder past its tenure, with the link carrying current or at zero. -/
def succession : List State :=
  let asks (s : State) : State := { s with
    bal := { ready.bal with queue := [waitingJob, { waitingJob with tag := 9, moved := 0, residue := 0, resolved := none }] }
    arb := { s.arb with waiting := { s.arb.waiting with balance := true } } }
  [asks (backing ready), asks (withLink .changeover ready), asks ready, asks (outstayed 1000), asks (outstayed 0)]

theorem witness_JobCancelled : Hands queued .main ∧ Hands queued .hub
    ∧ (taken .main (.balCancel .main (frame 1) 9) queued).bal.queue.find? (fun j => j.tag == 9) = none
    ∧ (taken .main (.balCancel .main (frame 1) 8) queued).bal.queue.find? (fun j => j.tag == 8) = some second
    ∧ (taken .hub (.balCancel .hub (frame 1) 8) queued).bal.queue.head? = some runningJob
    ∧ (taken .main (.balCancel .main (frame 1) 7) queued).bal.queue.find? (fun j => j.tag == 7) = some runningJob
    ∧ (taken .main (.balCancel .main (frame 1) 7) queued).arb.link = .held .balance
    ∧ (let s := withHead { waitingJob with state := .suspended } held
       let u := taken .main (.balCancel .main (frame 1) 8) s
       Hands s .main ∧ u.hold.state ≠ .off ∧ u.bal.queue.head?.map Job.state = some .suspended)
    ∧ (let s := withHead waitingJob { ready with arb := { ready.arb with waiting := { supply := false, chargeB := false, balance := true } } }
       let u := taken .main (.balCancel .main (frame 1) 8) s
       Hands s .main ∧ u.hold.state = .off ∧ u.bal.dieHot = false ∧ u.arb.link ≠ .held .balance
       ∧ u.arb.waiting.balance = true ∧ u.bal.queue = [waitingJob])
    ∧ (∀ s ∈ succession, Hands s .main ∧ (taken .main (.balCancel .main (frame 1) 8) s).bal.queue.head? = some waitingJob
       ∧ (taken .main (.balCancel .main (frame 1) 8) s).bal.queue.tail ≠ [] ∧ s.arb.waiting.balance = true)
    ∧ succession.map (fun s => (run (.balCancel .main (frame 1) 8) s).arb.link)
      = [.free, .changeover, .held .balance, .changeover, .held .balance] := by decide +kernel

/-- A job that goes on, one whose last quantum ends it, one that yields with its quantum, and one that waits, ended by its
tail's credit. -/
theorem witness_HeadCredited : balancing.operating = true ∧ balancing.seq.running = true ∧ balancing.power.phase = .running
    ∧ balancing.bal.queue.head? = some runningJob ∧ balancing.arb.link = .held .balance ∧ balancing.chB.request = false
    ∧ (run (.sampleArrival { measured with linkCharge := 28 } 0) balancing).prot = balancing.prot
    ∧ (run (.sampleArrival { measured with linkCharge := 28 } 0)
        { balancing with bal := { balancing.bal with queue := [{ runningJob with count := 3 }] } }).bal.queue = []
    ∧ (run (.sampleArrival { measured with linkCharge := 28 } 0)
        { balancing with arb := { balancing.arb with yieldPending := true } }).bal.queue.map Job.tailUntil = [some 1040]
    ∧ (let s : State := withHead { waitingJob with moved := 19, residue := 499, runs := [{ start := 900, stop := 930 }] }
         { ready with arb := { ready.arb with backoffBalance := some 990, waiting := { supply := false, chargeB := false, balance := true } } }
       let t := run (.sampleArrival { measured with linkCharge := 28 } 0) s
       s.arb.link ≠ .held .balance ∧ s.chB.state ≠ .active ∧ t.prot = s.prot ∧ t.bal.queue = []
         ∧ (t.bal.last.get .main).map LastResult.reason = some .countDone) := by decide +kernel

def effective : State := run (.holdEntryCheck .hub) held

theorem witness_HoldJoins : Hands ready .main ∧ Hands held .main ∧ Hands effective .main ∧ Hands held .hub
    ∧ (taken .main (.hold .main (frame 0)) ready).hold.state = .off
    ∧ (taken .main (.hold .main (frame 0)) held).hold.state = .pending
    ∧ (taken .main (.hold .main (frame 0)) effective).hold.state = .effective
    ∧ ((taken .hub (.hold .hub (frame 0)) held).holder .hub).joined = true
    ∧ ((taken .main (.hold .main (frame 0)) charging).channel .a).state = .active := by decide +kernel

def shared : State := run (.replyPlaced .main) (run (.hold .main (frame 0)) effective)

theorem witness_HoldLeaves : Hands held .main ∧ Hands held .hub ∧ Hands shared .hub
    ∧ ((taken .main (.unhold .main (frame 0) 0) held).holder .main).joined = false
    ∧ ((taken .hub (.unhold .hub (frame 0) 0) held).holder .hub).joined = true
    ∧ ((taken .hub (.unhold .hub (frame 0) 0) shared).holder .main).joined = true
    ∧ shared.operating = true ∧ (shared.holder .main).expiry = some 3000 ∧ (effective.holder .hub).expiry = some 3000
    ∧ (effective.holder .main).joined = false
    ∧ (run (.holdExpiry .hub 0) (allDormant { effective with input := InputCtl.atReset false })).power.state = .monitor := by
  decide +kernel

def ramping : State := { held with pathA := { held.pathA with stage := { target := 0, output := 1000, ramping := true } } }

theorem witness_HoldBecomesEffective : held.operating = true ∧ held.power.phase = .running ∧ (held.holder .hub).due = 1
    ∧ (ready.holder .hub).due = 0 ∧ held.hold.state = .pending ∧ held.pathA.stage.ramping = false ∧ held.pathA.stage.target = 0
    ∧ held.hold.view = .free ∧ ramping.pathA.stage.ramping = true ∧ (ramping.holder .hub).due = 1 := by decide +kernel

def yielding (l : LinkState) : State := { withLink l ready with
  arb := { ready.arb with link := l, tenure := some 3000, waiting := { supply := false, chargeB := true, balance := true } } }

theorem witness_ArbiterTimersExpire : (yielding (.held .balance)).operating = true
    ∧ (yielding (.held .balance)).power.phase = .running ∧ (yielding (.held .balance)).arb.tenure = some 3000
    ∧ (yielding (.held .chargeB)).arb.waiting.balance = true
    ∧ { yielding .free with arb := { (yielding .free).arb with backoffBalance := some 1100 } }.arb.backoff .balance = some 1100
    ∧ asleep.operating = true ∧ asleep.power.phase = .running ∧ asleep.power.holdOff = some 11000 ∧ asleep.bal.queue = [] := by
  decide +kernel

/-- The link ramping down from a transfer, with what waits for it and the job that BALANCE waits with. -/
def settling (l : LinkState) (supply chargeB : Bool) (head : Option Job) : State :=
  { withLink l ready with
    arb := { ready.arb with link := l, waiting := { supply := supply, chargeB := chargeB, balance := head.isSome } }
    bal := { ready.bal with queue := head.toList }
    chB := if chargeB then { chargingB.chB with presented := 0, reasons := { Reasons.none with noLink := true } } else ready.chB
    linkStage := { target := Flow.zero, output := { dir := .aToB, mag := 1000 }, ramping := true } }

/-- A queued TOWARD_LOWER job within its tolerance of 100 mV. -/
def levelJob : Job := { waitingJob with direction := .towardLower, tolerance := some 100, resolved := none }

def ramped : List State :=
  [ settling .changeover false false none, settling .changeover true false none, settling .changeover false true none,
    settling .changeover false false (some waitingJob), settling .changeover false false (some levelJob),
    settling .free false false (some waitingJob), settling (.held .supply) false false none,
    { settling .changeover true false none with hold := { state := .pending, view := .changeover, holders :=
        { ready.hold.holders with hub := { ready.hold.holders.hub with joined := true } } } } ]

set_option synthInstance.maxSize 512 in
theorem ramped_jobs : ∀ s ∈ ramped, s.bal.Sound := by unfold Balance.Sound Job.Sound Job.Fresh; decide +kernel

theorem witness_LinkSettles_sound : ∀ s ∈ ramped, s.LinkUsersSound := by
  intro s h
  apply linkUsersSound_of (ramped_jobs s h)
  revert s
  unfold HoldCtl.Sound State.RequestsSound State.HoldSound
  decide +kernel

/-- None, SUPPLY and CHARGE_B chosen; BALANCE chosen with the head running, and ended as level; the grant held back in FREE;
a link that is HELD; a PENDING hold. -/
theorem witness_LinkSettles : (∀ s ∈ ramped, s.operating = true ∧ s.power.phase = .running ∧ s.linkStage.ramping = true)
    ∧ (ramped.map fun s => (run (.hingeLinkSettled false) s).arb.link)
      = [.free, .held .supply, .held .chargeB, .held .balance, .free, .held .balance, .held .supply, .held .supply]
    ∧ (ramped.map fun s => (run (.hingeLinkSettled true) s).hold.state)
      = [.off, .off, .off, .off, .off, .off, .off, .effective] := by decide +kernel

/-- A cell A path that takes a new setpoint, none while VBUS is absent, and, under a PENDING hold, its present output of zero. -/
theorem witness_LinkSettles_cellA : (takeCharge 500 ready).pathA.stage = { target := 500, output := 0, ramping := true }
    ∧ takeCharge 500 { ready with present := false } = { ready with present := false }
    ∧ (let s := { held with pathA := { held.pathA with stage := { target := 500, output := 0, ramping := false } } }
       s.hold.state = .pending ∧ s.hold.view = .free ∧ (takeCharge 0 s).hold.state = .effective) := by decide +kernel

theorem witness_ShipEntered : Hands adrift .main ∧ Hands ready .main
    ∧ (taken .main (.shipEnter .main (frame 0)) adrift).input.state = .detached
    ∧ (taken .main (.shipEnter .main (frame 0)) ready).input.state ≠ .detached := by decide +kernel

theorem witness_DeviceResetValues : Hands ready .main ∧ ready.operating = true ∧ ready.power.rstnLow = false
    ∧ (run .rstnAssert ready).power.rstnLow = true ∧ (run (.shipEnter .main (frame 0)) adrift).operating = false := by decide +kernel

theorem witness_PowerOnValues : (run (.shipEnter .main (frame 0)) adrift).power.supplied = true
    ∧ (run (.shipEnter .main (frame 0)) adrift).power.state = .ship ∧ ready.power.state ≠ .ship ∧ ready.present = true
    ∧ (run .ownSupplyLoss ready).power.supplied = false := by decide +kernel

/-- The copy done, the line released, no sample yet. -/
def unsampled : State := { loading with power := { loading.power with copied := true }, seq := { loading.seq with latest := none } }

theorem witness_LoadingEnds : loading.operating = true ∧ loading.power.phase = .loading ∧ loading.power.copied = false
    ∧ loading.power.rstnLow = false ∧ loading.seq.latest ≠ none
    ∧ (run .copyComplete (run .rstnAssert ready)).power.phase = .loading
    ∧ (run .copyComplete (run .rstnAssert ready)).power.copied = true
    ∧ (run .copyComplete (run (.powerOnReset true) ready)).power.phase = .loading
    ∧ unsampled.operating = true ∧ unsampled.power.phase = .loading ∧ unsampled.seq.running = true
    ∧ unsampled.chA.state = .idle ∧ unsampled.settings.autoStart = true ∧ unsampled.input.state ≠ .detached
    ∧ (let t := run (.sampleArrival { measured with vA := 2900 } 0) unsampled
       t.prot = unsampled.prot ∧ t.power.phase = .running ∧ t.chA.slot = some 0)
    ∧ (run (.sampleArrival measured 0) loading).power.phase = .loading := by decide +kernel

theorem witness_TablesStaySound : ready.TablesSound ∧ ∃ t, step ready = .next t :=
  ⟨⟨ready_bounded, by unfold Claim.InRange; decide +kernel, by unfold CeilingsBounded; decide +kernel,
    by unfold InputCtl.Sound; decide +kernel, by unfold ProfileSound StepRecord.Valid; decide +kernel,
    by unfold State.ThermalSound; decide +kernel⟩, _, rfl⟩

theorem witness_LinkUsersStaySound : balancing.LinkUsersSound ∧ ∃ t, step balancing = .next t :=
  ⟨linkUsersSound_of (by unfold Balance.Sound Job.Sound Job.Fresh; decide +kernel)
    (by unfold HoldCtl.Sound State.RequestsSound State.HoldSound; decide +kernel), _, rfl⟩

theorem witness_ChannelsStaySound : charging.ChannelsSound ∧ chargingB.ChannelsSound ∧ ∃ t, step charging = .next t :=
  ⟨by unfold State.ChannelsSound State.StagesSound Channel.Presents Channel.Rests; decide +kernel,
    by unfold State.ChannelsSound State.StagesSound Channel.Presents Channel.Rests; decide +kernel, _, rfl⟩

end Sys2Proof.Tests
end

section
/-! CLAIM_READ (R30): what the claim table answers for each id, how the record lays out the claim, and O16. -/

namespace Sys2Proof.Machine

/-! ### Handing a reply (R182) -/

theorem handReply_eq_withReply (p : Port) (code : ReplyCode) (payload : List Byte) (s : State) :
    handReply p code payload s = withReply p code payload s := rfl

theorem refuse_eq_withReply (p : Port) (code : ReplyCode) (s : State) : refuse p code s = withReply p code [] s := rfl

/-! ### The record (R197) -/

/-- R197 numbers the owners in one list, the part itself first. -/
theorem Owner.code_eq (o : Owner) :
    o.code = match o with | .internal => 0 | .port .main => 1 | .port .hub => 2 | .port .input => 3 := by
  match o with
  | .internal => rfl
  | .port .main => rfl
  | .port .hub => rfl
  | .port .input => rfl

/-- R197: the record's fields in their order. -/
theorem claimRecord_layout (age : Nat) (c : Claim) : claimRecord age c =
    bytesOf 1 c.id
      ++ bytesOf 1 (match c.owner with | .internal => 0 | .port .main => 1 | .port .hub => 2 | .port .input => 3)
      ++ bytesOf 1 (match c.cls with | .essential => 0 | .elective => 1)
      ++ bytesOf 2 c.requested ++ bytesOf 2 (match c.cls with | .essential => 0 | .elective => c.floor)
      ++ bytesOf 1 age
      ++ bytesOf 2 c.grant
      ++ bytesOf 1 (match c.standing with | .granted => 0 | .partly => 1 | .deferred => 2 | .suspended => 3) := by
  unfold claimRecord
  rw [Owner.code_eq]
  rfl

/-! ### The claim table takes a CLAIM_READ (R30) -/

section
variable (p : Port) (id : Nat) (s : State)

theorem takeClaimRead_outside (hid : 16 ≤ id) : takeClaimRead p id s = withReply p .badValue [] s := by
  have above : Config.claimSlots ≤ id := hid
  rw [takeClaimRead, if_pos above, refuse_eq_withReply]

theorem takeClaimRead_free (hid : id < 16) (free : claimAt s.table.claims id = none) :
    takeClaimRead p id s = withReply p .notFound [] s := by
  have within : ¬ Config.claimSlots ≤ id := Nat.not_le.mpr hid
  simp only [takeClaimRead, if_neg within, free, refuse_eq_withReply]

theorem takeClaimRead_occupied (hid : id < 16) (c : Claim) (held : claimAt s.table.claims id = some c) :
    takeClaimRead p id s = withReply p .ok (claimRecord (ageOf s.table.claims id) c) s := by
  have within : ¬ Config.claimSlots ≤ id := Nat.not_le.mpr hid
  simp only [takeClaimRead, if_neg within, held, handReply_eq_withReply]

/-- Every port may send CLAIM_READ, so a well-framed one reaches the claim table. -/
theorem exec_claimRead_handed (h : Hands s p) :
    let i : Instr := .claimRead p (Framing.ofLength 1) id
    exec i s = .next (takeClaimRead p id (handedOver p i s)) :=
  congrArg Host.Outcome.next (takeRequest_handed p .claimRead _ (takeClaimRead p id) s h rfl)

end

/-- Settles O16: the three answers are those of the claim table to the id it is handed, and the record is that of R197. -/
theorem claimReadReturns : Obligations.ClaimReadReturns := by
  intro s p id hands i u found
  have taken : exec i s = .next (takeClaimRead p id u) := exec_claimRead_handed p id s hands
  rw [taken]
  refine ⟨fun outside => ?_, fun within free => ?_, fun within c held => ?_⟩
  · rw [takeClaimRead_outside p id u outside]
  · rw [takeClaimRead_free p id u within free]
  · rw [takeClaimRead_occupied p id u within c held]
    exact congrArg (fun record => Host.Outcome.next (withReply p .ok record u)) (claimRecord_layout _ c)

end Sys2Proof.Machine
end

section
/-! CEIL_PUSH and CEIL_POP (R56 to R58): what the stack answers, and O18 and O19. -/

namespace Sys2Proof.Machine

/-! ### A block that triggers a pass and replies (R66, R182) -/

theorem handReply_still (p : Port) (code : ReplyCode) (payload : List Byte) (s : State) :
    (handReply p code payload s).still = s.still := by
  cases p <;> rfl

/-- The handed reply is no part of what a pass reads, so the trigger before it stands. -/
theorem handReply_triggered (p : Port) (code : ReplyCode) (payload : List Byte) {u t : State} (h : Triggered u t) :
    Triggered u (handReply p code payload t) := h

/-! ### The smallest entry (R58) -/

theorem effectiveCeiling_eq_min? (l : List Ceiling) : effectiveCeiling l = (l.map Ceiling.limit).min? := by
  induction l with
  | nil => rfl
  | cons e rest ih =>
    rw [effectiveCeiling, ih, List.map_cons, List.min?_cons]
    cases (rest.map Ceiling.limit).min? <;> rfl

theorem ceilingReply_eq (ceiling : Nat) (after : List Ceiling) : ceilingReply ceiling after =
    bytesOf 4 ceiling ++ bytesOf 1 after.length ++ bytesOf 4 ((after.map Ceiling.limit).min?.getD 0xFFFFFFFF) := by
  rw [ceilingReply, ceilingBytes, effectiveCeiling_eq_min?]

/-! ### The topmost entry of a port (R57) -/

theorem popCeiling_absent (p : Port) (l : List Ceiling) (foreign : ∀ x ∈ l, x.owner ≠ p) : popCeiling p l = none := by
  induction l with
  | nil => rfl
  | cons e rest ih =>
    obtain ⟨other, others⟩ := List.forall_mem_cons.mp foreign
    rw [popCeiling, if_neg other, ih others, Option.map_none]

theorem popCeiling_topmost (p : Port) (above below : List Ceiling) (e : Ceiling) (foreign : ∀ x ∈ above, x.owner ≠ p)
    (own : e.owner = p) : popCeiling p (above ++ e :: below) = some (e.limit, above ++ below) := by
  induction above with
  | nil => exact if_pos own
  | cons x rest ih =>
    obtain ⟨other, others⟩ := List.forall_mem_cons.mp foreign
    rw [List.cons_append, popCeiling, if_neg other, ih others, Option.map_some, List.cons_append]

/-! ### The stack takes a CEIL_PUSH or a CEIL_POP (R56, R57) -/

section
variable (p : Port) (ceiling : Nat) (s : State)

/-- The stack holds `after` from now on, a pass is triggered, and the reply tells of the ceiling pushed or popped. -/
def restack (after : List Ceiling) : State :=
  handReply p .ok (ceilingReply ceiling after) (trigger { s with ceilings := after })

theorem takeCeilPush_full (full : 8 ≤ s.ceilings.length) : takeCeilPush p ceiling s = withReply p .full [] s := by
  have deep : Config.ceilingDepth ≤ s.ceilings.length := full
  rw [takeCeilPush, if_pos deep, refuse_eq_withReply]

theorem takeCeilPush_room (room : s.ceilings.length < 8) : takeCeilPush p ceiling s =
    restack p (min ceiling 100000) s ({ owner := p, limit := min ceiling 100000 } :: s.ceilings) := by
  have shallow : ¬ Config.ceilingDepth ≤ s.ceilings.length := Nat.not_le.mpr room
  rw [takeCeilPush, if_neg shallow]
  rfl

theorem takeCeilPop_absent (absent : popCeiling p s.ceilings = none) :
    takeCeilPop p s = withReply p .notFound [] s := by
  simp only [takeCeilPop, absent, refuse_eq_withReply]

theorem takeCeilPop_present (after : List Ceiling) (topmost : popCeiling p s.ceilings = some (ceiling, after)) :
    takeCeilPop p s = restack p ceiling s after := by
  simp only [takeCeilPop, topmost, restack]

/-- Every port may send CEIL_PUSH, so a well-framed one reaches the stack. -/
theorem exec_ceilPush_handed (h : Hands s p) :
    let i : Instr := .ceilPush p (Framing.ofLength 4) ceiling
    exec i s = .next (takeCeilPush p ceiling (handedOver p i s)) :=
  congrArg Host.Outcome.next (takeRequest_handed p .ceilPush _ (takeCeilPush p ceiling) s h rfl)

/-- Every port may send CEIL_POP, so a well-framed one reaches the stack. -/
theorem exec_ceilPop_handed (h : Hands s p) :
    let i : Instr := .ceilPop p (Framing.ofLength 0)
    exec i s = .next (takeCeilPop p (handedOver p i s)) :=
  congrArg Host.Outcome.next (takeRequest_handed p .ceilPop _ (takeCeilPop p) s h rfl)

/-- The new stack does not touch the power state, so the trigger of a request handed over is taken. -/
theorem restack_triggered (i : Instr) (after : List Ceiling) (h : Hands s p) :
    Triggered (handedOver p i s) (restack p ceiling (handedOver p i s) after) :=
  handReply_triggered p _ _ (handedOver_triggered p i s { handedOver p i s with ceilings := after } h rfl)

theorem restack_still (after : List Ceiling) : (restack p ceiling s after).still = { s.still with ceilings := after } := by
  rw [restack, handReply_still, trigger_still]
  rfl

theorem restack_answers (after : List Ceiling) : Answers (restack p ceiling s after) p .ok
    (bytesOf 4 ceiling ++ bytesOf 1 after.length ++ bytesOf 4 ((after.map Ceiling.limit).min?.getD 0xFFFFFFFF)) := by
  rw [← ceilingReply_eq]
  exact handReply_handed _ p .ok _

end

/-- Settles O18: a full stack refuses, and one with room takes the entry on top. -/
theorem ceilingPushed : Obligations.CeilingPushed := by
  intro s p ceiling hands i u after
  have taken : exec i s = .next (takeCeilPush p ceiling u) := exec_ceilPush_handed p ceiling s hands
  rw [taken]
  refine ⟨fun full => ?_, fun room => ?_⟩
  · rw [takeCeilPush_full p ceiling u full]
  · rw [takeCeilPush_room p ceiling u room]
    exact ⟨_, rfl, restack_triggered p _ s i after hands, restack_still p _ u after, restack_answers p _ u after⟩

/-- Settles O19: the search from the top passes over the entries of other ports and stops at the first of the port's own. -/
theorem ceilingPopped : Obligations.CeilingPopped := by
  intro s p above below e hands i u
  have taken : exec i s = .next (takeCeilPop p u) := exec_ceilPop_handed p s hands
  rw [taken]
  refine ⟨fun foreign => ?_, fun stack foreign own => ?_⟩
  · rw [takeCeilPop_absent p u (popCeiling_absent p u.ceilings foreign)]
  · have topmost : popCeiling p u.ceilings = some (e.limit, above ++ below) := by
      rw [stack, popCeiling_topmost p above below e foreign own]
    have left : u.ceilings.length - 1 = (above ++ below).length := by
      simp [stack]
    rw [takeCeilPop_present p e.limit u (above ++ below) topmost, left]
    exact ⟨_, rfl, restack_triggered p _ s i _ hands, restack_still p _ u _, restack_answers p _ u _⟩

end Sys2Proof.Machine
end

section
/-! The budget of a pass (R61, R71): which bound it equals and which it names, and O31. -/

namespace Sys2Proof.Machine

/-- R61: one more bound is passed over, being absent or no smaller, or it becomes the budget and gives its name. -/
theorem bound_cases (b : Option Nat) (name : BudgetLimit) (sofar : Nat × BudgetLimit) :
    (bound b name sofar = sofar ∧ ∀ n ∈ b, sofar.1 ≤ n)
    ∨ ∃ n, b = some n ∧ n < sofar.1 ∧ bound b name sofar = (n, name) := by
  cases b with
  | none => exact .inl ⟨rfl, nofun⟩
  | some n =>
    rw [bound]
    split
    next smaller => exact .inr ⟨n, rfl, smaller, rfl⟩
    next larger => exact .inl ⟨rfl, fun m hm => by cases hm; omega⟩

/-- R61: the three outcomes of the first two stages: a bound is reported only where it is smaller than every bound before
it, and no bound after it is smaller. -/
theorem Snapshot.budget_cases (x : Snapshot) :
    (x.budget = (x.pConv, .input) ∧ (∀ n ∈ x.ceiling, x.pConv ≤ n) ∧ ∀ n ∈ thermalCeiling x.thermal x.pConv, x.pConv ≤ n)
    ∨ (∃ c, x.budget = (c, .ceiling) ∧ x.ceiling = some c ∧ c < x.pConv ∧ ∀ n ∈ thermalCeiling x.thermal x.pConv, c ≤ n)
    ∨ ∃ t, x.budget = (t, .thermal) ∧ thermalCeiling x.thermal x.pConv = some t ∧ t < x.pConv ∧ ∀ n ∈ x.ceiling, t < n := by
  unfold Snapshot.budget
  obtain ⟨kept, above⟩ | ⟨c, present, below, replaced⟩ := bound_cases x.ceiling .ceiling (x.pConv, .input)
  · rw [kept]
    obtain ⟨last, cool⟩ | ⟨t, hot, lower, last⟩ := bound_cases (thermalCeiling x.thermal x.pConv) .thermal (x.pConv, .input)
    · exact .inl ⟨last, above, cool⟩
    · exact .inr (.inr ⟨t, last, hot, lower, fun n hn => lower.trans_le (above n hn)⟩)
  · rw [replaced]
    obtain ⟨last, cool⟩ | ⟨t, hot, lower, last⟩ := bound_cases (thermalCeiling x.thermal x.pConv) .thermal (c, .ceiling)
    · exact .inr (.inl ⟨c, last, present, below, cool⟩)
    · refine .inr (.inr ⟨t, last, hot, lower.trans below, fun n hn => ?_⟩)
      rw [present] at hn
      cases hn
      exact lower

/-- Settles O31: in each outcome the bound named is the budget, those before it are larger, those after it no smaller. -/
theorem budgetIsSmallestBound : Obligations.BudgetIsSmallestBound := by
  intro x thermal
  have ceiled : thermal = thermalCeiling x.thermal x.pConv := rfl
  rw [ceiled, Snapshot.pBud]
  obtain ⟨budget, above, cool⟩ | ⟨c, budget, present, below, cool⟩ | ⟨t, budget, hot, lower, above⟩ := x.budget_cases
  · rw [budget]
    exact ⟨le_rfl, above, cool, fun _ => rfl, fun other => absurd rfl other, fun other => absurd rfl other⟩
  · rw [budget, present]
    exact ⟨below.le, fun n hn => (Option.some.inj hn).le, cool, fun same => absurd same below.ne, fun _ _ => rfl,
      fun _ other => absurd rfl other⟩
  · rw [budget, hot]
    exact ⟨lower.le, fun n hn => (above n hn).le, fun n hn => (Option.some.inj hn).le, fun same => absurd same lower.ne,
      fun _ same => absurd (above t same.symm) (lt_irrefl t), fun _ _ => ⟨rfl, rfl⟩⟩

end Sys2Proof.Machine
end

section
/-! The input power of a pass (R70): when the pass takes it, what it then is, and O32. -/

namespace Sys2Proof.Machine

section
variable (x : Snapshot)

/-- R70: the two input states with a contract, and no input over-voltage. -/
theorem Snapshot.powered_iff :
    x.powered = true ↔ (x.inputState = .dflt ∨ x.inputState = .contracted) ∧ x.inputOv = false := by
  simp [Snapshot.powered]

theorem Snapshot.pRaw_powered (h : x.powered = true) :
    x.pRaw = x.contract.voltage * min x.contract.current x.droopLimit / 1000 := if_pos h

theorem Snapshot.pRaw_unpowered (h : ¬ x.powered = true) : x.pRaw = 0 := if_neg h

theorem Snapshot.pConv_powered (h : x.powered = true) :
    x.pConv = x.contract.voltage * min x.contract.current x.droopLimit / 1000 * 940 / 1024 := by
  rw [Snapshot.pConv, x.pRaw_powered h]

/-- R70: without raw power the input stage delivers none. -/
theorem Snapshot.pConv_unpowered (h : ¬ x.powered = true) : x.pConv = 0 := by
  rw [Snapshot.pConv, x.pRaw_unpowered h]

end

/-- Settles O32: the pass takes input power exactly under the statement's condition, and its two figures follow. -/
theorem inputPowerFollowsContract : Obligations.InputPowerFollowsContract := by
  intro x
  split
  next drawing =>
    have powered := x.powered_iff.mpr drawing
    exact ⟨x.pRaw_powered powered, x.pConv_powered powered⟩
  next cut =>
    have unpowered := mt x.powered_iff.mp cut
    exact ⟨x.pRaw_unpowered unpowered, x.pConv_unpowered unpowered⟩

end Sys2Proof.Machine
end

section
/-! STEP_READ (R113): what profile memory answers for each slot, which bytes of a record are zero, and O42. -/

namespace Sys2Proof.Machine

/-! ### The port interface leaves profile memory (R34, R36, R181) -/

theorem trigger_profile (s : State) : (trigger s).profile = s.profile := Keeps.profile (trigger_outer s)

theorem wakePort_profile (p : Port) (s : State) : (wakePort p s).profile = s.profile := by
  unfold wakePort
  dsimp only
  split
  · exact trigger_profile _
  · rfl

theorem handedOver_profile (p : Port) (i : Instr) (s : State) : (handedOver p i s).profile = s.profile :=
  (Keeps.profile (leaveMonitor_outer _)).trans (wakePort_profile p _)

/-! ### The fields that a kind does not carry (R91) -/

theorem StepKind.carriesCurrent_iff (k : StepKind) : k.carriesCurrent = true ↔ ¬(k = .rest ∨ k = .endStep) := by
  cases k <;> decide

theorem StepKind.carriesDuration_iff (k : StepKind) : k.carriesDuration = true ↔ k = .topoff ∨ k = .rest := by
  cases k <;> decide

theorem StepKind.carriesTimeout_iff (k : StepKind) :
    k.carriesTimeout = true ↔ k = .precharge ∨ k = .current ∨ k = .voltage := by
  cases k <;> decide

section
variable {r : StepRecord} (valid : r.Valid)
include valid

theorem StepRecord.Valid.current_uncarried (h : r.kind = .rest ∨ r.kind = .endStep) : r.current = 0 := by
  obtain ⟨current, -, -, -, -⟩ := valid
  rwa [if_neg (by rw [r.kind.carriesCurrent_iff]; exact not_not_intro h)] at current

/-- R91: an END record carries neither a voltage nor a temperature window nor a successor. -/
theorem StepRecord.Valid.endStep_fields (h : r.kind = .endStep) : r.volt = 0 ∧ r.cold = 0 ∧ r.hot = 0 ∧ r.next = 0 := by
  obtain ⟨-, fields, -, -, -⟩ := valid
  rwa [if_neg (not_not_intro h)] at fields

theorem StepRecord.Valid.endCurrent_uncarried (h : r.kind ≠ .voltage) : r.endCurrent = 0 := by
  obtain ⟨-, -, endCurrent, -, -⟩ := valid
  rwa [if_neg h] at endCurrent

theorem StepRecord.Valid.duration_uncarried (h : ¬(r.kind = .topoff ∨ r.kind = .rest)) : r.duration = 0 := by
  obtain ⟨-, -, -, duration, -⟩ := valid
  rwa [if_neg (mt r.kind.carriesDuration_iff.mp h)] at duration

theorem StepRecord.Valid.timeout_uncarried (h : ¬(r.kind = .precharge ∨ r.kind = .current ∨ r.kind = .voltage)) :
    r.timeout = 0 := by
  obtain ⟨-, -, -, -, timeout⟩ := valid
  rwa [if_neg (mt r.kind.carriesTimeout_iff.mp h)] at timeout

/-- R197: the step record of a valid record, with a zero for each field that its kind does not carry. -/
theorem StepRecord.Valid.stepRecordBytes_layout : stepRecordBytes r =
    bytesOf 1 r.kind.code ++ bytesOf 2 (if r.kind = .rest ∨ r.kind = .endStep then 0 else r.current)
      ++ bytesOf 2 (if r.kind = .endStep then 0 else r.volt) ++ bytesOf 2 (if r.kind = .voltage then r.endCurrent else 0)
      ++ bytesOf 2 (if r.kind = .topoff ∨ r.kind = .rest then r.duration else 0)
      ++ bytesOf 2 (if r.kind = .precharge ∨ r.kind = .current ∨ r.kind = .voltage then r.timeout else 0)
      ++ (if r.kind = .endStep then [0, 0, 0] else signedBytesOf 1 r.cold ++ signedBytesOf 1 r.hot ++ bytesOf 1 r.next) := by
  have tail : signedBytesOf 1 r.cold ++ signedBytesOf 1 r.hot ++ bytesOf 1 r.next
      = if r.kind = .endStep then [0, 0, 0] else signedBytesOf 1 r.cold ++ signedBytesOf 1 r.hot ++ bytesOf 1 r.next := by
    split
    next ended =>
      obtain ⟨-, cold, hot, next⟩ := valid.endStep_fields ended
      rw [cold, hot, next]
      rfl
    next => rfl
  rw [ite_eq_right_iff.mpr fun h => (valid.current_uncarried h).symm,
    ite_eq_right_iff.mpr fun h => (valid.endStep_fields h).1.symm,
    ite_eq_left_iff.mpr fun h => (valid.endCurrent_uncarried h).symm,
    ite_eq_left_iff.mpr fun h => (valid.duration_uncarried h).symm,
    ite_eq_left_iff.mpr fun h => (valid.timeout_uncarried h).symm, ← tail]
  simp only [stepRecordBytes, List.append_assoc]

end

/-- R90: every slot of a sound profile memory holds a valid record. -/
theorem ProfileSound.recordAt_valid {profile : List StepRecord} (sound : ProfileSound profile) {slot : Nat}
    (within : slot < 48) : (recordAt profile slot).Valid := by
  obtain ⟨slots, valid⟩ := sound
  have inside : slot < profile.length := slots ▸ within
  rw [recordAt, List.getD_eq_getElem _ _ inside]
  exact valid _ (List.getElem_mem inside)

/-! ### Profile memory takes a STEP_READ (R113) -/

section
variable (p : Port) (slot : Nat) (s : State)

theorem takeStepRead_outside (outside : 48 ≤ slot) : takeStepRead p slot s = withReply p .badValue [] s := by
  have above : Config.profileSlots ≤ slot := outside
  rw [takeStepRead, if_pos above, refuse_eq_withReply]

theorem takeStepRead_within (within : slot < 48) :
    takeStepRead p slot s = withReply p .ok (stepRecordBytes (recordAt s.profile slot)) s := by
  have inside : ¬ Config.profileSlots ≤ slot := Nat.not_le.mpr within
  rw [takeStepRead, if_neg inside, handReply_eq_withReply]

/-- Every port but INPUT may send STEP_READ, so a well-framed one from there reaches profile memory. -/
theorem exec_stepRead_handed (h : Hands s p) (allowed : p ≠ .input) :
    let i : Instr := .stepRead p (Framing.ofLength 1) slot
    exec i s = .next (takeStepRead p slot (handedOver p i s)) :=
  congrArg Host.Outcome.next (takeRequest_handed p .stepRead _ (takeStepRead p slot) s h (bne_iff_ne.mpr allowed))

end

/-- Settles O42: the two answers are those of profile memory to the slot it is handed; the port interface leaves that memory
alone, so where it was sound the record read is valid, and its layout shows a zero for each field not carried. -/
theorem stepReadReturns : Obligations.StepReadReturns := by
  intro s p slot hands allowed i u r kind
  have taken : exec i s = .next (takeStepRead p slot u) := exec_stepRead_handed p slot s hands allowed
  rw [taken]
  refine ⟨fun outside => ?_, fun within => ?_, fun within sound => ?_⟩
  · rw [takeStepRead_outside p slot u outside]
  · rw [takeStepRead_within p slot u within]
    rfl
  · rw [takeStepRead_within p slot u within]
    have kept : ProfileSound u.profile := (handedOver_profile p i s).symm ▸ sound
    exact congrArg (fun record => Host.Outcome.next (withReply p .ok record u))
      (kept.recordAt_valid within).stepRecordBytes_layout

end Sys2Proof.Machine
end

section
/-! The reactions of the blocks as chains of elementary changes: what each operation may touch, and what a chain leaves. -/

namespace Sys2Proof.Machine

/-! ### The operations' own effects -/

/-- R66: a trigger is ignored, starts a pass, or asks for a rerun. -/
theorem trigger_cases (s : State) :
    trigger s = s ∨ (s.alloc.pass = none ∧ trigger s = startPass s)
      ∨ (∃ x, s.alloc.pass = some x) ∧ trigger s = s.setAlloc { s.alloc with rerun := true } := by
  unfold trigger
  split
  · exact .inl rfl
  · cases h : s.alloc.pass with
    | none => exact .inr (.inl ⟨rfl, rfl⟩)
    | some x => exact .inr (.inr ⟨⟨x, rfl⟩, rfl⟩)

/-- A channel but for NO_LINK, what it presents, and the stale mark: all that reports of the link and passes change of it. -/
def Channel.linkless (ch : Channel) : Channel :=
  { ch with reasons := { ch.reasons with noLink := false }, presented := 0, stale := false }

/-- What a reaction of the blocks may touch; `linkB` is what a report of the link does to channel B. -/
inductive Effect where
  | pass | notice | monitor | rest | view | path | link | arb | lock | queue | last | chA | chB | linkB | hot
  deriving DecidableEq, Repr

/-- The elementary changes that the blocks' reactions are made of. None of them places a job. -/
inductive Touches : Effect → State → State → Prop
  | pass (s : State) : Touches .pass s (trigger s)
  | notice (k : Notice) (p : Port) (s : State) : Touches .notice s (raiseNotice k p s)
  | monitor (s : State) : Touches .monitor s (monitorTest s)
  | rest (s : State) (pending : s.hold.state = .pending) : Touches .rest s (s.setHold { s.hold with
      state := .effective
      holders := { main := s.hold.holders.main.effective s.now, hub := s.hold.holders.hub.effective s.now,
                   input := s.hold.holders.input.effective s.now } })
  | view (v : LinkState) (s : State) : Touches .view s (s.setHold { s.hold with view := v })
  | path (x : Stage Nat) (s : State) : Touches .path s (s.tickFree.setPathA { s.pathA with stage := x })
  | link (x : Stage Flow) (s : State) : Touches .link s { s.tickFree with linkStage := x }
  | arb (a : Arbiter) (s : State) (lock : a.faultLock = s.arb.faultLock) : Touches .arb s (s.setArb a)
  | lock (b : Bool) (s : State) : Touches .lock s (s.setArb { s.arb with faultLock := b })
  | queue (q : List Job) (s : State) (kept : s.bal.queue = [] → q = []) : Touches .queue s (s.setQueue q)
  | last (x : PerPort (Option LastResult)) (s : State) : Touches .last s (s.setBal { s.bal with last := x })
  | chA (ch : Channel) (s : State) : Touches .chA s { s with chA := ch }
  | chB (ch : Channel) (s : State) : Touches .chB s { s with chB := ch }
  | linkB (ch : Channel) (s : State) (same : ch.linkless = s.chB.linkless) (mark : ch.stale = s.chB.stale) :
      Touches .linkB s { s with chB := ch }
  | hot (b : Bool) (s : State) : Touches .hot s (s.setEngineHot b)

/-- A chain of elementary changes, each of a kind that `E` lists. -/
def Reacts (E : List Effect) : State → State → Prop := Relation.ReflTransGen (fun s t => ∃ e ∈ E, Touches e s t)

section
variable {E F : List Effect} {s t u : State}

theorem Reacts.refl (s : State) : Reacts E s s := Relation.ReflTransGen.refl

theorem Reacts.trans (h : Reacts E s t) (k : Reacts E t u) : Reacts E s u := Relation.ReflTransGen.trans h k

theorem Touches.reacts {e : Effect} (h : Touches e s t) (he : e ∈ E) : Reacts E s t :=
  Relation.ReflTransGen.single ⟨e, he, h⟩

theorem Reacts.mono (sub : E ⊆ F) (h : Reacts E s t) : Reacts F s t :=
  Relation.ReflTransGen.mono (fun _ _ ⟨e, he, h⟩ => ⟨e, sub he, h⟩) _ _ h

/-- A figure that no elementary change of the chain touches stands as it was. -/
theorem Reacts.same {β : Type} (f : State → β) (keep : ∀ e ∈ E, ∀ s t, Touches e s t → f t = f s) (h : Reacts E s t) :
    f t = f s := by
  induction h with
  | refl => rfl
  | tail _ step ih =>
    obtain ⟨e, he, touch⟩ := step
    rw [keep e he _ _ touch, ih]

/-- A relation that holds across each elementary change of the chain, and composes, holds across the chain. -/
theorem Reacts.rel (R : State → State → Prop) (refl : ∀ s, R s s) (trans : ∀ s t u, R s t → R t u → R s u)
    (step : ∀ e ∈ E, ∀ s t, Touches e s t → R s t) (h : Reacts E s t) : R s t := by
  induction h with
  | refl => exact refl _
  | tail _ last ih =>
    obtain ⟨e, he, touch⟩ := last
    exact trans _ _ _ ih (step e he _ _ touch)

theorem Reacts.ite {c : Prop} [Decidable c] {a b : State} (ha : Reacts E s a) (hb : Reacts E s b) :
    Reacts E s (if c then a else b) := by
  split
  · exact ha
  · exact hb

theorem Reacts.foldl {α : Type} (f : State → α → State) (l : List α) (h : ∀ x ∈ l, ∀ s, Reacts E s (f s x)) :
    ∀ s, Reacts E s (l.foldl f s) := by
  induction l with
  | nil => exact fun s => .refl s
  | cons x l ih =>
    intro s
    exact (h x (List.mem_cons_self ..) s).trans (ih (fun y hy => h y (List.mem_cons_of_mem _ hy)) _)

end

/-! ### What each elementary change leaves alone -/

section
variable {e : Effect} {s t : State} (h : Touches e s t)
include h

/-- Every elementary change keeps what reactions keep. -/
theorem Touches.outer : t.outer = s.outer := by
  cases h with
  | pass => exact trigger_outer s
  | notice k p => exact raiseNotice_outer k p s
  | monitor => exact monitorTest_outer s
  | _ => rfl

theorem Touches.chA_eq (ne : e ≠ .chA) (np : e ≠ .pass) : t.chA = s.chA := by
  cases h with
  | chA | pass => contradiction
  | monitor => unfold monitorTest; split <;> rfl
  | _ => rfl

theorem Touches.chB_eq (ne : e ≠ .chB) (nl : e ≠ .linkB) (np : e ≠ .pass) : t.chB = s.chB := by
  cases h with
  | chB | linkB | pass => contradiction
  | monitor => unfold monitorTest; split <;> rfl
  | _ => rfl

/-- The channel but for its stale mark, which a pass clears. -/
theorem Touches.chA_fresh (ne : e ≠ .chA) : { t.chA with stale := false } = { s.chA with stale := false } := by
  cases h with
  | chA => contradiction
  | monitor => unfold monitorTest; split <;> rfl
  | pass => obtain h | ⟨-, h⟩ | ⟨-, h⟩ := trigger_cases s <;> rw [h] <;> rfl
  | _ => rfl

theorem Touches.chB_fresh (ne : e ≠ .chB) (nl : e ≠ .linkB) : { t.chB with stale := false } = { s.chB with stale := false } := by
  cases h with
  | chB | linkB => contradiction
  | monitor => unfold monitorTest; split <;> rfl
  | pass => obtain h | ⟨-, h⟩ | ⟨-, h⟩ := trigger_cases s <;> rw [h] <;> rfl
  | _ => rfl

/-- R94: reports of the link reach NO_LINK and what channel B presents alone. -/
theorem Touches.chB_linkless (ne : e ≠ .chB) : t.chB.linkless = s.chB.linkless := by
  cases h with
  | chB => contradiction
  | linkB => assumption
  | monitor => unfold monitorTest; split <;> rfl
  | pass => obtain h | ⟨-, h⟩ | ⟨-, h⟩ := trigger_cases s <;> rw [h] <;> rfl
  | _ => rfl

theorem Touches.arb_eq (ne : e ≠ .arb) (nl : e ≠ .lock) : t.arb = s.arb := by
  cases h with
  | arb | lock => contradiction
  | monitor => unfold monitorTest; split <;> rfl
  | pass => obtain h | ⟨-, h⟩ | ⟨-, h⟩ := trigger_cases s <;> rw [h] <;> rfl
  | _ => rfl

theorem Touches.faultLock_eq (nl : e ≠ .lock) : t.arb.faultLock = s.arb.faultLock := by
  by_cases ne : e = .arb
  · subst ne
    cases h with
    | arb a lock => assumption
  · rw [h.arb_eq ne nl]

theorem Touches.queue_eq (ne : e ≠ .queue) : t.bal.queue = s.bal.queue := by
  cases h with
  | queue => contradiction
  | monitor => unfold monitorTest; split <;> rfl
  | pass => obtain h | ⟨-, h⟩ | ⟨-, h⟩ := trigger_cases s <;> rw [h] <;> rfl
  | _ => rfl

theorem Touches.last_eq (ne : e ≠ .last) : t.bal.last = s.bal.last := by
  cases h with
  | last => contradiction
  | monitor => unfold monitorTest; split <;> rfl
  | pass => obtain h | ⟨-, h⟩ | ⟨-, h⟩ := trigger_cases s <;> rw [h] <;> rfl
  | _ => rfl

theorem Touches.hot_eq (ne : e ≠ .hot) : t.bal.dieHot = s.bal.dieHot := by
  cases h with
  | hot => contradiction
  | monitor => unfold monitorTest; split <;> rfl
  | pass => obtain h | ⟨-, h⟩ | ⟨-, h⟩ := trigger_cases s <;> rw [h] <;> rfl
  | _ => rfl

theorem Touches.tagCounter_eq : t.bal.tagCounter = s.bal.tagCounter := by
  cases h with
  | monitor => unfold monitorTest; split <;> rfl
  | pass => obtain h | ⟨-, h⟩ | ⟨-, h⟩ := trigger_cases s <;> rw [h] <;> rfl
  | _ => rfl

theorem Touches.view_eq (ne : e ≠ .view) : t.hold.view = s.hold.view := by
  cases h with
  | view => contradiction
  | monitor => unfold monitorTest; split <;> rfl
  | pass => obtain h | ⟨-, h⟩ | ⟨-, h⟩ := trigger_cases s <;> rw [h] <;> rfl
  | _ => rfl

theorem Touches.hold_eq (ne : e ≠ .view) (nr : e ≠ .rest) : t.hold = s.hold := by
  cases h with
  | view | rest => contradiction
  | monitor => unfold monitorTest; split <;> rfl
  | pass => obtain h | ⟨-, h⟩ | ⟨-, h⟩ := trigger_cases s <;> rw [h] <;> rfl
  | _ => rfl

/-- R153: no reaction enters or leaves OFF. -/
theorem Touches.holdOff_iff : t.hold.state = .off ↔ s.hold.state = .off := by
  cases h with
  | rest _ pending => exact ⟨nofun, fun off => by rw [off] at pending; contradiction⟩
  | monitor => unfold monitorTest; split <;> rfl
  | pass => obtain h | ⟨-, h⟩ | ⟨-, h⟩ := trigger_cases s <;> rw [h] <;> rfl
  | _ => exact Iff.rfl

theorem Touches.pathA_eq (ne : e ≠ .path) : t.pathA = s.pathA := by
  cases h with
  | path => contradiction
  | monitor => unfold monitorTest; split <;> rfl
  | pass => obtain h | ⟨-, h⟩ | ⟨-, h⟩ := trigger_cases s <;> rw [h] <;> rfl
  | _ => rfl

theorem Touches.linkStage_eq (ne : e ≠ .link) : t.linkStage = s.linkStage := by
  cases h with
  | link => contradiction
  | monitor => unfold monitorTest; split <;> rfl
  | pass => obtain h | ⟨-, h⟩ | ⟨-, h⟩ := trigger_cases s <;> rw [h] <;> rfl
  | _ => rfl

theorem Touches.power_eq (ne : e ≠ .monitor) : t.power = s.power := by
  cases h with
  | monitor => contradiction
  | pass => obtain h | ⟨-, h⟩ | ⟨-, h⟩ := trigger_cases s <;> rw [h] <;> rfl
  | _ => rfl

theorem Touches.seq_eq (ne : e ≠ .monitor) : t.seq = s.seq := by
  cases h with
  | monitor => contradiction
  | pass => obtain h | ⟨-, h⟩ | ⟨-, h⟩ := trigger_cases s <;> rw [h] <;> rfl
  | _ => rfl

theorem Touches.alloc_eq (ne : e ≠ .pass) : t.alloc = s.alloc := by
  cases h with
  | pass => contradiction
  | monitor => unfold monitorTest; split <;> rfl
  | _ => rfl

theorem Touches.ports_eq (ne : e ≠ .notice) : t.ports = s.ports := by
  cases h with
  | notice => contradiction
  | monitor => unfold monitorTest; split <;> rfl
  | pass => obtain h | ⟨-, h⟩ | ⟨-, h⟩ := trigger_cases s <;> rw [h] <;> rfl
  | _ => rfl

end

end Sys2Proof.Machine
end

section
/-! Each operation of the blocks is a chain of elementary changes, of the kinds listed with it. -/

namespace Sys2Proof.Machine

/-! ### The kinds of change that an operation may make -/

/-- The hold control's test: a hold may become EFFECTIVE. -/
abbrev restEffects : List Effect := [.rest, .notice, .pass]
/-- The hinge link takes a target. -/
abbrev followEffects : List Effect := .link :: restEffects
/-- The cell A path takes a setpoint. -/
abbrev chargeEffects : List Effect := .path :: restEffects
/-- Channel B takes a report of its link. -/
abbrev reportBEffects : List Effect := .linkB :: followEffects
/-- The arbiter grants, loses and reports, without the engine. -/
abbrev arbiterEffects : List Effect := .view :: .arb :: reportBEffects
/-- The arbiter and the engine. -/
abbrev engineEffects : List Effect := .queue :: .last :: .monitor :: arbiterEffects
/-- An event of channel A. -/
abbrev channelAEffects : List Effect := .chA :: .monitor :: chargeEffects
/-- An event of any of the blocks but for the report of DIE_HOT to the engine. -/
abbrev blockEffects : List Effect := .chA :: .chB :: .path :: engineEffects
/-- An event of any of the blocks, that report with it. -/
abbrev allEffects : List Effect := .hot :: blockEffects
/-- The reports that a sample's raises and clears make. -/
abbrev reportEffects : List Effect := .lock :: allEffects

/-! ### Shared operations -/

section
variable (s : State)

theorem trigger_reacts {E : List Effect} (h : .pass ∈ E) : Reacts E s (trigger s) := (Touches.pass s).reacts h

theorem raiseNotice_reacts {E : List Effect} (h : .notice ∈ E) (k : Notice) (p : Port) : Reacts E s (raiseNotice k p s) :=
  (Touches.notice k p s).reacts h

theorem raiseMainHub_reacts {E : List Effect} (h : .notice ∈ E) (k : Notice) : Reacts E s (raiseMainHub k s) :=
  (raiseNotice_reacts s h k .main).trans (raiseNotice_reacts _ h k .hub)

theorem raiseIf_reacts {E : List Effect} {f : State → State} (b : Bool) (h : ∀ s, Reacts E s (f s)) :
    Reacts E s (raiseIf b f s) := .ite (h s) (.refl s)

theorem monitorTest_reacts {E : List Effect} (h : .monitor ∈ E) : Reacts E s (monitorTest s) := (Touches.monitor s).reacts h

/-- R157: HOLD_EFFECTIVE goes to every holder. -/
def tellHolders (s : State) : State :=
  raiseIf s.hold.holders.input.joined (raiseNotice .holdEffective .input)
    (raiseIf s.hold.holders.hub.joined (raiseNotice .holdEffective .hub)
      (raiseIf s.hold.holders.main.joined (raiseNotice .holdEffective .main) s))

/-- R157: the hold is EFFECTIVE, and every holder's timer runs. -/
def startHolders (s : State) : State := s.setHold { s.hold with
  state := .effective
  holders := { main := s.hold.holders.main.effective s.now, hub := s.hold.holders.hub.effective s.now,
               input := s.hold.holders.input.effective s.now } }

theorem tellHolders_hold : (tellHolders s).hold = s.hold := by simp [tellHolders]

theorem becomeEffective_eq : becomeEffective s = trigger (startHolders (tellHolders s)) := by
  unfold startHolders
  rw [tellHolders_hold]
  unfold becomeEffective
  simp only [raiseIf_raiseNotice_hold]
  rfl

theorem tellHolders_reacts : Reacts restEffects s (tellHolders s) := by
  have told (u : State) (k : Notice) (b : Bool) (p : Port) : Reacts restEffects u (raiseIf b (raiseNotice k p) u) :=
    raiseIf_reacts u b fun v => raiseNotice_reacts v (by decide) k p
  exact ((told s .holdEffective _ .main).trans (told _ .holdEffective _ .hub)).trans (told _ .holdEffective _ .input)

theorem becomeEffective_reacts (pending : s.hold.state = .pending) : Reacts restEffects s (becomeEffective s) := by
  rw [becomeEffective_eq]
  have started : Reacts restEffects (tellHolders s) (startHolders (tellHolders s)) :=
    (Touches.rest _ (by rw [tellHolders_hold]; exact pending)).reacts (by decide)
  exact ((tellHolders_reacts s).trans started).trans (trigger_reacts _ (by decide))

theorem holdTest_reacts : Reacts restEffects s (holdTest s) := by
  unfold holdTest
  split
  next h => exact becomeEffective_reacts s (Bool.and_eq_true_iff.mp h |>.1 |> of_decide_eq_true)
  · exact .refl s

theorem takeCharge_reacts (n : Nat) : Reacts chargeEffects s (takeCharge n s) := by
  unfold takeCharge
  split
  · exact .refl s
  · have moved := (Touches.path (s.pathA.stage.take (s.pathA.stage.outputNow s.freeUses) n).1 s).reacts
      (by decide : Effect.path ∈ chargeEffects)
    exact .ite (moved.trans ((holdTest_reacts _).mono (by decide))) moved

theorem linkFollow_reacts : Reacts followEffects s (linkFollow s) := by
  unfold linkFollow
  split
  · exact .refl s
  · have moved := (Touches.link (s.linkStage.take (s.linkStage.flowNow s.freeUses) s.linkTarget).1 s).reacts
      (by decide : Effect.link ∈ followEffects)
    exact .ite (moved.trans ((holdTest_reacts _).mono (by decide))) moved

/-! ### The arbiter -/

theorem reportToB_reacts (b : Bool) : Reacts reportBEffects s (reportToB b s) := by
  have reasoned : (Change.withReasons .b s.profile { s.chB.reasons with noLink := b } s.chB).ch.linkless = s.chB.linkless := by
    unfold Change.withReasons
    split <;> rfl
  have marked : (Change.withReasons .b s.profile { s.chB.reasons with noLink := b } s.chB).ch.stale = s.chB.stale := by
    unfold Change.withReasons
    split <;> rfl
  have changed := ((Touches.linkB (Change.withReasons .b s.profile { s.chB.reasons with noLink := b } s.chB).ch s reasoned marked).reacts
      (by decide : Effect.linkB ∈ reportBEffects)).trans ((linkFollow_reacts _).mono (by decide))
  exact .ite (changed.trans (trigger_reacts _ (by decide))) changed

theorem reportLink_reacts : Reacts (.view :: restEffects) s (reportLink s) :=
  ((Touches.view s.arb.link s).reacts (by decide)).trans ((holdTest_reacts _).mono (by decide))

theorem reportLossToEngine_reacts (cause : LossCause) : Reacts [.queue] s (reportLossToEngine cause s) := by
  unfold reportLossToEngine
  have moved {j : Job} {rest : List Job} (queue : s.bal.queue = j :: rest) (q : List Job) :
      Reacts [.queue] s (s.setBal { s.bal with queue := q }) :=
    (Touches.queue q s fun none => absurd (queue.symm.trans none) nofun).reacts (by decide)
  split
  next queue => exact .ite (moved queue _) (.refl s)
  next queue => exact .ite (moved queue _) (.refl s)
  all_goals exact .refl s

/-- The arbiter's own part of a grant or a loss leaves the fault lock. -/
theorem granted_faultLock (now tenure : Nat) (r : Requester) (a : Arbiter) : (a.granted now tenure r).faultLock = a.faultLock := by
  cases r <;> rfl
theorem lost_faultLock (now : Nat) (r : Requester) (b : Bool) (a : Arbiter) : (a.lost now r b).faultLock = a.faultLock := by
  cases r <;> rfl

end

section
variable {onBalance : State → State} {E : List Effect} (sub : arbiterEffects ⊆ E) (hB : ∀ s, Reacts E s (onBalance s))
include sub hB

theorem grantLink_reacts (r : Requester) (s : State) : Reacts E s (grantLink onBalance r s) := by
  have set : Reacts E s (s.setArb (s.arb.granted s.now s.settings.tenure r)) :=
    (Touches.arb _ s (granted_faultLock ..)).reacts (sub (by decide))
  have followed := set.trans ((linkFollow_reacts _).mono (List.Subset.trans (by decide) sub))
  have report (u : State) : Reacts E u (trigger (reportLink u)) :=
    ((reportLink_reacts u).mono (List.Subset.trans (by decide) sub)).trans (trigger_reacts _ (sub (by decide)))
  cases r with
  | supply => exact followed.trans (report _)
  | chargeB => exact (followed.trans ((reportToB_reacts _ false).mono (List.Subset.trans (by decide) sub))).trans (report _)
  | balance => exact (followed.trans (hB _)).trans (report _)

theorem chooseFree_reacts (s : State) : Reacts E s (chooseFree onBalance s) := by
  unfold chooseFree
  split
  · exact .ite (grantLink_reacts sub hB _ s) (.refl s)
  · exact .refl s

theorem endChangeover_reacts (s : State) : Reacts E s (endChangeover onBalance s) := by
  unfold endChangeover
  split
  · exact grantLink_reacts sub hB _ s
  · have freed : Reacts E s (s.setArb { s.arb with link := .free }) := by
      exact Touches.reacts (.arb _ s rfl) (sub (by decide))
    exact freed.trans ((reportLink_reacts _).mono (List.Subset.trans (by decide) sub))

/-- A loss by SUPPLY or CHARGE_B leaves the engine alone but for what a grant in its wake does. -/
theorem loseLink_reacts_of_ne (cause : LossCause) {r : Requester} (ne : r ≠ .balance) (s : State) :
    Reacts E s (loseLink onBalance cause r s) := by
  have followed : Reacts E s (linkFollow (s.setArb (s.arb.lost s.now r (cause != .withdrawal)))) :=
    ((Touches.arb _ s (lost_faultLock ..)).reacts (sub (by decide))).trans
      ((linkFollow_reacts _).mono (List.Subset.trans (by decide) sub))
  have report (u : State) : Reacts E u (trigger (reportLink u)) :=
    ((reportLink_reacts u).mono (List.Subset.trans (by decide) sub)).trans (trigger_reacts _ (sub (by decide)))
  have last (u : State) (h : Reacts E s u) : Reacts E s (if u.linkSettledZero then endChangeover onBalance u else u) :=
    .ite (h.trans (endChangeover_reacts sub hB u)) h
  cases r with
  | supply => exact last _ (followed.trans (report _))
  | chargeB =>
    exact last _ ((followed.trans ((reportToB_reacts _ true).mono (List.Subset.trans (by decide) sub))).trans (report _))
  | balance => contradiction

variable (queue : Effect.queue ∈ E)
include queue

theorem loseLink_reacts (cause : LossCause) (r : Requester) (s : State) : Reacts E s (loseLink onBalance cause r s) := by
  by_cases ne : r = .balance
  · subst ne
    have followed : Reacts E s (linkFollow (s.setArb (s.arb.lost s.now .balance (cause != .withdrawal)))) :=
      ((Touches.arb _ s (lost_faultLock ..)).reacts (sub (by decide))).trans
        ((linkFollow_reacts _).mono (List.Subset.trans (by decide) sub))
    have told := (followed.trans ((reportLossToEngine_reacts _ cause).mono (by simpa using queue))).trans
      (((reportLink_reacts _).mono (List.Subset.trans (by decide) sub)).trans (trigger_reacts _ (sub (by decide))))
    exact .ite (told.trans (endChangeover_reacts sub hB _)) told
  · exact loseLink_reacts_of_ne sub hB cause ne s

theorem startYield_reacts (r : Requester) (s : State) : Reacts E s (startYield onBalance r s) := by
  unfold startYield
  split
  · exact loseLink_reacts sub hB queue _ _ s
  · have set : Reacts E s (s.setArb { s.arb with yieldPending := true }) := Touches.reacts (.arb _ s rfl) (sub (by decide))
    exact set
  · exact .refl s

theorem arriveHeld_reacts (r holder : Requester) (s : State) : Reacts E s (arriveHeld onBalance r holder s) := by
  unfold arriveHeld
  split
  · exact loseLink_reacts sub hB queue _ _ s
  · exact .ite (startYield_reacts sub hB queue _ s) (.refl s)
  · exact .ite (startYield_reacts sub hB queue _ s) (.refl s)

theorem raiseLink_reacts (r : Requester) (s : State) : Reacts E s (raiseLink onBalance r s) := by
  unfold raiseLink
  split
  · exact .refl s
  · have asked : Reacts E s (s.setArb { s.arb with waiting := s.arb.waiting.put r true }) :=
      Touches.reacts (.arb _ s rfl) (sub (by decide))
    dsimp only
    split
    · exact asked.trans (chooseFree_reacts sub hB _)
    · exact asked.trans (arriveHeld_reacts sub hB queue _ _ _)
    · exact asked

theorem withdrawLink_reacts (r : Requester) (s : State) : Reacts E s (withdrawLink onBalance r s) := by
  unfold withdrawLink
  split
  · exact loseLink_reacts sub hB queue _ _ s
  · refine .ite ?_ (.refl s)
    exact Touches.reacts (.arb _ s rfl) (sub (by decide))

end

/-! ### The engine -/

section
variable {E : List Effect} (s : State)

theorem setQueue_reacts (h : .queue ∈ E) {j : Job} {rest : List Job} (queue : s.bal.queue = j :: rest) (q : List Job) :
    Reacts E s (s.setQueue q) := (Touches.queue q s fun none => absurd (queue.symm.trans none) nofun).reacts h

theorem queueEmptied_reacts (h : .monitor ∈ E) : Reacts E s (queueEmptied s) :=
  .ite (monitorTest_reacts s h) (.refl s)

theorem recordEnding_reacts (hl : .last ∈ E) (hn : .notice ∈ E) (j : Job) (reason : EndReason) :
    Reacts E s (recordEnding j reason s) :=
  Reacts.trans ((Touches.last _ s).reacts hl) (raiseNotice_reacts _ hn _ _)

end

section
variable {onBalance : State → State} (hB : ∀ s, Reacts engineEffects s (onBalance s))
include hB

theorem newHead_reacts (s : State) : Reacts engineEffects s (newHead onBalance s) := by
  unfold newHead
  split
  · exact .refl s
  next queue =>
    exact .ite ((setQueue_reacts s (by decide) queue _).trans (raiseLink_reacts (by decide) hB (by decide) _ _))
      (setQueue_reacts s (by decide) queue _)

theorem endHead_reacts (reason : EndReason) (s : State) : Reacts engineEffects s (endHead onBalance reason s) := by
  unfold endHead
  split
  · exact .refl s
  next queue =>
    refine Reacts.trans ?_ (queueEmptied_reacts _ (by decide))
    refine Reacts.trans (Reacts.trans ?_ (recordEnding_reacts _ (by decide) (by decide) _ _)) (newHead_reacts hB _)
    have shorter := setQueue_reacts (E := engineEffects) s (by decide) queue
    exact .ite (shorter _) ((shorter _).trans (withdrawLink_reacts (by decide) hB (by decide) _ _))

end

theorem startChecks_reacts (s : State) : Reacts engineEffects s (startChecks s) := by
  unfold startChecks
  split
  · exact .refl s
  next queue =>
    refine .ite ?_ (.refl s)
    split
    · exact (setQueue_reacts s (by decide) queue _).trans ((linkFollow_reacts _).mono (by decide))
    · exact endHead_reacts (fun s => .refl s) _ s

section
variable (s : State)

theorem raiseReq_reacts (r : Requester) : Reacts engineEffects s (raiseReq r s) :=
  raiseLink_reacts (by decide) startChecks_reacts (by decide) r s
theorem withdrawReq_reacts (r : Requester) : Reacts engineEffects s (withdrawReq r s) :=
  withdrawLink_reacts (by decide) startChecks_reacts (by decide) r s
theorem choiceFree_reacts : Reacts engineEffects s (choiceFree s) := chooseFree_reacts (by decide) startChecks_reacts s
theorem changeoverEnds_reacts : Reacts engineEffects s (changeoverEnds s) :=
  endChangeover_reacts (by decide) startChecks_reacts s
theorem lossOf_reacts (cause : LossCause) (r : Requester) : Reacts engineEffects s (lossOf cause r s) :=
  loseLink_reacts (by decide) startChecks_reacts (by decide) cause r s
theorem yieldOf_reacts (r : Requester) : Reacts engineEffects s (yieldOf r s) :=
  startYield_reacts (by decide) startChecks_reacts (by decide) r s
theorem finishHead_reacts (reason : EndReason) : Reacts engineEffects s (finishHead reason s) :=
  endHead_reacts startChecks_reacts reason s

theorem suspendHead_reacts : Reacts engineEffects s (suspendHead s) := by
  unfold suspendHead
  split
  · exact .refl s
  next queue =>
    split
    · exact .refl s
    · exact (setQueue_reacts s (by decide) queue _).trans (withdrawReq_reacts _ _)
    · exact ((setQueue_reacts s (by decide) queue _).trans ((linkFollow_reacts _).mono (by decide))).trans (withdrawReq_reacts _ _)

theorem releaseHead_reacts : Reacts engineEffects s (releaseHead s) := by
  unfold releaseHead
  split
  · exact .refl s
  next queue => exact .ite ((setQueue_reacts s (by decide) queue _).trans (raiseReq_reacts _ _)) (.refl s)

theorem quantumReport_reacts : Reacts engineEffects s (quantumReport s) := .ite (lossOf_reacts s _ _) (.refl s)

theorem engineSample_reacts : Reacts engineEffects s (engineSample s) := by
  unfold engineSample
  split
  · exact .refl s
  next queue =>
    dsimp only
    have credited (q : List Job) (c : Bool) : Reacts engineEffects s (if c then quantumReport (s.setQueue q) else s.setQueue q) :=
      .ite ((setQueue_reacts s (by decide) queue q).trans (quantumReport_reacts _)) (setQueue_reacts s (by decide) queue q)
    split
    · exact (credited _ _).trans (finishHead_reacts _ _)
    · exact credited _ _

theorem endAll_reacts (n : Nat) : ∀ s, Reacts engineEffects s (endAll n s) := by
  induction n with
  | zero => exact fun s => .refl s
  | succ n ih => exact fun s => (finishHead_reacts s _).trans (ih _)

theorem linkFaultToEngine_reacts : Reacts engineEffects s (linkFaultToEngine s) := by
  unfold linkFaultToEngine
  split
  · exact .refl s
  · exact .ite (finishHead_reacts s _) (.refl s)

theorem enginePortReset_reacts (p : Port) : Reacts engineEffects s (enginePortReset p s) := by
  have kept : Reacts engineEffects s (s.setBal { s.bal with
      queue := s.bal.queue.filter (fun j => j.originator != p)
      last := s.bal.last.set p (resetResult p s.bal.queue) }) :=
    Reacts.trans ((Touches.queue (s.bal.queue.filter (fun j => j.originator != p)) s fun none => by rw [none]; rfl).reacts (by decide))
      (Touches.reacts (.last (s.bal.last.set p (resetResult p s.bal.queue)) _) (by decide))
  unfold enginePortReset
  dsimp only
  split
  · exact kept
  · refine .ite (Reacts.trans (Reacts.trans ?_ (newHead_reacts startChecks_reacts _)) (queueEmptied_reacts _ (by decide))) kept
    exact .ite kept (kept.trans (withdrawReq_reacts _ _))

/-! ### Channels -/

theorem syncChargeB_reacts : Reacts (.chB :: engineEffects) s (syncChargeB s) := by
  have asked (b : Bool) : Reacts (.chB :: engineEffects) s { s with chB := { s.chB with request := b } } :=
    (Touches.chB { s.chB with request := b } s).reacts (by decide)
  refine .ite (.refl s) (.ite ?_ ?_)
  · exact (asked _).trans ((raiseReq_reacts _ _).mono (by decide))
  · exact (asked _).trans ((withdrawReq_reacts _ _).mono (by decide))

/-- The kinds of change that an event of the channel may make. -/
def channelEffects : Cell → List Effect
  | .a => channelAEffects
  | .b => .chB :: engineEffects

theorem channelEffects_sub (c : Cell) : channelEffects c ⊆ blockEffects := by cases c <;> decide

theorem handPresented_reacts (c : Cell) : Reacts (channelEffects c) s (handPresented c s) := by
  cases c with
  | a => exact (takeCharge_reacts s _).mono (by decide)
  | b => exact ((linkFollow_reacts s).mono (by decide)).trans (syncChargeB_reacts _)

theorem setChannel_reacts (c : Cell) (ch : Channel) : Reacts (channelEffects c) s (s.setChannel c ch) := by
  cases c with
  | a => exact (Touches.chA ch s).reacts (by decide)
  | b => exact (Touches.chB ch s).reacts (by decide)

theorem commit_reacts (c : Cell) (y : Change) : Reacts (channelEffects c) s (commit c y s) := by
  have notice : Effect.notice ∈ channelEffects c := by cases c <;> decide
  have monitor : Effect.monitor ∈ channelEffects c := by cases c <;> decide
  have pass : Effect.pass ∈ channelEffects c := by cases c <;> decide
  have told (k : Notice) (b : Bool) (u : State) : Reacts (channelEffects c) u (raiseIf b (raiseMainHub k) u) :=
    raiseIf_reacts u b fun v => raiseMainHub_reacts v notice k
  have handed := (((setChannel_reacts s c y.ch).trans (told .chStep y.entered _)).trans (told .chEnd y.ended _)).trans
    (handPresented_reacts _ c)
  have tested : Reacts (channelEffects c) s (if (s.channel c).state = .active && y.ch.state != .active then
      monitorTest (handPresented c (raiseIf y.ended (raiseMainHub .chEnd) (raiseIf y.entered (raiseMainHub .chStep)
        (s.setChannel c y.ch)))) else handPresented c (raiseIf y.ended (raiseMainHub .chEnd)
        (raiseIf y.entered (raiseMainHub .chStep) (s.setChannel c y.ch)))) :=
    .ite (handed.trans (monitorTest_reacts _ monitor)) handed
  exact .ite (tested.trans (trigger_reacts _ pass)) tested

theorem channelReasons_reacts (c : Cell) (f : Reasons → Reasons) : Reacts (channelEffects c) s (channelReasons c f s) :=
  commit_reacts s c _
theorem startChannel_reacts (c : Cell) (n : Nat) : Reacts (channelEffects c) s (startChannel c n s) := commit_reacts s c _
theorem channelSample_reacts (c : Cell) : Reacts (channelEffects c) s (channelSample c s) := commit_reacts s c _
theorem cellFaultToChannel_reacts (c : Cell) : Reacts (channelEffects c) s (cellFaultToChannel c s) := commit_reacts s c _
theorem publishToChannel_reacts (c : Cell) : Reacts (channelEffects c) s (publishToChannel c s) := commit_reacts s c _

/-! ### Reports of the hold and of faults -/

theorem holdBegan_reacts (l : Listener) : Reacts blockEffects s (holdBegan l s) := by
  cases l with
  | channel c => exact (channelReasons_reacts s c fun r => { r with hold := true }).mono (channelEffects_sub c)
  | engine => exact (suspendHead_reacts s).mono (by decide)

theorem holdEnded_reacts (l : Listener) : Reacts blockEffects s (holdEnded l s) := by
  cases l with
  | channel c => exact (channelReasons_reacts s c fun r => { r with hold := false }).mono (channelEffects_sub c)
  | engine => exact (releaseHead_reacts s).mono (by decide)

theorem reportHoldBegan_reacts : Reacts blockEffects s (reportHoldBegan s) :=
  .ite (.foldl _ _ (fun l _ s => holdBegan_reacts s l) s) (.foldl _ _ (fun l _ s => holdBegan_reacts s l) s)

theorem setEngineHot_reacts (b : Bool) : Reacts allEffects s (s.setEngineHot b) := (Touches.hot b s).reacts (by decide)

theorem dieHotBegan_reacts (l : Listener) : Reacts allEffects s (dieHotBegan l s) := by
  cases l with
  | channel c => exact (channelReasons_reacts s c fun r => { r with dieHot := true }).mono (List.Subset.trans (channelEffects_sub c) (by decide))
  | engine => exact (setEngineHot_reacts s true).trans ((suspendHead_reacts _).mono (by decide))

theorem dieHotEnded_reacts (l : Listener) : Reacts allEffects s (dieHotEnded l s) := by
  cases l with
  | channel c => exact (channelReasons_reacts s c fun r => { r with dieHot := false }).mono (List.Subset.trans (channelEffects_sub c) (by decide))
  | engine => exact (setEngineHot_reacts s false).trans ((releaseHead_reacts _).mono (by decide))

theorem lockLink_reacts : Reacts (.lock :: engineEffects) s (lockLink s) := by
  have locked : Reacts (.lock :: engineEffects) s (s.setArb { s.arb with faultLock := true }) :=
    (Touches.lock true s).reacts (by decide)
  unfold lockLink
  dsimp only
  split
  · exact (locked.trans ((lossOf_reacts _ _ _).mono (by decide))).trans ((linkFaultToEngine_reacts _).mono (by decide))
  · exact locked
  · exact locked

theorem unlockLink_reacts : Reacts (.lock :: engineEffects) s (unlockLink s) := by
  have unlocked : Reacts (.lock :: engineEffects) s (s.setArb { s.arb with faultLock := false }) :=
    (Touches.lock false s).reacts (by decide)
  unfold unlockLink
  dsimp only
  split
  · exact unlocked.trans ((choiceFree_reacts _).mono (by decide))
  · exact unlocked
  · exact unlocked

/-- R168: a block takes a report of a sample's raises and clears. -/
theorem takeReport_reacts (x : FaultReport) : Reacts reportEffects s (takeReport x s) := by
  match x with
  | .cellToChannel c => exact (cellFaultToChannel_reacts s c).mono (List.Subset.trans (channelEffects_sub c) (by decide))
  | .cellToEngine => exact (endAll_reacts _ s).mono (by decide)
  | .dieHot true l => exact (dieHotBegan_reacts s l).mono (by decide)
  | .dieHot false l => exact (dieHotEnded_reacts s l).mono (by decide)
  | .linkToArbiter => exact (lockLink_reacts s).mono (by decide)
  | .linkToEngine => exact (linkFaultToEngine_reacts s).mono (by decide)

theorem takeReports_reacts (l : List FaultReport) : Reacts reportEffects s (l.foldl (fun s x => takeReport x s) s) :=
  .foldl _ _ (fun x _ s => takeReport_reacts s x) s

theorem arbiterSettled_reacts : Reacts engineEffects s (arbiterSettled s) := by
  unfold arbiterSettled
  split
  · exact changeoverEnds_reacts s
  · exact choiceFree_reacts s
  · exact .refl s

theorem publishSupply_reacts : Reacts engineEffects s (publishSupply s) := .ite (raiseReq_reacts s _) (withdrawReq_reacts s _)

end

end Sys2Proof.Machine
end

section
/-! What a chain of reactions leaves alone, what it can only add to, and how passes come to be wanted. -/

namespace Sys2Proof.Machine

/-! ### What a chain leaves alone -/

section
variable {E : List Effect} {s t : State} (h : Reacts E s t)
include h

theorem Reacts.keeps : Keeps s t := h.same State.outer fun _ _ _ _ => Touches.outer
theorem Reacts.arb_eq (ne : .arb ∉ E) (nl : .lock ∉ E) : t.arb = s.arb :=
  h.same State.arb fun _ he _ _ k => k.arb_eq (ne_of_mem_of_not_mem he ne) (ne_of_mem_of_not_mem he nl)
theorem Reacts.faultLock_eq (nl : .lock ∉ E) : t.arb.faultLock = s.arb.faultLock :=
  h.same (fun s => s.arb.faultLock) fun _ he _ _ k => k.faultLock_eq (ne_of_mem_of_not_mem he nl)
theorem Reacts.queue_eq (ne : .queue ∉ E) : t.bal.queue = s.bal.queue :=
  h.same (fun s => s.bal.queue) fun _ he _ _ k => k.queue_eq (ne_of_mem_of_not_mem he ne)
theorem Reacts.last_eq (ne : .last ∉ E) : t.bal.last = s.bal.last :=
  h.same (fun s => s.bal.last) fun _ he _ _ k => k.last_eq (ne_of_mem_of_not_mem he ne)
theorem Reacts.hot_eq (ne : .hot ∉ E) : t.bal.dieHot = s.bal.dieHot :=
  h.same (fun s => s.bal.dieHot) fun _ he _ _ k => k.hot_eq (ne_of_mem_of_not_mem he ne)
theorem Reacts.tagCounter_eq : t.bal.tagCounter = s.bal.tagCounter :=
  h.same (fun s => s.bal.tagCounter) fun _ _ _ _ k => k.tagCounter_eq
theorem Reacts.bal_eq (nq : .queue ∉ E) (nl : .last ∉ E) (nh : .hot ∉ E) : t.bal = s.bal := by
  have eta (b : Balance) : b = ⟨b.queue, b.tagCounter, b.last, b.dieHot⟩ := rfl
  rw [eta t.bal, h.queue_eq nq, h.tagCounter_eq, h.last_eq nl, h.hot_eq nh]
theorem Reacts.view_eq (ne : .view ∉ E) : t.hold.view = s.hold.view :=
  h.same (fun s => s.hold.view) fun _ he _ _ k => k.view_eq (ne_of_mem_of_not_mem he ne)
theorem Reacts.hold_eq (ne : .view ∉ E) (nr : .rest ∉ E) : t.hold = s.hold :=
  h.same State.hold fun _ he _ _ k => k.hold_eq (ne_of_mem_of_not_mem he ne) (ne_of_mem_of_not_mem he nr)
theorem Reacts.chA_eq (ne : .chA ∉ E) (np : .pass ∉ E) : t.chA = s.chA :=
  h.same State.chA fun _ he _ _ k => k.chA_eq (ne_of_mem_of_not_mem he ne) (ne_of_mem_of_not_mem he np)
theorem Reacts.chA_fresh (ne : .chA ∉ E) : { t.chA with stale := false } = { s.chA with stale := false } :=
  h.same (fun s => { s.chA with stale := false }) fun _ he _ _ k => k.chA_fresh (ne_of_mem_of_not_mem he ne)
theorem Reacts.chB_fresh (ne : .chB ∉ E) (nl : .linkB ∉ E) : { t.chB with stale := false } = { s.chB with stale := false } :=
  h.same (fun s => { s.chB with stale := false }) fun _ he _ _ k =>
    k.chB_fresh (ne_of_mem_of_not_mem he ne) (ne_of_mem_of_not_mem he nl)
theorem Reacts.chB_linkless (ne : .chB ∉ E) : t.chB.linkless = s.chB.linkless :=
  h.same (fun s => s.chB.linkless) fun _ he _ _ k => k.chB_linkless (ne_of_mem_of_not_mem he ne)
theorem Reacts.pathA_eq (ne : .path ∉ E) : t.pathA = s.pathA :=
  h.same State.pathA fun _ he _ _ k => k.pathA_eq (ne_of_mem_of_not_mem he ne)
theorem Reacts.linkStage_eq (ne : .link ∉ E) : t.linkStage = s.linkStage :=
  h.same State.linkStage fun _ he _ _ k => k.linkStage_eq (ne_of_mem_of_not_mem he ne)
theorem Reacts.power_eq (ne : .monitor ∉ E) : t.power = s.power :=
  h.same State.power fun _ he _ _ k => k.power_eq (ne_of_mem_of_not_mem he ne)
theorem Reacts.seq_eq (ne : .monitor ∉ E) : t.seq = s.seq :=
  h.same State.seq fun _ he _ _ k => k.seq_eq (ne_of_mem_of_not_mem he ne)
theorem Reacts.ports_eq (ne : .notice ∉ E) : t.ports = s.ports :=
  h.same State.ports fun _ he _ _ k => k.ports_eq (ne_of_mem_of_not_mem he ne)
theorem Reacts.holdOff_iff : t.hold.state = .off ↔ s.hold.state = .off :=
  h.rel (fun s t => t.hold.state = .off ↔ s.hold.state = .off) (fun _ => Iff.rfl) (fun _ _ _ a b => b.trans a)
    fun _ _ _ _ k => k.holdOff_iff

end

/-! ### The part stays at work (R191, R202) -/

theorem monitorTest_cases (s : State) : monitorTest s = s ∨ (s.quiet = true ∧ monitorTest s = { s with
    power := { s.power with state := .monitor }
    seq := { s.seq with nextArrival := s.seq.lastArrival + Config.periodMonitor } }) := by
  unfold monitorTest
  split
  next quiet => exact .inr ⟨quiet, rfl⟩
  · exact .inl rfl

theorem quiet_active {s : State} (h : s.quiet = true) : s.power.state = .active := by
  simp only [State.quiet, Bool.and_eq_true, beq_iff_eq] at h
  tauto

/-- A part at work stays at work, whatever the reactions do. -/
theorem Touches.operating_eq {e : Effect} {s t : State} (h : Touches e s t) : t.operating = s.operating := by
  by_cases ne : e = .monitor
  · subst ne
    cases h
    obtain same | ⟨quiet, entered⟩ := monitorTest_cases s
    · rw [same]
    · rw [entered, State.operating, State.operating, quiet_active quiet]
      rfl
  · rw [State.operating, h.power_eq ne]
    rfl

theorem Reacts.operating_eq {E : List Effect} {s t : State} (h : Reacts E s t) : t.operating = s.operating :=
  h.same State.operating fun _ _ _ _ => Touches.operating_eq

/-! ### Notices are only added (R184) -/

theorem holdsNotice_or (k : Notice) (x y : NoticeBits) (h : holdsNotice k x = true) : holdsNotice k (x ||| y) = true := by
  simp only [holdsNotice, BitVec.getLsbD_or, Bool.or_eq_true] at *
  exact .inl h

theorem holdsNotice_only (k : Notice) : holdsNotice k k.only = true := by
  cases k <;> rfl

theorem raiseNotice_noticed (k : Notice) (p : Port) (s : State) : Noticed (raiseNotice k p s) p k := by
  simp only [Noticed, raiseNotice_port, holdsNotice, BitVec.getLsbD_or, Bool.or_eq_true]
  exact .inr (holdsNotice_only k)

theorem raiseNotice_keepsNoticed (k l : Notice) (p q : Port) (s : State) (h : Noticed s q l) : Noticed (raiseNotice k p s) q l := by
  by_cases hq : q = p
  · subst hq
    rw [Noticed, raiseNotice_port]
    exact holdsNotice_or l _ _ h
  · rwa [Noticed, raiseNotice_port_other s hq]

theorem Reacts.noticed {E : List Effect} {s t : State} (h : Reacts E s t) {p : Port} {k : Notice} :
    Noticed s p k → Noticed t p k := by
  refine h.rel (fun s t => Noticed s p k → Noticed t p k) (fun _ => id) (fun _ _ _ a b => b ∘ a) fun e _ s t touch told => ?_
  by_cases ne : e = .notice
  · subst ne
    cases touch with
    | notice l q => exact raiseNotice_keepsNoticed l k q p s told
  · have same := touch.ports_eq ne
    rwa [Noticed, State.port, same]

/-! ### Passes (R66) -/

/-- A pass in progress goes on, and a rerun asked for stays asked for. -/
def PassGoesOn (s t : State) : Prop :=
  ∀ x, s.alloc.pass = some x → t.alloc.pass = some x ∧ (s.alloc.rerun = true → t.alloc.rerun = true)

theorem Touches.passGoesOn {e : Effect} {s t : State} (h : Touches e s t) : PassGoesOn s t := by
  intro x computing
  by_cases ne : e = .pass
  · subst ne
    cases h
    obtain same | ⟨none, -⟩ | ⟨-, asked⟩ := trigger_cases s
    · rw [same]; exact ⟨computing, id⟩
    · rw [computing] at none; contradiction
    · rw [asked]; exact ⟨computing, fun _ => rfl⟩
  · rw [h.alloc_eq ne]; exact ⟨computing, id⟩

theorem Reacts.passGoesOn {E : List Effect} {s t : State} (h : Reacts E s t) : PassGoesOn s t :=
  h.rel PassGoesOn (fun _ _ computing => ⟨computing, id⟩)
    (fun _ _ _ first second x computing =>
      let ⟨goesOn, kept⟩ := first x computing
      ⟨(second x goesOn).1, fun rerun => (second x goesOn).2 (kept rerun)⟩)
    fun _ _ _ _ => Touches.passGoesOn

/-- R66: after any reactions, a trigger that is taken makes the pass wanted. -/
theorem PassGoesOn.passWanted {s t : State} (h : PassGoesOn s t) (phase : t.power.phase = .running) (on : t.operating = true) :
    PassWanted s (trigger t) := by
  unfold PassWanted
  cases hs : s.alloc.pass with
  | some x =>
    obtain ⟨computing, -⟩ := h x hs
    simp [trigger, phase, on, computing, State.setAlloc]
  | none =>
    cases ht : t.alloc.pass with
    | some y => exact ⟨y, by simp [trigger, phase, on, ht, State.setAlloc], .inl (by simp [trigger, phase, on, ht, State.setAlloc])⟩
    | none =>
      have started : trigger t = startPass t := by simp [trigger, phase, on, ht]
      rw [started]
      exact ⟨t.snapshot, rfl, .inr rfl⟩

/-- A pass that is wanted stays wanted where neither the allocator nor what a pass reads changes. -/
theorem PassWanted.congr {s t u : State} (h : PassWanted s t) (alloc : u.alloc = t.alloc) (same : u.snapshot = t.snapshot) :
    PassWanted s u := by
  unfold PassWanted at *
  rw [alloc, same]
  exact h

theorem monitorTest_snapshot (s : State) : (monitorTest s).snapshot = s.snapshot := by
  obtain same | ⟨-, entered⟩ := monitorTest_cases s
  · rw [same]
  · rw [entered]; rfl

theorem monitorTest_alloc (s : State) : (monitorTest s).alloc = s.alloc := (Touches.monitor s).alloc_eq (by decide)

theorem PassWanted.monitorTest {s t : State} (h : PassWanted s t) : PassWanted s (monitorTest t) :=
  h.congr (monitorTest_alloc t) (monitorTest_snapshot t)

theorem PassWanted.handReply {s t : State} (h : PassWanted s t) (p : Port) (code : ReplyCode) (l : List Byte) :
    PassWanted s (handReply p code l t) := h

/-- One trigger that is taken is a pass wanted. -/
theorem Triggered.passWanted {s t : State} (h : Triggered s t) : PassWanted s t := by
  obtain ⟨raised, -⟩ := h
  unfold PassRaised at raised
  unfold PassWanted
  cases hs : s.alloc.pass with
  | none => rw [hs] at raised; exact ⟨_, raised.1, .inr rfl⟩
  | some x => rw [hs] at raised; exact raised

end Sys2Proof.Machine
end

section
/-! The claim table's operations (R17 to R29): the free slot, the list after an admission, an amendment or a release, and the
bounds of R18 and R19 under each. -/

namespace Sys2Proof.Machine

/-! ### The lowest free slot (R18) -/

/-- The search passes over held slots alone, and stops at a free one unless it has looked at all of them. -/
theorem lowestFree_spec (l : List Claim) : ∀ k n : Nat,
    n ≤ lowestFree l k n ∧ lowestFree l k n ≤ n + k
      ∧ (∀ i, n ≤ i → i < lowestFree l k n → ∃ d ∈ l, d.id = i)
      ∧ (lowestFree l k n < n + k → ∀ d ∈ l, d.id ≠ lowestFree l k n) := by
  intro k
  induction k with
  | zero =>
    intro n
    rw [lowestFree]
    exact ⟨le_rfl, le_rfl, fun i below above => absurd above (not_lt.mpr below), fun past => absurd past (lt_irrefl _)⟩
  | succ k ih =>
    intro n
    rw [lowestFree]
    split
    next held =>
      obtain ⟨lower, upper, passed, free⟩ := ih (n + 1)
      refine ⟨by omega, by omega, fun i below above => ?_, fun within => free (by omega)⟩
      rcases eq_or_lt_of_le below with rfl | below
      · simpa using held
      · exact passed i below above
    next unheld =>
      refine ⟨le_rfl, by omega, fun i below above => absurd above (not_lt.mpr below), fun _ d hd same => unheld ?_⟩
      exact List.any_eq_true.mpr ⟨d, hd, by simpa using same⟩

/-- R18: with fewer than 16 claims there is a free slot, and the search finds the lowest. -/
theorem lowestFree_free (l : List Claim) (room : l.length < 16) :
    lowestFree l 16 0 < 16 ∧ (∀ d ∈ l, d.id ≠ lowestFree l 16 0) ∧ ∀ i < lowestFree l 16 0, ∃ d ∈ l, d.id = i := by
  obtain ⟨-, upper, passed, free⟩ := lowestFree_spec l 16 0
  have below : lowestFree l 16 0 < 16 := by
    by_contra all
    have covered : List.range 16 ⊆ l.map Claim.id := fun i hi => by
      obtain ⟨d, hd, same⟩ := passed i (Nat.zero_le i) (by rw [List.mem_range] at hi; omega)
      exact List.mem_map.mpr ⟨d, hd, same⟩
    have fits := (List.subperm_of_subset List.nodup_range covered).length_le
    rw [List.length_range, List.length_map] at fits
    omega
  exact ⟨below, free (by omega), fun i hi => passed i (Nat.zero_le i) hi⟩

/-! ### Totals and shares (R19, R21) -/

/-- What one claim adds to the essential total. -/
def Claim.essentialShare (c : Claim) : Nat := if c.cls = .essential then c.requested else 0

theorem essentialTotal_cons (c : Claim) (l : List Claim) : essentialTotal (c :: l) = c.essentialShare + essentialTotal l := by
  cases h : c.cls <;> simp [essentialTotal, Claim.essentialShare, h]

theorem essentialTotal_append (l m : List Claim) : essentialTotal (l ++ m) = essentialTotal l + essentialTotal m := by
  simp [essentialTotal]

theorem essentialTotal_singleton (c : Claim) : essentialTotal [c] = c.essentialShare := essentialTotal_cons c []

theorem essentialTotal_filter_le (f : Claim → Bool) (l : List Claim) : essentialTotal (l.filter f) ≤ essentialTotal l := by
  induction l with
  | nil => exact le_rfl
  | cons c l ih =>
    rw [List.filter_cons]
    split
    · rw [essentialTotal_cons, essentialTotal_cons]; omega
    · rw [essentialTotal_cons]; omega

theorem essentialTotal_perm {l m : List Claim} (h : l.Perm m) : essentialTotal l = essentialTotal m :=
  ((h.filter _).map _).sum_eq

theorem ownedCount_filter_le (p : Port) (f : Claim → Bool) (l : List Claim) : ownedCount p (l.filter f) ≤ ownedCount p l :=
  (List.filter_sublist.filter _).length_le

theorem ownedCount_cons (p : Port) (c : Claim) (l : List Claim) :
    ownedCount p (c :: l) = (if c.owner = .port p then 1 else 0) + ownedCount p l := by
  by_cases own : c.owner = .port p <;> simp [ownedCount, Claim.ownedBy, own, Nat.add_comm]

theorem ownedCount_perm (p : Port) {l m : List Claim} (h : l.Perm m) : ownedCount p l = ownedCount p m :=
  (h.filter _).length_eq

theorem ownedCount_append (p : Port) (l m : List Claim) : ownedCount p (l ++ m) = ownedCount p l + ownedCount p m := by
  simp [ownedCount]

theorem Claim.ownedBy_iff (p : Port) (c : Claim) : c.ownedBy p = true ↔ c.owner = .port p := beq_iff_eq

/-! ### The bounds of the table (R18, R19) -/

/-- The bounds of R18 and R19, of a list of claims. -/
abbrev ClaimsBounded (l : List Claim) : Prop := ClaimTable.Bounded { claims := l, nextAdmission := 0 }

theorem ClaimTable.bounded_iff (x : ClaimTable) : x.Bounded ↔ ClaimsBounded x.claims := Iff.rfl

theorem ClaimsBounded.filter {l : List Claim} (h : ClaimsBounded l) (f : Claim → Bool) : ClaimsBounded (l.filter f) := by
  obtain ⟨once, slots, length, shares, cap⟩ := h
  exact ⟨once.sublist (List.filter_sublist.map _), fun c hc => slots c (List.mem_of_mem_filter hc),
    (List.length_filter_le _ _).trans length, fun p => (ownedCount_filter_le p f l).trans (shares p),
    (essentialTotal_filter_le f l).trans cap⟩

theorem ClaimsBounded.perm {l m : List Claim} (h : ClaimsBounded l) (same : l.Perm m) : ClaimsBounded m := by
  obtain ⟨once, slots, length, shares, cap⟩ := h
  exact ⟨(same.map _).nodup_iff.mp once, fun c hc => slots c (same.mem_iff.mpr hc), same.length_eq ▸ length,
    fun p => ownedCount_perm p same ▸ shares p, essentialTotal_perm same ▸ cap⟩

/-- A change of claims that leaves slot, owner, class and requested amount alone leaves the bounds. -/
theorem ClaimsBounded.map {l : List Claim} (h : ClaimsBounded l) (f : Claim → Claim)
    (same : ∀ c, (f c).id = c.id ∧ (f c).owner = c.owner ∧ (f c).cls = c.cls ∧ (f c).requested = c.requested) :
    ClaimsBounded (l.map f) := by
  obtain ⟨once, slots, length, shares, cap⟩ := h
  have ids : (l.map f).map Claim.id = l.map Claim.id := by
    rw [List.map_map]; exact List.map_congr_left fun c _ => (same c).1
  have owned (p : Port) : ownedCount p (l.map f) = ownedCount p l := by
    have owner : Claim.ownedBy p ∘ f = Claim.ownedBy p := funext fun c => by
      simp only [Function.comp, Claim.ownedBy, (same c).2.1]
    rw [ownedCount, List.filter_map, List.length_map, owner, ownedCount]
  have total : essentialTotal (l.map f) = essentialTotal l := by
    have share (c : Claim) : (f c).essentialShare = c.essentialShare := by
      simp only [Claim.essentialShare, (same c).2.2.1, (same c).2.2.2]
    clear once slots length shares cap ids owned
    induction l with
    | nil => rfl
    | cons c l ih => rw [List.map_cons, essentialTotal_cons, essentialTotal_cons, ih, share]
  refine ⟨ids.symm ▸ once, fun c hc => ?_, (List.length_map (as := l) f).symm ▸ length, fun p => (owned p).trans_le (shares p),
    total.trans_le cap⟩
  obtain ⟨d, hd, rfl⟩ := List.mem_map.mp hc
  exact (same d).1.trans_lt (slots d hd)

/-- R21: an admission within the limits keeps the bounds. -/
theorem ClaimsBounded.admitted {base : List Claim} (h : ClaimsBounded base) (c : Claim) (p : Port) (owner : c.owner = .port p)
    (free : ∀ d ∈ base, d.id ≠ c.id) (slot : c.id < 16) (room : base.length < 16) (share : ownedCount p base < 8)
    (cap : essentialTotal base + c.essentialShare ≤ 12000) : ClaimsBounded (base ++ [c]) := by
  obtain ⟨once, slots, -, shares, -⟩ := h
  refine ⟨?_, fun d hd => ?_, ?_, fun q => ?_, ?_⟩
  · rw [List.map_append, List.map_singleton, List.nodup_append]
    refine ⟨once, List.nodup_singleton _, fun i hi j hj => ?_⟩
    obtain ⟨d, hd, rfl⟩ := List.mem_map.mp hi
    rw [List.mem_singleton.mp hj]
    exact free d hd
  · rcases List.mem_append.mp hd with hd | hd
    · exact slots d hd
    · rw [List.mem_singleton.mp hd]; exact slot
  · simpa [Config.claimSlots] using room
  · rw [ownedCount_append]
    by_cases hq : q = p
    · subst hq
      have one : ownedCount q [c] ≤ 1 := List.length_filter_le _ [c]
      simp only [Config.claimsPerPort]
      omega
    · have none : ownedCount q [c] = 0 := by
        have other : Claim.ownedBy q c = false := by
          rw [Claim.ownedBy, owner]
          simpa using fun same => hq same.symm
        rw [ownedCount, List.filter_singleton, other]
        rfl
      rw [none]
      exact shares q
  · rw [essentialTotal_append, essentialTotal_singleton]; exact cap

/-! ### An amendment (R26 to R28) -/

/-- With each slot held once, the table is the claim of a slot and the claims of the others. -/
theorem perm_cons_filter {l : List Claim} (once : (l.map Claim.id).Nodup) {c : Claim} (hc : c ∈ l) :
    l.Perm (c :: l.filter (fun d => d.id != c.id)) := by
  induction l with
  | nil => contradiction
  | cons d l ih =>
    rw [List.map_cons, List.nodup_cons] at once
    obtain ⟨fresh, once⟩ := once
    rw [List.filter_cons]
    rcases List.mem_cons.mp hc with rfl | hc
    · have others : l.filter (fun d => d.id != c.id) = l := List.filter_eq_self.mpr fun d hd => by
        simpa using fun same : d.id = c.id => fresh (List.mem_map.mpr ⟨d, hd, same⟩)
      simp [others]
    · have differs : (d.id != c.id) = true := by
        simpa using fun same : d.id = c.id => fresh (List.mem_map.mpr ⟨c, hc, same.symm⟩)
      rw [if_pos differs]
      exact ((ih once hc).cons d).trans (.swap c d _)

/-- R27: wherever the amended claim goes, the table is that claim and the claims of the other slots. -/
theorem amendList_perm {l : List Claim} (once : (l.map Claim.id).Nodup) {c : Claim} (hc : c ∈ l) (amount floor : Nat) :
    (amendList l c amount floor).Perm
      ({ c with requested := amount, floor := floor } :: l.filter (fun d => d.id != c.id)) := by
  unfold amendList
  dsimp only
  split
  · exact List.perm_append_singleton _ _
  · have moved := (perm_cons_filter once hc).map
      (fun d => if d.id == c.id then { c with requested := amount, floor := floor } else d)
    rw [List.map_cons, if_pos (beq_self_eq_true c.id)] at moved
    have others : (l.filter (fun d => d.id != c.id)).map
        (fun d => if d.id == c.id then { c with requested := amount, floor := floor } else d)
        = l.filter (fun d => d.id != c.id) := by
      refine (List.map_congr_left fun d hd => ?_).trans (List.map_id _)
      have differs := (List.mem_filter.mp hd).2
      rw [bne_iff_ne] at differs
      exact if_neg (by simpa using differs)
    rwa [others] at moved

theorem amendedTotal_eq {l : List Claim} (once : (l.map Claim.id).Nodup) {c : Claim} (hc : c ∈ l) (amount : Nat)
    (essential : c.cls = .essential) :
    amendedTotal l c amount = amount + essentialTotal (l.filter (fun d => d.id != c.id)) := by
  rw [amendedTotal, essentialTotal_perm (perm_cons_filter once hc), essentialTotal_cons, Claim.essentialShare, if_pos essential]
  omega

/-- R28: an amendment within the essential cap keeps the bounds. -/
theorem ClaimsBounded.amend {l : List Claim} (h : ClaimsBounded l) {c : Claim} (hc : c ∈ l) (amount floor : Nat)
    (cap : c.cls = .essential → amendedTotal l c amount ≤ 12000) : ClaimsBounded (amendList l c amount floor) := by
  have once := h.1
  refine ClaimsBounded.perm ?_ (amendList_perm once hc amount floor).symm
  obtain ⟨once', slots, length, shares, total⟩ := h.perm (perm_cons_filter once hc)
  refine ⟨once', fun d hd => ?_, length, fun q => ?_, ?_⟩
  · rcases List.mem_cons.mp hd with rfl | hd
    · exact slots c List.mem_cons_self
    · exact slots d (List.mem_cons_of_mem _ hd)
  · have share := shares q
    rw [ownedCount_cons] at share ⊢
    exact share
  · rw [essentialTotal_cons] at total ⊢
    cases hcls : c.cls with
    | essential =>
      have within := cap hcls
      rw [amendedTotal_eq once hc amount hcls] at within
      simpa [Claim.essentialShare, hcls, Config.essentialCap] using within
    | elective =>
      simpa [Claim.essentialShare, hcls] using total

/-! ### The judgement of amounts (R20, R26) -/

/-- R20, R26: the floor that a claim of this class takes from the floor asked for; an essential claim has none. -/
def ClaimClass.floorWithin (cls : ClaimClass) (amount floor : Nat) : Nat :=
  match cls with
  | .essential => 0
  | .elective => min floor amount

/-- R20: the amounts that pass, clamped. -/
theorem judgeAmounts_eq_some (cls : ClaimClass) (requested floor : Nat) (positive : 0 < requested)
    (least : cls = .elective → 0 < floor) : judgeAmounts cls requested floor
      = some (min requested 30000, cls.floorWithin (min requested 30000) floor) := by
  have some : ¬ requested = 0 := by omega
  cases cls with
  | essential => simp [judgeAmounts, some, Config.requestedMax, ClaimClass.floorWithin]
  | elective =>
    have given : ¬ floor = 0 := by have := least rfl; omega
    simp [judgeAmounts, some, given, Config.requestedMax, ClaimClass.floorWithin]

theorem judgeAmounts_eq_none (cls : ClaimClass) (requested floor : Nat)
    (bad : requested = 0 ∨ (cls = .elective ∧ floor = 0)) : judgeAmounts cls requested floor = none := by
  obtain rfl | ⟨rfl, rfl⟩ := bad
  · rfl
  · simp [judgeAmounts]

/-- R17: amounts that pass lie in the ranges of a claim record. -/
theorem judgeAmounts_inRange {cls : ClaimClass} {requested floor amount least : Nat}
    (passed : judgeAmounts cls requested floor = some (amount, least)) :
    1 ≤ amount ∧ amount ≤ 30000 ∧ least ≤ amount ∧ (cls = .elective → 1 ≤ least) := by
  have positive : 0 < requested := by
    by_contra zero
    rw [judgeAmounts_eq_none cls requested floor (.inl (by omega))] at passed
    contradiction
  have given : cls = .elective → 0 < floor := fun elective => by
    by_contra zero
    rw [judgeAmounts_eq_none cls requested floor (.inr ⟨elective, by omega⟩)] at passed
    contradiction
  rw [judgeAmounts_eq_some cls requested floor positive given] at passed
  obtain ⟨rfl, rfl⟩ := Prod.mk.inj (Option.some.inj passed)
  cases cls with
  | essential => exact ⟨by omega, by omega, Nat.zero_le _, nofun⟩
  | elective => exact ⟨by omega, by omega, Nat.min_le_right _ _, fun _ => by have := given rfl; show 1 ≤ min floor _; omega⟩

end Sys2Proof.Machine
end

section
/-! What the port interface does around a block's own part of a request, for any property that it leaves alone. -/

namespace Sys2Proof.Machine

/-- A property of the part that no part of the port interface's own work can end: the ports' own fields, the waking of claims, a
trigger, and the leaving of MONITOR. -/
structure PortBlind (P : State → Prop) : Prop where
  ports : ∀ s x, P s → P { s with ports := x }
  wake : ∀ s p, P s → P (s.setTable (s.table.wake p))
  trigger : ∀ s, P s → P (trigger s)
  leave : ∀ s, P s → P (leaveMonitor s)

section
variable {P : State → Prop} (blind : PortBlind P)
include blind

theorem PortBlind.handReply (p : Port) (code : ReplyCode) (l : List Byte) {s : State} (h : P s) : P (handReply p code l s) :=
  blind.ports s _ h

theorem PortBlind.raiseNotice (k : Notice) (p : Port) {s : State} (h : P s) : P (raiseNotice k p s) := blind.ports s _ h

omit blind in
theorem raiseIf_preserves {f : State → State} (b : Bool) {s : State} (h : P s) (hf : P (f s)) : P (raiseIf b f s) := by
  cases b
  · exact h
  · exact hf

theorem PortBlind.raiseMainHub (k : Notice) {s : State} (h : P s) : P (raiseMainHub k s) :=
  blind.raiseNotice k .hub (blind.raiseNotice k .main h)

theorem PortBlind.raiseAll (k : Notice) {s : State} (h : P s) : P (raiseAll k s) :=
  blind.raiseNotice k .input (blind.raiseMainHub k h)

theorem PortBlind.handedOver (p : Port) (i : Instr) {s : State} (h : P s) : P (handedOver p i s) := by
  refine blind.leave _ ?_
  have filled : P (fillSlot p (writtenBytes i) s) := blind.ports s _ h
  unfold wakePort
  dsimp only
  split
  · exact blind.trigger _ (blind.wake _ p (blind.ports _ _ filled))
  · exact blind.ports _ _ filled

/-- R181: what a frame comes to keeps the property, where the owning block's part keeps it past LOADING. -/
theorem PortBlind.takeFrame (p : Port) (i : Instr) (check : Option ReplyCode) (own : State → State)
    (kept : ∀ u, P u → u.power.phase = .running → u.operating = true → P (own u)) {s : State} (h : P s) :
    P (takeFrame p i check own s) := by
  by_cases away : s.operating = false ∨ (s.port p).busy = true
  · rw [takeFrame_busy p i check own s away]
    exact blind.ports s _ h
  · obtain ⟨on, free⟩ := not_or.mp away
    have takes : Takes s p := ⟨by simpa using on, by simpa using free⟩
    cases phase : s.power.phase with
    | loading =>
      rw [takeFrame_loading p i check own s takes phase]
      exact blind.ports _ _ (blind.ports s _ h)
    | running =>
      have handed := blind.handedOver p i h
      cases check with
      | some code =>
        rw [takeFrame_refused p i code own s ⟨takes, phase⟩]
        exact blind.handReply p code [] handed
      | none =>
        rw [takeFrame_handed p i own s ⟨takes, phase⟩]
        exact kept _ handed ((handedOver_phase p i s).trans phase) (handedOver_operating p i s takes.1)

end

theorem leaveMonitor_cases (s : State) : leaveMonitor s = s ∨ (s.power.state = .monitor ∧ leaveMonitor s = { s with
    power := { s.power with state := .active }
    seq := { s.seq with nextArrival := max s.now (s.seq.lastArrival + Config.periodActive) } }) := by
  unfold leaveMonitor
  split
  next monitor => exact .inr ⟨monitor, rfl⟩
  · exact .inl rfl

/-- A permutation of the blocks is an order of them, and every block has its turn in it. -/
theorem arrange_perm {α : Type} (k : Nat) (l : List α) : (arrange k l).Perm l := by
  induction l generalizing k with
  | nil => exact .refl _
  | cons x rest ih =>
    rw [arrange, insertAt]
    refine List.perm_middle.trans (.cons x ?_)
    rw [List.take_append_drop]
    exact ih _

end Sys2Proof.Machine
end

section
/-! Every step keeps the claim table, the ceilings, the droop limit, profile memory and the thermal state in range: O57. -/

namespace Sys2Proof.Machine

/-! ### Reactions and the port interface -/

/-- R172: a pass that starts under DIE_HOT reads the thermal state ZERO. -/
theorem Touches.thermalSound {e : Effect} {s t : State} (h : Touches e s t) (sound : s.ThermalSound) : t.ThermalSound := by
  have prot : t.prot = s.prot := Keeps.prot h.outer
  obtain ⟨zero, snapshots⟩ := sound
  refine ⟨by rwa [prot], fun x hx => ?_⟩
  by_cases ne : e = .pass
  · subst ne
    cases h
    obtain same | ⟨-, started⟩ | ⟨-, asked⟩ := trigger_cases s
    · rw [same] at hx; exact snapshots x hx
    · rw [started] at hx
      obtain rfl : s.snapshot = x := Option.some.inj hx
      exact zero
    · rw [asked] at hx; exact snapshots x hx
  · rw [h.alloc_eq ne] at hx; exact snapshots x hx

/-- The tables are as sound as the fields that they are. -/
theorem State.TablesSound.congr {s t : State} (h : s.TablesSound) (claims : t.table.claims = s.table.claims)
    (ceilings : t.ceilings = s.ceilings) (input : t.input = s.input) (profile : t.profile = s.profile) (prot : t.prot = s.prot)
    (pass : t.alloc.pass = s.alloc.pass) : t.TablesSound := by
  rw [State.TablesSound, State.ThermalSound, ClaimTable.bounded_iff] at *
  rw [claims, ceilings, input, profile, prot, pass]
  exact h

theorem Reacts.tablesSound {E : List Effect} {s t : State} (h : Reacts E s t) (sound : s.TablesSound) : t.TablesSound := by
  have thermal : s.ThermalSound → t.ThermalSound := h.rel (fun s t => s.ThermalSound → t.ThermalSound) (fun _ => id)
    (fun _ _ _ a b => b ∘ a) fun _ _ _ _ => Touches.thermalSound
  obtain ⟨bounded, ranges, ceilings, input, profile, under⟩ := sound
  have keeps := h.keeps
  rw [State.TablesSound, keeps.table, keeps.ceilings, keeps.input, keeps.profile]
  exact ⟨bounded, ranges, ceilings, input, profile, thermal under⟩

/-- A change of claims that leaves slot, owner, class and amounts alone keeps the tables sound. -/
theorem State.TablesSound.mapClaims {s : State} (h : s.TablesSound) (f : Claim → Claim) (n : Nat)
    (same : ∀ c, (f c).id = c.id ∧ (f c).owner = c.owner ∧ (f c).cls = c.cls ∧ (f c).requested = c.requested
      ∧ (f c).floor = c.floor) :
    (s.setTable { claims := s.table.claims.map f, nextAdmission := n }).TablesSound := by
  obtain ⟨bounded, ranges, rest⟩ := h
  refine ⟨ClaimsBounded.map bounded f fun c => ?_, fun c hc => ?_, rest⟩
  · obtain ⟨id, owner, cls, requested, -⟩ := same c
    exact ⟨id, owner, cls, requested⟩
  · obtain ⟨d, hd, rfl⟩ := List.mem_map.mp hc
    obtain ⟨-, -, cls, requested, floor⟩ := same d
    have range := ranges d hd
    rwa [Claim.InRange, cls, requested, floor]

theorem Claim.wake_same (p : Port) (c : Claim) : (c.wake p).id = c.id ∧ (c.wake p).owner = c.owner
    ∧ (c.wake p).cls = c.cls ∧ (c.wake p).requested = c.requested ∧ (c.wake p).floor = c.floor := by
  unfold Claim.wake
  split <;> exact ⟨rfl, rfl, rfl, rfl, rfl⟩

theorem Claim.suspend_same (p : Port) (c : Claim) : (c.suspend p).id = c.id ∧ (c.suspend p).owner = c.owner
    ∧ (c.suspend p).cls = c.cls ∧ (c.suspend p).requested = c.requested ∧ (c.suspend p).floor = c.floor := by
  unfold Claim.suspend
  split <;> exact ⟨rfl, rfl, rfl, rfl, rfl⟩

theorem Claim.published_same (grants : List GrantOut) (s : State) (c : Claim) :
    (c.published grants s).id = c.id ∧ (c.published grants s).owner = c.owner ∧ (c.published grants s).cls = c.cls
      ∧ (c.published grants s).requested = c.requested ∧ (c.published grants s).floor = c.floor := by
  unfold Claim.published
  split <;> exact ⟨rfl, rfl, rfl, rfl, rfl⟩

theorem tablesSound_blind : PortBlind State.TablesSound where
  ports _ _ h := h.congr rfl rfl rfl rfl rfl rfl
  wake s p h := State.TablesSound.mapClaims h (Claim.wake p) _ (Claim.wake_same p)
  trigger s h := (trigger_reacts (E := [.pass]) s (by decide)).tablesSound h
  leave s h := by
    obtain same | ⟨-, left⟩ := leaveMonitor_cases s
    · rwa [same]
    · rw [left]; exact h.congr rfl rfl rfl rfl rfl rfl

section
variable {s : State} (h : s.TablesSound)
include h

theorem State.TablesSound.monitorTest : (monitorTest s).TablesSound :=
  (monitorTest_reacts (E := [.monitor]) s (by decide)).tablesSound h

/-! ### The claim table -/

theorem State.TablesSound.filterClaims (f : Claim → Bool) (n : Nat) :
    (s.setTable { claims := s.table.claims.filter f, nextAdmission := n }).TablesSound := by
  obtain ⟨bounded, ranges, rest⟩ := h
  exact ⟨ClaimsBounded.filter bounded f, fun c hc => ranges c (List.mem_of_mem_filter hc), rest⟩

theorem claimBase_sound (p : Port) (cls : ClaimClass) :
    ClaimsBounded (claimBase p cls s.table.claims) ∧ ∀ c ∈ claimBase p cls s.table.claims, c.InRange := by
  obtain ⟨bounded, ranges, -⟩ := h
  unfold claimBase
  split
  · exact ⟨ClaimsBounded.filter bounded _, fun c hc => ranges c (List.mem_of_mem_filter hc)⟩
  · exact ⟨bounded, ranges⟩

omit h in
/-- R21: within the limits, what the limits say. -/
theorem judgeLimits_none {p : Port} {cls : ClaimClass} {amount : Nat} {base : List Claim}
    (passed : judgeLimits p cls amount base = none) : base.length < 16 ∧ ownedCount p base < 8
      ∧ (cls = .essential → essentialTotal base + amount ≤ 12000) := by
  unfold judgeLimits at passed
  split at passed
  · contradiction
  next room =>
    rw [Bool.or_eq_true, decide_eq_true_eq, decide_eq_true_eq] at room
    simp only [Config.claimSlots, Config.claimsPerPort] at room
    split at passed
    · contradiction
    next within =>
      refine ⟨by omega, by omega, fun essential => Nat.le_of_not_lt (?_ : ¬ Config.essentialCap < _)⟩
      simpa [essential] using within

theorem State.TablesSound.admitClaim (p : Port) (cls : ClaimClass) {requested floor amount least : Nat}
    (judged : judgeAmounts cls requested floor = some (amount, least))
    (passed : judgeLimits p cls amount (claimBase p cls s.table.claims) = none) :
    (admitClaim p cls amount least s).TablesSound := by
  obtain ⟨bounded, ranges⟩ := claimBase_sound h p cls
  obtain ⟨room, share, cap⟩ := judgeLimits_none passed
  obtain ⟨slot, free, -⟩ := lowestFree_free _ room
  refine tablesSound_blind.handReply p _ _ (tablesSound_blind.trigger _ ?_)
  obtain ⟨-, -, rest⟩ := h
  refine ⟨ClaimsBounded.admitted bounded _ p rfl free slot room share ?_, fun c hc => ?_, rest⟩
  · cases cls with
    | essential => exact cap rfl
    | elective => exact bounded.2.2.2.2
  · rcases List.mem_append.mp hc with hc | hc
    · exact ranges c hc
    · rw [List.mem_singleton.mp hc]; exact judgeAmounts_inRange judged

theorem State.TablesSound.takeClaim (p : Port) (cls requested floor : Nat) : (takeClaim p cls requested floor s).TablesSound := by
  have refused (code : ReplyCode) : (refuse p code s).TablesSound := tablesSound_blind.handReply p code [] h
  unfold Machine.takeClaim
  split
  · exact refused _
  · split
    · exact refused _
    next judged =>
      split
      · exact refused _
      next passed => exact State.TablesSound.admitClaim h p _ judged passed

omit h in
theorem claimAt_some {l : List Claim} {id : Nat} {c : Claim} (found : claimAt l id = some c) : c ∈ l ∧ c.id = id :=
  ⟨List.mem_of_find?_eq_some found, by simpa using List.find?_some found⟩

theorem State.TablesSound.amendClaim (p : Port) {c : Claim} (hc : c ∈ s.table.claims) {requested floor amount least : Nat}
    (judged : judgeAmounts c.cls requested floor = some (amount, least))
    (cap : c.cls = .essential → amendedTotal s.table.claims c amount ≤ 12000) : (amendClaim p c amount least s).TablesSound := by
  refine tablesSound_blind.handReply p _ _ (tablesSound_blind.trigger _ ?_)
  obtain ⟨bounded, ranges, rest⟩ := h
  refine ⟨ClaimsBounded.amend bounded hc amount least cap, fun d hd => ?_, rest⟩
  have hd := (amendList_perm bounded.1 hc amount least).mem_iff.mp hd
  rcases List.mem_cons.mp hd with rfl | hd
  · exact judgeAmounts_inRange judged
  · exact ranges d (List.mem_of_mem_filter hd)

theorem State.TablesSound.takeAmend (p : Port) (id requested floor : Nat) : (takeAmend p id requested floor s).TablesSound := by
  have refused (code : ReplyCode) : (refuse p code s).TablesSound := tablesSound_blind.handReply p code [] h
  unfold Machine.takeAmend
  split
  · exact refused _
  · split
    · exact refused _
    next c found =>
      split
      · unfold judgeAmend
        split
        · exact refused _
        next judged =>
          split
          · exact refused _
          next within =>
            refine State.TablesSound.amendClaim h p (claimAt_some found).1 judged fun essential =>
              Nat.le_of_not_lt (?_ : ¬ Config.essentialCap < _)
            simpa [essential] using within
      · exact refused _

theorem State.TablesSound.takeRelease (p : Port) (id : Nat) : (takeRelease p id s).TablesSound := by
  have refused (code : ReplyCode) : (refuse p code s).TablesSound := tablesSound_blind.handReply p code [] h
  unfold Machine.takeRelease
  split
  · exact refused _
  · split
    · exact refused _
    · split
      · exact tablesSound_blind.handReply p _ _ (tablesSound_blind.trigger _ (State.TablesSound.filterClaims h _ _))
      · exact refused _

/-! ### The ceiling stack -/

theorem State.TablesSound.takeCeilPush (p : Port) (ceiling : Nat) : (takeCeilPush p ceiling s).TablesSound := by
  unfold Machine.takeCeilPush
  split
  · exact tablesSound_blind.handReply p _ _ h
  next room =>
    refine tablesSound_blind.handReply p _ _ (tablesSound_blind.trigger _ ?_)
    obtain ⟨bounded, ranges, ⟨depth, limits⟩, rest⟩ := h
    refine ⟨bounded, ranges, ⟨Nat.lt_of_not_le room, fun e he => ?_⟩, rest⟩
    rcases List.mem_cons.mp he with rfl | he
    · exact min_le_right _ _
    · exact limits e he

omit h in
/-- R57: what a pop leaves is part of the stack. -/
theorem popCeiling_sublist {p : Port} {l : List Ceiling} {y : Nat × List Ceiling} (popped : popCeiling p l = some y) :
    y.2.Sublist l := by
  induction l generalizing y with
  | nil => contradiction
  | cons e rest ih =>
    rw [popCeiling] at popped
    split at popped
    · cases popped; exact List.sublist_cons_self e rest
    · obtain ⟨z, found, rfl⟩ := Option.map_eq_some_iff.mp popped
      exact (ih found).cons_cons e

omit h in
theorem CeilingsBounded.sublist {l m : List Ceiling} (bounded : CeilingsBounded l) (sub : m.Sublist l) : CeilingsBounded m :=
  ⟨sub.length_le.trans bounded.1, fun e he => bounded.2 e (sub.subset he)⟩

theorem State.TablesSound.fewerCeilings {l : List Ceiling} (sub : l.Sublist s.ceilings) :
    State.TablesSound { s with ceilings := l } := by
  obtain ⟨bounded, ranges, ceilings, rest⟩ := h
  exact ⟨bounded, ranges, ceilings.sublist sub, rest⟩

theorem State.TablesSound.takeCeilPop (p : Port) : (takeCeilPop p s).TablesSound := by
  unfold Machine.takeCeilPop
  split
  · exact tablesSound_blind.handReply p _ _ h
  next popped =>
    exact tablesSound_blind.handReply p _ _ (tablesSound_blind.trigger _ (State.TablesSound.fewerCeilings h (popCeiling_sublist popped)))

/-! ### The input controller -/

theorem State.TablesSound.setInput {x : InputCtl} (sound : x.Sound) : (s.setInput x).TablesSound := by
  obtain ⟨bounded, ranges, ceilings, -, rest⟩ := h
  exact ⟨bounded, ranges, ceilings, sound, rest⟩

omit h in
theorem takeInput_tablesSound {s : State} (h : s.TablesSound) (n : Nat) : (takeInput n s).TablesSound := by
  unfold takeInput
  split
  · exact h
  · exact h.congr rfl rfl rfl rfl rfl rfl

theorem State.TablesSound.handLimit : (handLimit s).TablesSound := by
  unfold Machine.handLimit
  split
  · exact h
  · exact takeInput_tablesSound h _

omit h in
/-- A droop limit at the full current of the contract in force is in range. -/
theorem InputCtl.sound_of_full {x : InputCtl} (full : x.droopLimit = x.inForce.current) : x.Sound :=
  ⟨full.le, (min_le_right _ _).trans_eq full.symm⟩

omit h in
theorem InputCtl.attached_sound (x : InputCtl) : x.attached.Sound := sound_of_full rfl
omit h in
theorem InputCtl.detached_sound (x : InputCtl) : x.detached.Sound := sound_of_full rfl
omit h in
theorem InputCtl.inForceNow_sound (c : Contract) (x : InputCtl) : (x.inForceNow c).Sound := sound_of_full rfl
omit h in
theorem InputCtl.resumed_sound (x : InputCtl) : x.resumed.Sound := sound_of_full rfl
omit h in
theorem InputCtl.atReset_sound (present : Bool) : (InputCtl.atReset present).Sound := sound_of_full rfl

omit h in
theorem InputCtl.drooped_sound {x : InputCtl} (sound : x.Sound) (t : Timer) :
    InputCtl.Sound { x with droopLimit := x.drooped, recovery := t } := by
  obtain ⟨full, -⟩ := sound
  refine ⟨max_le (min_le_right _ _) ?_, le_max_left _ _⟩
  refine le_trans ?_ full
  show x.droopLimit * 9 / 10 / 10 * 10 ≤ x.droopLimit
  omega

omit h in
theorem InputCtl.recovered_sound {x : InputCtl} (sound : x.Sound) (t : Timer) :
    InputCtl.Sound { x with droopLimit := x.recovered, recovery := t } := by
  obtain ⟨-, floor⟩ := sound
  exact ⟨min_le_left _ _, le_min (min_le_right _ _) (floor.trans (Nat.le_add_right _ _))⟩

theorem State.TablesSound.takeContractSet (p : Port) (voltage current : Nat) : (takeContractSet p voltage current s).TablesSound := by
  have answered (code : ReplyCode) (l : List Byte) {t : State} (ht : t.TablesSound) : (handReply p code l t).TablesSound :=
    tablesSound_blind.handReply p code l ht
  have force (c : Contract) : (Machine.trigger (Machine.handLimit (raiseMainHub .contract
      (s.setInput (s.input.inForceNow c))))).TablesSound :=
    tablesSound_blind.trigger _ (State.TablesSound.handLimit (tablesSound_blind.raiseMainHub .contract
      (State.TablesSound.setInput h (InputCtl.inForceNow_sound c _))))
  have store (c : Contract) : (s.setInput { s.input with pendingContract := some c }).TablesSound :=
    State.TablesSound.setInput h h.2.2.2.1
  unfold Machine.takeContractSet
  split
  · exact answered _ _ h
  · unfold acceptContract
    split
    · exact answered _ _ h
    · exact answered _ _ (force _)
    · exact answered _ _ (force _)
    · exact answered _ _ (store _)
    · exact answered _ _ (store _)

theorem released_tablesSound : (released s).TablesSound := by
  have told : (raiseNotice .inputReleased .input s).TablesSound := tablesSound_blind.raiseNotice _ _ h
  unfold released
  dsimp only
  split
  next p _ =>
    have told := tablesSound_blind.raiseNotice .inputReleased p told
    exact State.TablesSound.setInput told told.2.2.2.1
  · exact State.TablesSound.setInput told told.2.2.2.1

theorem State.TablesSound.takeInputRelease (p : Port) : (takeInputRelease p s).TablesSound := by
  have answered {t : State} (ht : t.TablesSound) : (handReply p .ok [] t).TablesSound := tablesSound_blind.handReply p _ _ ht
  have begun : (beginRelease p s).TablesSound := by
    refine tablesSound_blind.trigger _ ?_
    have handed : (Machine.handLimit (s.setInput
        { s.input with state := .releasing, requester := some p, recovery := none })).TablesSound :=
      State.TablesSound.handLimit (State.TablesSound.setInput h h.2.2.2.1)
    unfold releaseAtOnce
    split
    · exact released_tablesSound handed
    · exact handed
  unfold Machine.takeInputRelease
  split
  · exact answered h
  · exact answered begun
  · exact answered begun
  · exact answered h
  · exact answered h

theorem State.TablesSound.takeInputResume (p : Port) : (takeInputResume p s).TablesSound := by
  have answered {t : State} (ht : t.TablesSound) : (handReply p .ok [] t).TablesSound := tablesSound_blind.handReply p _ _ ht
  have resumed : (resumeInput s).TablesSound :=
    tablesSound_blind.trigger _ (State.TablesSound.handLimit (State.TablesSound.setInput
      (raiseIf_preserves _ h (tablesSound_blind.raiseMainHub _ h)) (InputCtl.resumed_sound _)))
  unfold Machine.takeInputResume
  split
  · exact answered h
  · exact answered h
  · exact answered h
  · exact answered resumed
  · exact answered resumed

theorem attachVbus_tablesSound : (attachVbus s).TablesSound := by
  have entered : State.TablesSound { s with present := true, input := s.input.attached } :=
    State.TablesSound.setInput (s := { s with present := true }) h (InputCtl.attached_sound _)
  exact (linkFollow_reacts _).tablesSound ((takeCharge_reacts _ _).tablesSound
    (tablesSound_blind.trigger _ (State.TablesSound.handLimit (tablesSound_blind.leave _ entered))))

theorem detachVbus_tablesSound : (detachVbus s).TablesSound := by
  have entered : State.TablesSound
      { s with present := false, input := s.input.detached, inputStage := s.inputStage.cut } :=
    State.TablesSound.setInput (s := { s with present := false, inputStage := s.inputStage.cut }) h (InputCtl.detached_sound _)
  have triggered := tablesSound_blind.trigger _ (State.TablesSound.handLimit
    (raiseIf_preserves s.input.held.isSome entered (tablesSound_blind.raiseMainHub .contract entered)))
  exact State.TablesSound.monitorTest ((linkFollow_reacts _).tablesSound ((takeCharge_reacts _ 0).tablesSound triggered))

theorem inputSample_tablesSound : (inputSample s).TablesSound := by
  have reported : (s.setInput { s.input with reports := s.input.reports ++ [s.input.overVoltage s.sample.vIn] }).TablesSound :=
    State.TablesSound.setInput h h.2.2.2.1
  unfold inputSample
  dsimp only
  split
  · unfold takeDroop
    have drooped {u : State} (hu : u.TablesSound) : (raiseNotice .droop .main (raiseNotice .droop .input
        (u.setInput { u.input with droopLimit := u.input.drooped, recovery := some (u.now + Config.recoveryMs) }))).TablesSound :=
      tablesSound_blind.raiseNotice _ _ (tablesSound_blind.raiseNotice _ _
        (State.TablesSound.setInput hu (InputCtl.drooped_sound hu.2.2.2.1 _)))
    dsimp only
    split
    · exact drooped reported
    · exact tablesSound_blind.trigger _ (State.TablesSound.handLimit (drooped reported))
  · exact reported

theorem recoveryExpires_tablesSound : (recoveryExpires s).TablesSound := by
  unfold recoveryExpires
  split
  · exact h
  next due _ =>
    have recovered (t : Timer) : ((reach due s).setInput
        { (reach due s).input with droopLimit := (reach due s).input.recovered, recovery := t }).TablesSound :=
      State.TablesSound.setInput (s := reach due s) h (InputCtl.recovered_sound h.2.2.2.1 t)
    dsimp only
    split_ifs
    · exact recovered _
    · exact recovered _
    · exact tablesSound_blind.trigger _ (State.TablesSound.handLimit (recovered _))
    · exact tablesSound_blind.trigger _ (State.TablesSound.handLimit (recovered _))

theorem inputStageSettles_tablesSound : (inputStageSettles s).TablesSound := by
  unfold inputStageSettles
  split
  · unfold inputSettled
    split
    · exact tablesSound_blind.trigger _ (State.TablesSound.handLimit (released_tablesSound h))
    · exact h
  · exact h

/-! ### Profile memory -/

omit h in
theorem StepRecord.ended_valid : StepRecord.ended.Valid := by
  simp [StepRecord.Valid, StepRecord.ended, StepKind.carriesCurrent, StepKind.carriesDuration, StepKind.carriesTimeout]

omit h in
/-- R111: a record that STEP_WRITE records is valid. -/
theorem judgeStep_valid {r : RawStep} {x : StepRecord} (judged : judgeStep r = some x) : x.Valid := by
  simp only [judgeStep, Option.bind_eq_bind, Option.bind_eq_some_iff, Option.some.injEq] at judged
  obtain ⟨k, -, current, hc, volt, hv, endCurrent, he, duration, hd, window, hw, next, hn, rfl⟩ := judged
  refine ⟨?_, ?_, ?_, ?_, ?_⟩
  · unfold judgeCurrent at hc
    dsimp only
    split at hc
    next carried =>
      split at hc
      · contradiction
      next large =>
        cases hc
        rw [if_pos carried]
        simp only [floorTen] at *
        omega
    next uncarried => cases hc; rw [if_neg uncarried]
  · dsimp only
    by_cases ended : k = .endStep
    · rw [judgeVolt, if_pos ended] at hv
      rw [judgeWindow, if_pos ended] at hw
      rw [judgeNext, if_pos ended] at hn
      cases hv; cases hw; cases hn
      rw [if_neg (not_not_intro ended)]
      exact ⟨rfl, rfl, rfl, rfl⟩
    · rw [judgeVolt, if_neg ended] at hv
      rw [judgeWindow, if_neg ended] at hw
      rw [judgeNext, if_neg ended] at hn
      rw [if_pos ended]
      split at hv
      · contradiction
      split at hw
      · contradiction
      split at hn
      · contradiction
      next volts window slot =>
        cases hv; cases hw; cases hn
        simp only [Bool.or_eq_true, decide_eq_true_eq, not_or, not_lt, not_le] at window
        exact ⟨le_min (Nat.le_of_not_lt volts) (by decide), min_le_right _ _, by omega, by omega, by omega, by omega⟩
  · unfold judgeEndCurrent at he
    dsimp only
    split at he
    next voltage =>
      split at he
      · contradiction
      next within =>
        cases he
        rw [if_pos voltage]
        simpa using within
    next other => cases he; rw [if_neg other]
  · unfold judgeDuration at hd
    dsimp only
    split at hd
    next carried =>
      split at hd
      · contradiction
      next given =>
        cases hd
        rw [if_pos carried]
        omega
    next uncarried => cases hd; rw [if_neg uncarried]
  · dsimp only [judgeTimeout]
    split
    · exact min_le_right _ _
    · rfl

omit h in
theorem loadProfile_sound (image : List RawStep) : ProfileSound (loadProfile image) := by
  refine ⟨by simp [loadProfile], fun r hr => ?_⟩
  obtain ⟨n, -, rfl⟩ := List.mem_map.mp hr
  unfold loadStep
  split
  next raw _ =>
    cases judged : judgeStep raw with
    | none => exact StepRecord.ended_valid
    | some x => exact judgeStep_valid judged
  · exact StepRecord.ended_valid

theorem State.TablesSound.setProfile {l : List StepRecord} (sound : ProfileSound l) : State.TablesSound { s with profile := l } := by
  obtain ⟨bounded, ranges, ceilings, input, -, thermal⟩ := h
  exact ⟨bounded, ranges, ceilings, input, sound, thermal⟩

theorem State.TablesSound.takeStepWrite (p : Port) (slot : Nat) (r : RawStep) : (takeStepWrite p slot r s).TablesSound := by
  have refused (code : ReplyCode) : (refuse p code s).TablesSound := tablesSound_blind.handReply p code [] h
  unfold Machine.takeStepWrite
  split
  · exact refused _
  · split
    · exact refused _
    · split
      · exact refused _
      next judged =>
        refine tablesSound_blind.handReply p _ _ (State.TablesSound.setProfile h ?_)
        obtain ⟨length, valid⟩ := h.2.2.2.2.1
        refine ⟨by rw [List.length_set]; exact length, fun x hx => ?_⟩
        rcases List.mem_or_eq_of_mem_set hx with hx | rfl
        · exact valid x hx
        · exact judgeStep_valid judged

/-! ### The protection monitor -/

theorem State.TablesSound.setProt {x : Protection} (zero : x.device.dieHot = true → x.thermal = .zero) :
    (s.setProt x).TablesSound := by
  obtain ⟨bounded, ranges, ceilings, input, profile, -, snapshots⟩ := h
  exact ⟨bounded, ranges, ceilings, input, profile, zero, snapshots⟩

theorem enterFaults_tablesSound {x : Protection} (zero : x.device.dieHot = true → x.thermal = .zero) :
    (enterFaults x s).TablesSound := by
  have entered := State.TablesSound.setProt h zero
  have allowed : (raiseIf (s.prot.cellA.uv && !x.cellA.uv) endAllowance (s.setProt x)).TablesSound :=
    raiseIf_preserves _ entered entered
  exact raiseIf_preserves _ allowed (tablesSound_blind.leave _ (tablesSound_blind.raiseAll .fault allowed))

theorem monitorSample_tablesSound (order : Nat) : (monitorSample order s).TablesSound := by
  unfold monitorSample
  dsimp only
  split
  · exact h
  · refine tablesSound_blind.trigger _ ?_
    exact (takeReports_reacts _ _).tablesSound (enterFaults_tablesSound h (judged_dieHot_zero s.sample s.prot))

end

end Sys2Proof.Machine
end

section
/-! Every command keeps the tables in range: the resets, the hold, the publication, and O57. -/

namespace Sys2Proof.Machine

/-! ### The hold (chapter 08) -/

/-- R161: the reactions to the end of a hold. -/
theorem holdEndeds_reacts (l : List Listener) (s : State) : Reacts blockEffects s (l.foldl (fun s l => holdEnded l s) s) :=
  .foldl _ _ (fun l _ s => holdEnded_reacts s l) s

section
variable {s : State} (h : s.TablesSound)
include h

theorem endHold_tablesSound (order : Nat) (own : Bool) : (endHold order own s).TablesSound := by
  have reacted := (holdEndeds_reacts (arrange order everyListener) _).tablesSound
    (show (s.setHold { s.hold with state := .off }).TablesSound from h)
  refine State.TablesSound.monitorTest ?_
  cases own
  · exact reacted
  · exact tablesSound_blind.trigger _ reacted

theorem leaveHold_tablesSound (p : Port) (order : Nat) (own : Bool) : (leaveHold p order own s).TablesSound := by
  unfold leaveHold
  dsimp only
  split
  · exact endHold_tablesSound (s := s.setHolder p _) h order own
  · exact h

theorem takeHold_tablesSound (p : Port) : (takeHold p s).TablesSound := by
  unfold takeHold joinHold
  split
  · exact h
  · split
    · refine tablesSound_blind.handReply p _ _ (tablesSound_blind.trigger _ ((reportHoldBegan_reacts _).tablesSound ?_))
      exact h
    · exact h
    · exact h

theorem takeUnhold_tablesSound (p : Port) (order : Nat) : (takeUnhold p order s).TablesSound := by
  unfold takeUnhold
  split
  · exact tablesSound_blind.handReply p _ _ (leaveHold_tablesSound h p order true)
  · exact h

theorem entryCheck_tablesSound (p : Port) : (entryCheck p s).TablesSound := by
  unfold entryCheck
  split
  · exact h
  · exact (holdTest_reacts _).tablesSound h

theorem holderExpires_tablesSound (p : Port) (order : Nat) : (holderExpires p order s).TablesSound := by
  unfold holderExpires
  split
  · exact h
  next due _ => exact leaveHold_tablesSound (s := raiseNotice .holdExpired p (reach due s)) h p order true

/-! ### The ports -/

theorem takeShare_tablesSound (p : Port) (order : Nat) (x : Share) : (takeShare p order x s).TablesSound := by
  cases x with
  | claims => exact State.TablesSound.filterClaims h _ _
  | ceilings => exact State.TablesSound.fewerCeilings h List.filter_sublist
  | engine => exact (enginePortReset_reacts s p).tablesSound h
  | hold =>
    show (if (s.holder p).joined then leaveHold p order false s else s).TablesSound
    split
    · exact leaveHold_tablesSound h p order false
    · exact h

omit h in
/-- A property that every operation of a list keeps holds after the list. -/
theorem foldl_preserves {α β : Type} {P : β → Prop} (f : β → α → β) (l : List α) (kept : ∀ x ∈ l, ∀ s, P s → P (f s x)) :
    ∀ s, P s → P (l.foldl f s) := by
  induction l with
  | nil => exact fun s hs => hs
  | cons x l ih =>
    exact fun s hs => ih (fun y hy => kept y (List.mem_cons_of_mem _ hy)) _ (kept x List.mem_cons_self s hs)

theorem resetPort_tablesSound (p : Port) (order : Nat) : (resetPort p order s).TablesSound := by
  have shared := foldl_preserves (P := State.TablesSound) (fun s x => takeShare p (order / 24) x s)
    (arrange order [Share.claims, .ceilings, .engine, .hold]) (fun x _ u hu => takeShare_tablesSound hu p _ x) s h
  exact tablesSound_blind.handReply p _ _ (tablesSound_blind.trigger _ (tablesSound_blind.ports _ _ shared))

theorem dormancyExpires_tablesSound (p : Port) : (dormancyExpires p s).TablesSound := by
  unfold dormancyExpires
  split
  · exact h
  next due _ =>
    have slept : ((reach due s).setPort p { (reach due s).port p with dormant := true, dormancy := none }).TablesSound :=
      h.congr rfl rfl rfl rfl rfl rfl
    exact State.TablesSound.monitorTest (tablesSound_blind.trigger _ (slept.mapClaims (Claim.suspend p) _ (Claim.suspend_same p)))

/-! ### Channels, jobs and the link -/

theorem takeChStart_tablesSound (p : Port) (cell slot : Nat) : (takeChStart p cell slot s).TablesSound := by
  have refused (code : ReplyCode) : (refuse p code s).TablesSound := tablesSound_blind.handReply p code [] h
  unfold takeChStart
  split
  · exact refused _
  · split
    · exact refused _
    · unfold judgeStart
      split
      · exact refused _
      · split
        · exact refused _
        · exact tablesSound_blind.handReply p _ _ ((startChannel_reacts s _ slot).tablesSound h)

theorem takeChStop_tablesSound (p : Port) (cell : Nat) : (takeChStop p cell s).TablesSound := by
  unfold takeChStop
  split
  · exact h
  · exact tablesSound_blind.handReply p _ _ ((commit_reacts s _ _).tablesSound h)

theorem takeBalQueue_tablesSound (p : Port) (direction mode count rate tolerance : Nat) :
    (takeBalQueue p direction mode count rate tolerance s).TablesSound := by
  have refused (code : ReplyCode) : (refuse p code s).TablesSound := tablesSound_blind.handReply p code [] h
  unfold takeBalQueue
  split
  · split
    · exact refused _
    · unfold judgeQueue
      split
      · exact refused _
      · split
        · exact refused _
        · refine tablesSound_blind.handReply p _ _ ?_
          unfold placeJob
          dsimp only
          split
          · exact (newHead_reacts startChecks_reacts _).tablesSound h
          · exact h
  · exact refused _
  · exact refused _

theorem takeBalCancel_tablesSound (p : Port) (tag : Nat) : (takeBalCancel p tag s).TablesSound := by
  have refused (code : ReplyCode) : (refuse p code s).TablesSound := tablesSound_blind.handReply p code [] h
  unfold takeBalCancel
  split
  · exact refused _
  · split
    · refine tablesSound_blind.handReply p _ _ ?_
      unfold cancelJob
      split
      · exact (finishHead_reacts s _).tablesSound h
      · exact tablesSound_blind.raiseNotice _ _ h
    · exact refused _

theorem tenureExpires_tablesSound : (tenureExpires s).TablesSound := by
  unfold tenureExpires
  split
  · exact h
  · unfold yieldAtExpiry
    split
    · split
      · exact (yieldOf_reacts _ _).tablesSound h
      · exact h
    · exact h
    · exact h

theorem backoffExpires_tablesSound (r : Requester) : (backoffExpires r s).TablesSound := by
  unfold backoffExpires
  split
  · exact h
  · dsimp only
    split
    · exact (choiceFree_reacts _).tablesSound h
    · exact h
    · exact h

theorem holdOffExpires_tablesSound : (holdOffExpires s).TablesSound := by
  unfold holdOffExpires
  split
  · exact h
  next due _ => exact State.TablesSound.monitorTest (s := (reach due s).setPower { s.power with holdOff := none }) h

theorem stepTimesOut_tablesSound (c : Cell) : (stepTimesOut c s).TablesSound := by
  unfold stepTimesOut
  split
  · exact (commit_reacts s _ _).tablesSound h
  · exact h

theorem stepRunsOut_tablesSound (c : Cell) : (stepRunsOut c s).TablesSound := by
  unfold stepRunsOut
  dsimp only
  split
  · exact (commit_reacts s _ _).tablesSound h
  · exact h

theorem cellAPathSettles_tablesSound : (cellAPathSettles s).TablesSound := by
  unfold cellAPathSettles
  split
  · exact (holdTest_reacts _).tablesSound h
  · exact h

theorem linkSettles_tablesSound (holdFirst : Bool) : (linkSettles holdFirst s).TablesSound := by
  unfold linkSettles
  split
  · dsimp only
    split
    · exact (arbiterSettled_reacts _).tablesSound ((holdTest_reacts _).tablesSound h)
    · exact (holdTest_reacts _).tablesSound ((arbiterSettled_reacts _).tablesSound h)
  · exact h

/-! ### Faults -/

theorem takeFaultClear_tablesSound (p : Port) (target : Nat) : (takeFaultClear p target s).TablesSound := by
  unfold takeFaultClear
  split
  · exact h
  next t _ =>
    split
    · exact h
    · split
      · exact h
      · refine tablesSound_blind.handReply p _ _ (tablesSound_blind.trigger _ ?_)
        have cleared : (s.setProt (s.prot.cleared t)).TablesSound := by
          refine State.TablesSound.setProt h ?_
          obtain ⟨zero, -⟩ := h.2.2.2.2.2
          match t with
          | .cell .a => exact zero
          | .cell .b => exact zero
          | .link => exact zero
        match t with
        | .cell _ => exact cleared
        | .link => exact (unlockLink_reacts _).tablesSound cleared

theorem deliverReport_tablesSound : (deliverReport s).TablesSound := by
  unfold deliverReport
  split
  · exact h
  next high rest _ =>
    have delivered : (s.setInput { s.input with reports := rest }).TablesSound := State.TablesSound.setInput h h.2.2.2.1
    unfold inputOvReport
    split
    · exact delivered
    · exact tablesSound_blind.trigger _ (enterFaults_tablesSound delivered h.2.2.2.2.2.1)

/-! ### The publication -/

theorem publishGrants_tablesSound (grants : List GrantOut) : (publishGrants grants s).TablesSound := by
  have taken := State.TablesSound.mapClaims h (Claim.published grants s) s.table.nextAdmission (Claim.published_same grants s)
  refine foldl_preserves (P := State.TablesSound) (fun s (c : Claim) => raiseOwner .grant c.owner s) _ (fun c _ u hu => ?_) _ taken
  unfold raiseOwner
  split
  · exact hu
  · exact tablesSound_blind.raiseNotice _ _ hu

theorem publishTo_tablesSound (old : Publication) (grants : List GrantOut) (x : Recipient) :
    (publishTo old grants x s).TablesSound := by
  cases x with
  | table => exact publishGrants_tablesSound h grants
  | channelA => exact (publishToChannel_reacts s .a).tablesSound h
  | channelB => exact (publishToChannel_reacts s .b).tablesSound h
  | path => exact h
  | supply => exact (publishSupply_reacts s).tablesSound h
  | link => exact (linkFollow_reacts s).tablesSound h
  | notices =>
    have told := raiseIf_preserves (P := State.TablesSound) (crossesZero old.deficit s.alloc.record.deficit) h
      (tablesSound_blind.raiseMainHub .deficit h)
    exact raiseIf_preserves _ told (tablesSound_blind.raiseMainHub .shortfall told)

theorem endPass_tablesSound : (endPass s).TablesSound := by
  obtain ⟨bounded, ranges, ceilings, input, profile, zero, -⟩ := h
  unfold endPass
  split
  · refine ⟨bounded, ranges, ceilings, input, profile, zero, fun x hx => ?_⟩
    obtain rfl : s.snapshot = x := Option.some.inj hx
    exact zero
  · exact ⟨bounded, ranges, ceilings, input, profile, zero, fun x hx => absurd hx (Option.not_mem_none x)⟩

theorem publish_tablesSound (x : Snapshot) (order : Nat) : (publish x order s).TablesSound := by
  have recorded : (s.setAlloc { s.alloc with record := x.figures (nextCount s.alloc.record.count), published := true }).TablesSound :=
    h.congr rfl rfl rfl rfl rfl rfl
  exact endPass_tablesSound (foldl_preserves (P := State.TablesSound) (fun s r => publishTo _ x.grants r s)
    (arrange order everyRecipient) (fun r _ _ hu => publishTo_tablesSound hu _ _ r) _ recorded)

/-! ### Start-up -/

theorem endLoadingTest_tablesSound : (endLoadingTest s).TablesSound := by
  unfold endLoadingTest
  split
  · have timed (p : Port) {u : State} (hu : u.TablesSound) : (startDormancy p u).TablesSound :=
      tablesSound_blind.ports u _ hu
    have handed : (startDormancy .input (startDormancy .hub (startDormancy .main (takeInput s.input.limit s)))).TablesSound :=
      timed .input (timed .hub (timed .main (takeInput_tablesSound h s.input.limit)))
    have started : (autoStartAll (startDormancy .input (startDormancy .hub (startDormancy .main
        (takeInput s.input.limit s))))).TablesSound := by
      have one (c : Cell) (n : Nat) {u : State} (hu : u.TablesSound) : (autoStart c n u).TablesSound := by
        unfold autoStart
        split
        · exact hu
        · exact (startChannel_reacts u c n).tablesSound hu
      unfold autoStartAll
      split
      · exact one .b _ (one .a _ handed)
      · exact handed
    exact tablesSound_blind.trigger _ (tablesSound_blind.raiseAll .ready started)
  · exact h

theorem receive_tablesSound (order : Nat) (x : Receiver) : (receive order x s).TablesSound := by
  cases x with
  | monitor => exact monitorSample_tablesSound h order
  | input => exact inputSample_tablesSound h
  | channelA => exact (channelSample_reacts s .a).tablesSound h
  | channelB => exact (channelSample_reacts s .b).tablesSound h
  | engine => exact (engineSample_reacts s).tablesSound h
  | allocator => exact tablesSound_blind.trigger s h
  | startUp => exact endLoadingTest_tablesSound h

theorem arriveSample_tablesSound (m : RawSample) (order : Nat) : (arriveSample m order s).TablesSound :=
  foldl_preserves (P := State.TablesSound) (fun s x => receive (order / 5040) x s) (arrange order everyReceiver)
    (fun x _ _ hu => receive_tablesSound hu _ x) (recordSample m s) (h.congr rfl rfl rfl rfl rfl rfl)

/-! ### Resets -/

omit h in
theorem startUpClaim_sound : ClaimsBounded [startUpClaim] ∧ ∀ c ∈ [startUpClaim], c.InRange := by
  have shares (p : Port) : ownedCount p [startUpClaim] ≤ Config.claimsPerPort := by cases p <;> decide
  refine ⟨⟨by decide, by decide, by decide, shares, by decide⟩, ?_⟩
  simp [Claim.InRange, startUpClaim, Config.startUpAmount, Config.requestedMax]

omit h in
theorem resetProfile_sound : ProfileSound (List.replicate Config.profileSlots StepRecord.ended) := by
  refine ⟨List.length_replicate, fun r hr => ?_⟩
  rw [(List.mem_replicate.mp hr).2]
  exact StepRecord.ended_valid

omit h in
/-- The tables are sound where each of them is. -/
theorem State.TablesSound.intro {s : State} (bounded : ClaimsBounded s.table.claims) (ranges : ∀ c ∈ s.table.claims, c.InRange)
    (ceilings : CeilingsBounded s.ceilings) (input : s.input.Sound) (profile : ProfileSound s.profile)
    (zero : s.prot.device.dieHot = true → s.prot.thermal = .zero) (idle : s.alloc.pass = none) : s.TablesSound :=
  ⟨bounded, ranges, ceilings, input, profile, zero, fun x hx => by rw [idle] at hx; exact absurd hx (Option.not_mem_none x)⟩

omit h in
theorem CeilingsBounded.nil : CeilingsBounded [] := ⟨Nat.zero_le _, nofun⟩

omit h in
theorem resetPowerOn_tablesSound (level : Bool) (s : State) : (resetPowerOn level s).TablesSound := by
  have claims : (resetPowerOn level s).table.claims = [startUpClaim] := rfl
  have ceilings : (resetPowerOn level s).ceilings = [] := rfl
  have input : (resetPowerOn level s).input = InputCtl.atReset level := rfl
  have profile : (resetPowerOn level s).profile = List.replicate Config.profileSlots StepRecord.ended := rfl
  have cold : (resetPowerOn level s).prot.device.dieHot = false := rfl
  refine State.TablesSound.intro ?_ ?_ ?_ ?_ ?_ ?_ rfl
  · rw [claims]; exact startUpClaim_sound.1
  · rw [claims]; exact startUpClaim_sound.2
  · rw [ceilings]; exact CeilingsBounded.nil
  · rw [input]; exact InputCtl.atReset_sound level
  · rw [profile]; exact resetProfile_sound
  · rw [cold]; exact nofun

theorem resetBlocks_tablesSound : (resetBlocks s).TablesSound := by
  obtain ⟨-, -, -, -, profile, zero, -⟩ := h
  have claims : (resetBlocks s).table.claims = [startUpClaim] := rfl
  have ceilings : (resetBlocks s).ceilings = [] := rfl
  refine State.TablesSound.intro ?_ ?_ ?_ (InputCtl.sound_of_full rfl) profile zero rfl
  · rw [claims]; exact startUpClaim_sound.1
  · rw [claims]; exact startUpClaim_sound.2
  · rw [ceilings]; exact CeilingsBounded.nil

theorem resetDevice_tablesSound : (resetDevice s).TablesSound := by
  have stages := (linkFollow_reacts _).tablesSound ((takeCharge_reacts _ 0).tablesSound
    (takeInput_tablesSound (resetBlocks_tablesSound (tablesSound_blind.leave s h)) 0))
  exact stages.congr rfl rfl rfl rfl rfl rfl

theorem enterShip_tablesSound : (enterShip s).TablesSound := by
  obtain ⟨bounded, ranges, ceilings, input, profile, zero, -⟩ := h
  exact State.TablesSound.intro (s := enterShip s) bounded ranges ceilings input profile zero rfl

theorem takeShipEnter_tablesSound (p : Port) : (takeShipEnter p s).TablesSound := by
  unfold takeShipEnter
  split
  · exact enterShip_tablesSound h
  · exact h

theorem finishCopy_tablesSound : (finishCopy s).TablesSound :=
  State.TablesSound.setProfile (s := { s with settings := loadSettings s.otp.settings, power := { s.power with copied := true } }) h
    (loadProfile_sound _)

theorem execRstnAssert_tablesSound {t : State} (ran : execRstnAssert s = .next t) : t.TablesSound := by
  cases ran
  split
  · exact h
  · split
    · exact resetDevice_tablesSound (s := setLine true s) h
    · exact h

/-! ### Commands -/

omit h in
/-- A frame that its port takes keeps the tables sound where the owning block's part does. -/
theorem takeFrame_tablesSound (p : Port) (i : Instr) (check : Option ReplyCode) {own : State → State}
    (kept : ∀ u : State, u.TablesSound → (own u).TablesSound) {s : State} (h : s.TablesSound) :
    (takeFrame p i check own s).TablesSound :=
  tablesSound_blind.takeFrame p i check own (fun u hu _ _ => kept u hu) h

theorem exec_tablesSound (i : Instr) {t : State} (ran : exec i s = .next t) : t.TablesSound := by
  have ite (c : Prop) [Decidable c] {a : State} (ha : a.TablesSound) : (if c then a else s).TablesSound := by
    split
    · exact ha
    · exact h
  cases i with
  | statusRead p fr =>
    cases ran; exact takeFrame_tablesSound _ _ _ (fun u hu => tablesSound_blind.handReply p _ _ hu) h
  | noticeRead p fr =>
    cases ran; exact takeFrame_tablesSound _ _ _ (fun u hu => tablesSound_blind.ports u _ hu) h
  | noticeMask p fr mask =>
    cases ran; exact takeFrame_tablesSound _ _ _ (fun u hu => tablesSound_blind.ports u _ hu) h
  | portReset p fr order => cases ran; exact takeFrame_tablesSound _ _ _ (fun u hu => resetPort_tablesSound hu p order) h
  | claim p fr cls requested floor =>
    cases ran; exact takeFrame_tablesSound _ _ _ (fun u hu => State.TablesSound.takeClaim hu p _ _ _) h
  | amend p fr id requested floor =>
    cases ran; exact takeFrame_tablesSound _ _ _ (fun u hu => State.TablesSound.takeAmend hu p _ _ _) h
  | release p fr id => cases ran; exact takeFrame_tablesSound _ _ _ (fun u hu => State.TablesSound.takeRelease hu p id) h
  | claimRead p fr id =>
    cases ran
    refine takeFrame_tablesSound _ _ _ (fun u hu => ?_) h
    unfold takeClaimRead
    split
    · exact hu
    · split <;> exact hu
  | ceilPush p fr ceiling => cases ran; exact takeFrame_tablesSound _ _ _ (fun u hu => State.TablesSound.takeCeilPush hu p _) h
  | ceilPop p fr => cases ran; exact takeFrame_tablesSound _ _ _ (fun u hu => State.TablesSound.takeCeilPop hu p) h
  | hold p fr => cases ran; exact takeFrame_tablesSound _ _ _ (fun u hu => takeHold_tablesSound hu p) h
  | unhold p fr order => cases ran; exact takeFrame_tablesSound _ _ _ (fun u hu => takeUnhold_tablesSound hu p order) h
  | chStart p fr cell slot => cases ran; exact takeFrame_tablesSound _ _ _ (fun u hu => takeChStart_tablesSound hu p _ _) h
  | chStop p fr cell => cases ran; exact takeFrame_tablesSound _ _ _ (fun u hu => takeChStop_tablesSound hu p _) h
  | stepWrite p fr slot r => cases ran; exact takeFrame_tablesSound _ _ _ (fun u hu => State.TablesSound.takeStepWrite hu p _ _) h
  | stepRead p fr slot =>
    cases ran
    refine takeFrame_tablesSound _ _ _ (fun u hu => ?_) h
    unfold takeStepRead
    split <;> exact hu
  | balQueue p fr direction mode count rate tolerance =>
    cases ran; exact takeFrame_tablesSound _ _ _ (fun u hu => takeBalQueue_tablesSound hu p _ _ _ _ _) h
  | balCancel p fr tag => cases ran; exact takeFrame_tablesSound _ _ _ (fun u hu => takeBalCancel_tablesSound hu p tag) h
  | contractSet p fr voltage current =>
    cases ran; exact takeFrame_tablesSound _ _ _ (fun u hu => State.TablesSound.takeContractSet hu p _ _) h
  | inputRelease p fr => cases ran; exact takeFrame_tablesSound _ _ _ (fun u hu => State.TablesSound.takeInputRelease hu p) h
  | inputResume p fr => cases ran; exact takeFrame_tablesSound _ _ _ (fun u hu => State.TablesSound.takeInputResume hu p) h
  | faultClear p fr target => cases ran; exact takeFrame_tablesSound _ _ _ (fun u hu => takeFaultClear_tablesSound hu p _) h
  | shipEnter p fr => cases ran; exact takeFrame_tablesSound _ _ _ (fun u hu => takeShipEnter_tablesSound hu p) h
  | deviceReset p fr => cases ran; exact takeFrame_tablesSound _ _ _ (fun u hu => resetDevice_tablesSound hu) h
  | unknownRequestFrame p bytes =>
    cases ran
    split
    · exact h
    · exact takeFrame_tablesSound _ _ _ (fun u hu => hu) h
  | frameTurnedAway w => cases ran; exact ite _ (tablesSound_blind.ports s _ h)
  | powerOnReset level => cases ran; exact resetPowerOn_tablesSound level s
  | rstnAssert => exact execRstnAssert_tablesSound h ran
  | rstnRelease =>
    cases ran
    split
    · exact endLoadingTest_tablesSound (s := setLine false s) h
    · exact h
  | attach level =>
    cases ran
    split
    · exact h
    · split
      · exact resetPowerOn_tablesSound level s
      · split
        · exact h
        · exact attachVbus_tablesSound h
  | detach => cases ran; exact ite _ (detachVbus_tablesSound h)
  | wakePress level => cases ran; exact ite _ (resetPowerOn_tablesSound level s)
  | sampleArrival measured order => cases ran; exact ite _ (arriveSample_tablesSound h measured order)
  | recoveryTimerExpiry => cases ran; exact ite _ (recoveryExpires_tablesSound h)
  | dormancyExpiry p => cases ran; exact ite _ (dormancyExpires_tablesSound h p)
  | tenureExpiry => cases ran; exact ite _ (tenureExpires_tablesSound h)
  | backoffExpiry r => cases ran; exact ite _ (backoffExpires_tablesSound h r)
  | holdExpiry p order => cases ran; exact ite _ (holderExpires_tablesSound h p order)
  | monitorHoldOffExpiry => cases ran; exact ite _ (holdOffExpires_tablesSound h)
  | stepTimeout c => cases ran; exact ite _ (stepTimesOut_tablesSound h c)
  | stepDurationEnd c => cases ran; exact ite _ (stepRunsOut_tablesSound h c)
  | inputStageSettled => cases ran; exact ite _ (inputStageSettles_tablesSound h)
  | cellAPathSettled => cases ran; exact ite _ (cellAPathSettles_tablesSound h)
  | hingeLinkSettled holdFirst => cases ran; exact ite _ (linkSettles_tablesSound h holdFirst)
  | publication order =>
    cases ran
    split
    · split
      · exact publish_tablesSound h _ order
      · exact h
    · exact h
  | copyComplete => cases ran; exact ite _ (endLoadingTest_tablesSound (finishCopy_tablesSound h))
  | holdEntryCheck p => cases ran; exact ite _ (entryCheck_tablesSound h p)
  | inputOvReport => cases ran; exact ite _ (deliverReport_tablesSound h)
  | ownSupplyLoss => cases ran; exact h
  | replyPlaced p =>
    cases ran
    refine ite _ ?_
    unfold placeReply
    dsimp only
    split <;> exact h

end

/-- Settles O57: each command keeps the tables sound, and so does the passing of a millisecond. -/
theorem tablesStaySound : Obligations.TablesStaySound := by
  intro s t sound stepped
  unfold step at stepped
  split at stepped
  · cases stepped; exact sound
  next i rest _ => exact exec_tablesSound (s := { s with pending := rest }) sound i stepped

end Sys2Proof.Machine
end

section
/-! CLAIM, AMEND and RELEASE (R20 to R29) as the claim table answers them, and O11 to O15. -/

namespace Sys2Proof.Machine

/-! ### The state in which the owning block takes a request (R181) -/

/-- R34, R36: taking a frame wakes a dormant port's suspended claims, and touches the claim table nowhere else. -/
theorem handedOver_table (p : Port) (i : Instr) (s : State) :
    (handedOver p i s).table = if (s.port p).dormant = true then s.table.wake p else s.table := by
  have filled : ((fillSlot p (writtenBytes i) s).port p).dormant = (s.port p).dormant := by
    rw [fillSlot, setPort_port]
  rw [handedOver, Keeps.table (leaveMonitor_outer _), wakePort]
  simp only [filled]
  split
  · exact Keeps.table (trigger_outer _)
  · rfl

/-! ### A table that changes, triggers a pass and replies -/

/-- The claim table holds these claims from now on, a pass is triggered, and the port is answered OK. -/
def retable (p : Port) (reply : List Byte) (x : ClaimTable) (s : State) : State :=
  handReply p .ok reply (trigger (s.setTable x))

section
variable (p : Port) (reply : List Byte) (x : ClaimTable) (s : State)

theorem retable_still : (retable p reply x s).still = { s.still with table := x } := by
  rw [retable, handReply_still, trigger_still]
  rfl

theorem retable_table : (retable p reply x s).table = x := Keeps.table (trigger_outer (s.setTable x))

theorem retable_answers : Answers (retable p reply x s) p .ok reply := handReply_handed _ p .ok _

/-- The new table does not touch the power state, so the trigger of a request handed past is taken. -/
theorem retable_triggered (i : Instr) (h : Hands s p) : Triggered (handedOver p i s) (retable p reply x (handedOver p i s)) :=
  handReply_triggered p _ _ (handedOver_triggered p i s ((handedOver p i s).setTable x) h rfl)

end

/-! ### CLAIM -/

section
variable (p : Port) (code requested floor : Nat) (s : State)

/-- Every port may send CLAIM, so a well-framed one reaches the claim table. -/
theorem exec_claim_handed (h : Hands s p) :
    let i : Instr := .claim p (Framing.ofLength 5) code requested floor
    exec i s = .next (takeClaim p code requested floor (handedOver p i s)) :=
  congrArg Host.Outcome.next (takeRequest_handed p .claim _ (takeClaim p code requested floor) s h rfl)

theorem classOf_none (unlisted : 2 ≤ code) : classOf code = none := by
  match code with
  | n + 2 => rfl

theorem takeClaim_badValue (bad : 2 ≤ code ∨ requested = 0 ∨ (code = 1 ∧ floor = 0)) :
    takeClaim p code requested floor s = withReply p .badValue [] s := by
  rcases Nat.lt_or_ge code 2 with listed | unlisted
  · have judged : ∀ cls, classOf code = some cls → judgeAmounts cls requested floor = none := fun cls named =>
      judgeAmounts_eq_none cls requested floor <| by
        rcases bad with above | zero | ⟨rfl, zero⟩
        · omega
        · exact .inl zero
        · exact .inr ⟨(Option.some.inj named).symm, zero⟩
    unfold takeClaim
    cases named : classOf code with
    | none => rfl
    | some cls => simp only [judged cls named, refuse_eq_withReply]
  · simp only [takeClaim, classOf_none code unlisted, refuse_eq_withReply]

variable {code requested floor} {cls : ClaimClass} (named : classOf code = some cls) (positive : 0 < requested)
  (least : cls = .elective → 0 < floor)
include named positive least

theorem takeClaim_refused {answer : ReplyCode}
    (past : judgeLimits p cls (min requested 30000) (claimBase p cls s.table.claims) = some answer) :
    takeClaim p code requested floor s = withReply p answer [] s := by
  simp only [takeClaim, named, judgeAmounts_eq_some cls requested floor positive least, past, refuse_eq_withReply]

theorem takeClaim_admitted (within : judgeLimits p cls (min requested 30000) (claimBase p cls s.table.claims) = none) :
    takeClaim p code requested floor s = admitClaim p cls (min requested 30000)
      (cls.floorWithin (min requested 30000) floor) s := by
  simp only [takeClaim, named, judgeAmounts_eq_some cls requested floor positive least, within]

end

theorem judgeLimits_full {p : Port} {cls : ClaimClass} {amount : Nat} {base : List Claim}
    (full : 16 ≤ base.length ∨ 8 ≤ ownedCount p base) : judgeLimits p cls amount base = some .full := by
  rw [judgeLimits, if_pos]
  rw [Bool.or_eq_true, decide_eq_true_eq, decide_eq_true_eq]
  exact full

/-- With a slot and a share free, the essential cap alone decides. -/
theorem judgeLimits_room {p : Port} {cls : ClaimClass} {amount : Nat} {base : List Claim}
    (room : base.length < 16) (share : ownedCount p base < 8) : judgeLimits p cls amount base =
      if cls = .essential ∧ 12000 < essentialTotal base + amount then some .overCap else none := by
  rw [judgeLimits, if_neg]
  · simp only [Bool.and_eq_true, decide_eq_true_eq]
    rfl
  · rw [Bool.or_eq_true, decide_eq_true_eq, decide_eq_true_eq]
    exact not_or.mpr ⟨Nat.not_le.mpr room, Nat.not_le.mpr share⟩

theorem claimBase_eq (p : Port) (cls : ClaimClass) (l : List Claim) : claimBase p cls l =
    if p = .main ∧ cls = .essential then l.filter (fun c => c.owner != .internal) else l := by
  simp only [claimBase, Bool.and_eq_true, decide_eq_true_eq]
  rfl

/-- Settles O11: within the limits the table admits the record, at the slot that the search for the lowest free one finds. -/
theorem claimAdmitted : Obligations.ClaimAdmitted := by
  intro s p code requested floor cls hands named positive least i u base room share cap
  have taken : exec i s = .next (takeClaim p code requested floor u) := exec_claim_handed p code requested floor s hands
  have judged : base = claimBase p cls u.table.claims := (claimBase_eq p cls u.table.claims).symm
  have within : judgeLimits p cls (min requested 30000) (claimBase p cls u.table.claims) = none := by
    rw [← judged, judgeLimits_room room share, if_neg]
    rintro ⟨essential, past⟩
    exact absurd (cap essential) (Nat.not_le.mpr past)
  obtain ⟨slot, free, lowest⟩ := lowestFree_free base room
  rw [taken, takeClaim_admitted p u named positive least within, admitClaim, ← judged]
  refine ⟨_, rfl, newClaim p cls _ _ u.table.nextAdmission base, ?_, retable_still p _ _ u, rfl, rfl, rfl, rfl, rfl, rfl, rfl,
    free, slot, fun n hn => lowest n (List.mem_range.mp hn), retable_answers p _ _ u, retable_triggered p _ _ s i hands⟩
  exact (congrArg (fun x : ClaimTable => x.claims.getLast?) (retable_table p _ _ u)).trans List.getLast?_concat

/-- Settles O12: the judgements in their order, each with those before it passed. -/
theorem claimRefused : Obligations.ClaimRefused := by
  intro s p code requested floor hands i u base full
  have taken : exec i s = .next (takeClaim p code requested floor u) := exec_claim_handed p code requested floor s hands
  rw [taken]
  have classes : code ≤ 1 → ∃ cls, classOf code = some cls ∧ (cls = .elective → code = 1) ∧ (cls = .essential ↔ code = 0) := by
    intro listed
    match code with
    | 0 => exact ⟨.essential, rfl, nofun, fun _ => rfl, fun _ => rfl⟩
    | 1 => exact ⟨.elective, rfl, fun _ => rfl, nofun, nofun⟩
  have judged (cls : ClaimClass) (same : cls = .essential ↔ code = 0) : claimBase p cls u.table.claims = base := by
    simp only [claimBase_eq, same]
    rfl
  refine ⟨fun bad => ?_, fun listed positive least isFull => ?_, fun zero positive room past => ?_⟩
  · rw [takeClaim_badValue p code requested floor u bad]
  · obtain ⟨cls, named, elective, same⟩ := classes listed
    rw [takeClaim_refused p u named positive (fun h => least (elective h))]
    rw [judged cls same]
    exact judgeLimits_full isFull
  · obtain ⟨cls, named, elective, same⟩ := classes (by omega)
    have essential : cls = .essential := same.mpr zero
    obtain ⟨slots, shares⟩ := not_or.mp room
    rw [takeClaim_refused p u named positive (fun h => absurd (elective h) (by omega))]
    rw [judged cls same, judgeLimits_room (Nat.not_le.mp slots) (Nat.not_le.mp shares)]
    exact if_pos ⟨essential, past⟩

/-! ### AMEND -/

section
variable (p : Port) (id requested floor : Nat) (s : State)

/-- Every port may send AMEND, so a well-framed one reaches the claim table. -/
theorem exec_amend_handed (h : Hands s p) :
    let i : Instr := .amend p (Framing.ofLength 5) id requested floor
    exec i s = .next (takeAmend p id requested floor (handedOver p i s)) :=
  congrArg Host.Outcome.next (takeRequest_handed p .amend _ (takeAmend p id requested floor) s h rfl)

theorem takeAmend_outside (hid : 16 ≤ id) : takeAmend p id requested floor s = withReply p .badValue [] s := by
  have above : Config.claimSlots ≤ id := hid
  rw [takeAmend, if_pos above, refuse_eq_withReply]

theorem takeAmend_free (hid : id < 16) (free : claimAt s.table.claims id = none) :
    takeAmend p id requested floor s = withReply p .notFound [] s := by
  have within : ¬ Config.claimSlots ≤ id := Nat.not_le.mpr hid
  simp only [takeAmend, if_neg within, free, refuse_eq_withReply]

variable {id} {c : Claim} (hid : id < 16) (held : claimAt s.table.claims id = some c)
include hid held

theorem takeAmend_foreign (other : c.owner ≠ .port p) : takeAmend p id requested floor s = withReply p .notOwner [] s := by
  have within : ¬ Config.claimSlots ≤ id := Nat.not_le.mpr hid
  have foreign : ¬ c.ownedBy p = true := by rwa [c.ownedBy_iff]
  simp only [takeAmend, if_neg within, held, if_neg foreign, refuse_eq_withReply]

theorem takeAmend_own (own : c.owner = .port p) : takeAmend p id requested floor s = judgeAmend p c requested floor s := by
  have within : ¬ Config.claimSlots ≤ id := Nat.not_le.mpr hid
  simp only [takeAmend, if_neg within, held, if_pos ((c.ownedBy_iff p).mpr own)]

end

section
variable (p : Port) (c : Claim) {requested floor : Nat} (s : State)

theorem judgeAmend_badValue (bad : requested = 0 ∨ (c.cls = .elective ∧ floor = 0)) :
    judgeAmend p c requested floor s = withReply p .badValue [] s := by
  simp only [judgeAmend, judgeAmounts_eq_none c.cls requested floor bad, refuse_eq_withReply]

/-- R26, R28: amounts that pass are held against the essential cap. -/
theorem judgeAmend_judged (positive : 0 < requested) (least : c.cls = .elective → 0 < floor) :
    judgeAmend p c requested floor s =
      if c.cls = .essential ∧ 12000 < essentialTotal s.table.claims - c.requested + min requested 30000 then
        withReply p .overCap [] s
      else amendClaim p c (min requested 30000)
        (c.cls.floorWithin (min requested 30000) floor) s := by
  simp only [judgeAmend, judgeAmounts_eq_some c.cls requested floor positive least, refuse_eq_withReply, amendedTotal]
  exact if_congr (Bool.and_eq_true _ _ ▸ and_congr decide_eq_true_iff decide_eq_true_iff) rfl rfl

end

/-- R27: an amendment in which neither amount rises keeps the claim's place. -/
theorem amendList_in_place (l : List Claim) (c : Claim) {id amount floor : Nat} (same : c.id = id)
    (amounts : amount ≤ c.requested) (floors : floor ≤ c.floor) : amendList l c amount floor
      = l.map (fun d => if d.id = id then { c with requested := amount, floor := floor } else d) := by
  have level : ¬ rises c amount floor = true := by
    rw [rises, Bool.or_eq_true, decide_eq_true_eq, decide_eq_true_eq]
    omega
  simp only [amendList, if_neg level, beq_iff_eq, same]

/-- R27: an amendment in which an amount rises makes the claim the youngest. -/
theorem amendList_to_back (l : List Claim) (c : Claim) {id amount floor : Nat} (same : c.id = id)
    (rise : c.requested < amount ∨ c.floor < floor) : amendList l c amount floor
      = l.filter (fun d => d.id != id) ++ [{ c with requested := amount, floor := floor }] := by
  have rising : rises c amount floor = true := by
    rw [rises, Bool.or_eq_true, decide_eq_true_eq, decide_eq_true_eq]
    exact rise
  simp only [amendList, if_pos rising, same]

/-- Settles O13: the amended claim keeps its place or goes to the back, and the reply tells its age there. -/
theorem amendAccepted : Obligations.AmendAccepted := by
  intro s p id requested floor hands hid positive i u l once c held own given amount least new cap
  have taken : exec i s = .next (takeAmend p id requested floor u) := exec_amend_handed p id requested floor s hands
  have same : c.id = id := (claimAt_some held).2
  have accepted : exec i s = .next (amendClaim p c amount least u) := by
    rw [taken, takeAmend_own p requested floor u hid held own, judgeAmend_judged p c u positive given, if_neg]
    · rfl
    · rintro ⟨essential, past⟩
      exact absurd (cap essential) (Nat.not_le.mpr past)
  have still : (amendClaim p c amount least u).still
      = { u.still with table := { u.table with claims := amendList l c amount least } } := retable_still p _ _ u
  refine ⟨_, accepted, fun amounts floors => ?_, fun rise => ?_, ?_, retable_triggered p _ _ s i hands⟩
  · rw [still, amendList_in_place l c same amounts floors]
  · rw [still, amendList_to_back l c same rise]
  · have table : (amendClaim p c amount least u).table.claims = amendList l c amount least :=
      congrArg ClaimTable.claims (retable_table p _ { u.table with claims := amendList l c amount least } u)
    rw [table, ← same]
    exact retable_answers p _ _ u

/-! ### RELEASE -/

section
variable (p : Port) (id : Nat) (s : State)

/-- Every port may send RELEASE, so a well-framed one reaches the claim table. -/
theorem exec_release_handed (h : Hands s p) :
    let i : Instr := .release p (Framing.ofLength 1) id
    exec i s = .next (takeRelease p id (handedOver p i s)) :=
  congrArg Host.Outcome.next (takeRequest_handed p .release _ (takeRelease p id) s h rfl)

theorem takeRelease_outside (hid : 16 ≤ id) : takeRelease p id s = withReply p .badValue [] s := by
  have above : Config.claimSlots ≤ id := hid
  rw [takeRelease, if_pos above, refuse_eq_withReply]

theorem takeRelease_free (hid : id < 16) (free : claimAt s.table.claims id = none) :
    takeRelease p id s = withReply p .notFound [] s := by
  have within : ¬ Config.claimSlots ≤ id := Nat.not_le.mpr hid
  simp only [takeRelease, if_neg within, free, refuse_eq_withReply]

/-- R25, R29: who may release a claim. -/
theorem Claim.releasedBy_iff (c : Claim) :
    c.releasedBy p = true ↔ c.owner = .port p ∨ (c.owner = .internal ∧ p ≠ .input) := by
  cases owner : c.owner <;> simp [Claim.releasedBy, owner]

variable {id} {c : Claim} (hid : id < 16) (held : claimAt s.table.claims id = some c)
include hid held

theorem takeRelease_foreign (other : ¬(c.owner = .port p ∨ (c.owner = .internal ∧ p ≠ .input))) :
    takeRelease p id s = withReply p .notOwner [] s := by
  have within : ¬ Config.claimSlots ≤ id := Nat.not_le.mpr hid
  have foreign : ¬ c.releasedBy p = true := by rwa [Claim.releasedBy_iff]
  simp only [takeRelease, if_neg within, held, if_neg foreign, refuse_eq_withReply]

theorem takeRelease_own (own : c.owner = .port p ∨ (c.owner = .internal ∧ p ≠ .input)) : takeRelease p id s =
    retable p [] { s.table with claims := s.table.claims.filter (fun d => d.id != id) } s := by
  have within : ¬ Config.claimSlots ≤ id := Nat.not_le.mpr hid
  simp only [takeRelease, if_neg within, held, if_pos ((Claim.releasedBy_iff p c).mpr own)]
  rfl

end

/-- Settles O14: the claim leaves the list, the others keep their order. -/
theorem releaseFrees : Obligations.ReleaseFrees := by
  intro s p id hands hid i u c held own
  have taken : exec i s = .next (takeRelease p id u) := exec_release_handed p id s hands
  rw [taken, takeRelease_own p u hid held own]
  exact ⟨_, rfl, retable_answers p _ _ u, retable_triggered p _ _ s i hands, retable_still p _ _ u⟩

/-- Settles O15: the judgements of AMEND and RELEASE in their order, each with those before it passed. -/
theorem claimTableRefuses : Obligations.ClaimTableRefuses := by
  intro s p id requested floor hands a r u v
  have amended : exec a s = .next (takeAmend p id requested floor u) := exec_amend_handed p id requested floor s hands
  have released : exec r s = .next (takeRelease p id v) := exec_release_handed p id s hands
  have same : v.table = u.table := (handedOver_table p r s).trans (handedOver_table p a s).symm
  rw [amended, released]
  refine ⟨fun above => ?_, fun within free => ?_, fun within c held => ⟨fun other => ?_, fun other internal => ?_,
    fun own bad => ?_, fun own positive essential past => ?_⟩⟩
  · rw [takeAmend_outside p id requested floor u above, takeRelease_outside p id v above]
    exact ⟨rfl, rfl⟩
  · rw [takeAmend_free p id requested floor u within free, takeRelease_free p id v within (same.symm ▸ free)]
    exact ⟨rfl, rfl⟩
  · rw [takeAmend_foreign p requested floor u within held other]
  · rw [takeRelease_foreign p v within (same.symm ▸ held)]
    rintro (own | ⟨isInternal, notInput⟩)
    · exact other own
    · exact notInput (internal isInternal)
  · rw [takeAmend_own p requested floor u within held own, judgeAmend_badValue p c u bad]
  · rw [takeAmend_own p requested floor u within held own, judgeAmend_judged p c u positive (by rw [essential]; nofun), if_pos]
    exact ⟨essential, past⟩

end Sys2Proof.Machine
end

section
/-! The port interface: how every request reaches its block (R180, R181), and the statements O1, O3, O4, O5, O8 and O10. -/

namespace Sys2Proof.Machine

/-- Settles O1: a step is the meaning of the command at the front. -/
theorem stepTakesFront : Obligations.StepTakesFront := fun _ _ _ => rfl

@[simp] theorem PerPort.set_set {α : Type} (x : PerPort α) (p : Port) (v w : α) : (x.set p v).set p w = x.set p w := by
  cases p <;> rfl

/-! ### One arm for every request (R181) -/

/-- What the block that owns a request makes of it; `was` is the power state as the frame was taken (R188). -/
def ownPart (was : PowerState) : Instr → State → State
  | .statusRead p _ => fun u => handReply p .ok (statusRecord was p u) u
  | .noticeRead p _ => readNotices p
  | .noticeMask p _ mask => writeMask p mask
  | .portReset p _ order => resetPort p order
  | .claim p _ cls requested floor => takeClaim p cls requested floor
  | .amend p _ id requested floor => takeAmend p id requested floor
  | .release p _ id => takeRelease p id
  | .claimRead p _ id => takeClaimRead p id
  | .ceilPush p _ ceiling => takeCeilPush p ceiling
  | .ceilPop p _ => takeCeilPop p
  | .hold p _ => takeHold p
  | .unhold p _ order => takeUnhold p order
  | .chStart p _ cell slot => takeChStart p cell slot
  | .chStop p _ cell => takeChStop p cell
  | .stepWrite p _ slot r => takeStepWrite p slot r
  | .stepRead p _ slot => takeStepRead p slot
  | .balQueue p _ direction mode count rate tolerance => takeBalQueue p direction mode count rate tolerance
  | .balCancel p _ tag => takeBalCancel p tag
  | .contractSet p _ voltage current => takeContractSet p voltage current
  | .inputRelease p _ => takeInputRelease p
  | .inputResume p _ => takeInputResume p
  | .faultClear p _ target => takeFaultClear p target
  | .shipEnter p _ => takeShipEnter p
  | .deviceReset _ _ => resetDevice
  | _ => id

theorem exec_request {i : Instr} {p : Port} {r : Request} {fr : Framing} (spells : requestOf i = some (p, r, fr)) (s : State) :
    exec i s = .next (takeRequest p r fr i (ownPart s.power.state i) s) := by
  cases i <;> cases spells <;> rfl

/-- A well-framed request from a port that the table admits reaches its block. -/
theorem exec_handed {i : Instr} {p : Port} {r : Request} (spells : requestOf i = some (p, r, Framing.ofLength r.length))
    (s : State) (h : Hands s p) (allowed : r.ports.allows p = true) :
    exec i s = .next (ownPart s.power.state i (handedOver p i s)) := by
  rw [exec_request spells, takeRequest_handed p r i _ s h allowed]

theorem exec_unknown {bytes : List Byte} (given : bytes ≠ []) (p : Port) (s : State) :
    exec (.unknownRequestFrame p bytes) s = .next (takeFrame p (.unknownRequestFrame p bytes) (some .unknown) id s) := by
  cases bytes with
  | nil => contradiction
  | cons _ _ => rfl

/-- R180: whatever a frame of at least one byte asks, the port takes it as a frame. -/
theorem exec_frame {i : Instr} {p : Port} (frame : IsFrame i p) (given : 0 < (writtenBytes i).length) (s : State) :
    ∃ check own, exec i s = .next (takeFrame p i check own s) := by
  obtain ⟨r, fr, spells⟩ | ⟨bytes, rfl⟩ := frame
  · exact ⟨_, _, exec_request spells s⟩
  · exact ⟨_, _, exec_unknown (List.ne_nil_of_length_pos given) p s⟩

theorem exec_frameTurnedAway (p : Port) {count : Nat} (given : 0 < count) {s : State}
    (away : s.operating = false ∨ (s.port p).busy = true) :
    exec (.frameTurnedAway { port := p, count := count }) s = .next (turnAway p count s) := by
  refine congrArg Host.Outcome.next (if_pos ?_)
  rcases away with off | busy <;> simp [*]

/-- Settles O3: the frame is turned away by `takeFrame_busy`, or answered in LOADING by `takeFrame_loading`. -/
theorem framesTurnedAway : Obligations.FramesTurnedAway := by
  intro s p i count frame n heard
  refine ⟨rfl, by simp [exec, execFrameTurnedAway], fun given counted => ?_⟩
  obtain ⟨check, own, taken⟩ := exec_frame frame given s
  refine ⟨fun on busy => ⟨?_, ?_⟩, fun off => ⟨?_, ?_⟩, fun on free loading => ?_⟩
  · rw [taken, takeFrame_busy p i check own s (.inr busy), turnAway, acknowledges_busy s p n on busy]
    rfl
  · rw [exec_frameTurnedAway p counted (.inr busy), turnAway, acknowledges_busy s p count on busy]
    rfl
  · rw [taken, takeFrame_busy p i check own s (.inl off), turnAway, acknowledges_off s p n off]
    rfl
  · rw [exec_frameTurnedAway p counted (.inl off), turnAway, acknowledges_off s p count off]
    rfl
  · rw [taken, takeFrame_loading p i check own s ⟨on, free⟩ loading, fillSlot, acknowledges_free s p n ⟨on, free⟩]
    simp only [refuse, handReply, State.setPort, State.port, PerPort.get_set_self, PerPort.set_set]
    rfl

/-! ### The state in which the owning block takes a frame (R34, R36, R181, R203) -/

theorem leaveMonitor_still (s : State) : (leaveMonitor s).still = leaveMonitor s.still := by
  unfold leaveMonitor
  exact (apply_ite State.still _ _ _).trans rfl

/-- Leaving MONITOR, as an update of the power state and the next arrival. -/
theorem leaveMonitor_eq (s : State) : leaveMonitor s = { s with
    power := { s.power with state := if s.power.state = .monitor then .active else s.power.state }
    seq := { s.seq with nextArrival :=
      if s.power.state = .monitor then max s.now (s.seq.lastArrival + 100) else s.seq.nextArrival } } := by
  unfold leaveMonitor
  split
  · rfl
  · rfl

/-- A pass is raised between two states exactly as between two others that agree on the allocator, the stale marks and what a
snapshot reads. -/
theorem Triggered.congr {u v t w : State} (h : Triggered u t) (pass : v.alloc.pass = u.alloc.pass)
    (staleA : v.chA.stale = u.chA.stale) (staleB : v.chB.stale = u.chB.stale) (alloc : w.alloc = t.alloc)
    (chA : w.chA = t.chA) (chB : w.chB = t.chB) (snapshot : w.snapshot = t.snapshot) : Triggered v w := by
  unfold Triggered PassRaised at *
  rw [pass, staleA, staleB, alloc, chA, chB, snapshot]
  exact h

/-- R180, R181: what taking a frame does, but for the pass that a woken port triggers. -/
theorem handedOver_still (p : Port) (i : Instr) (s : State) (h : Hands s p) : (handedOver p i s).still = { s.still with
    power := { s.power with state := if s.power.state = .monitor then .active else s.power.state }
    seq := { s.seq with nextArrival :=
      if s.power.state = .monitor then max s.now (s.seq.lastArrival + 100) else s.seq.nextArrival }
    table := if (s.port p).dormant = true then s.table.wake p else s.table
    ports := s.still.ports.set p { s.port p with
      slot := some ((writtenBytes i).take 32), busy := true
      acks := true :: (List.range (writtenBytes i).length).map (fun k => decide (k < 32))
      handed := none, dormant := false
      dormancy := if s.settings.dormancy = 0 then none else some (s.now + s.settings.dormancy * 1000) } } := by
  have filled : (fillSlot p (writtenBytes i) s).port p = { s.port p with
      slot := some ((writtenBytes i).take 32), busy := true
      acks := true :: (List.range (writtenBytes i).length).map (fun k => decide (k < 32)) } := by
    rw [fillSlot, acknowledges_free s p _ h.1, setPort_port]
    rfl
  rw [handedOver, leaveMonitor_still, leaveMonitor_eq]
  have woken : (wakePort p (fillSlot p (writtenBytes i) s)).still = { s.still with
      table := if (s.port p).dormant = true then s.table.wake p else s.table
      ports := s.still.ports.set p { s.port p with
        slot := some ((writtenBytes i).take 32), busy := true
        acks := true :: (List.range (writtenBytes i).length).map (fun k => decide (k < 32))
        handed := none, dormant := false
        dormancy := if s.settings.dormancy = 0 then none else some (s.now + s.settings.dormancy * 1000) } } := by
    simp only [wakePort, filled]
    split
    · rw [trigger_still]
      cases p <;> rfl
    · cases p <;> rfl
  rw [woken]
  rfl

/-- Leaving MONITOR does not change what a pass reads. -/
theorem leaveMonitor_triggered {u t : State} (h : Triggered u t) : Triggered u (leaveMonitor t) := by
  unfold leaveMonitor
  split
  · exact h.congr rfl rfl rfl rfl rfl rfl rfl
  · exact h

/-- R36: taking a frame triggers a pass where the port was dormant, and otherwise leaves the passes alone. -/
theorem handedOver_pass (p : Port) (i : Instr) (s : State) (h : Hands s p) :
    let u := handedOver p i s
    if (s.port p).dormant = true then Triggered s u else u.alloc = s.alloc ∧ u.chA = s.chA ∧ u.chB = s.chB := by
  intro u
  have filled : ((fillSlot p (writtenBytes i) s).port p).dormant = (s.port p).dormant := by
    rw [fillSlot, setPort_port]
  have woken (w : State) (power : w.power = s.power) (alloc : w.alloc = s.alloc) (chA : w.chA = s.chA) (chB : w.chB = s.chB) :
      Triggered s (leaveMonitor (trigger w)) := by
    have taken : Triggered w (trigger w) :=
      trigger_triggered w (power ▸ h.2) ((congrArg (fun x : PowerCtl => x.supplied && x.state != .ship) power).trans h.1.1)
    exact leaveMonitor_triggered (taken.congr (by rw [alloc]) (by rw [chA]) (by rw [chB]) rfl rfl rfl rfl)
  have left : u = leaveMonitor (wakePort p (fillSlot p (writtenBytes i) s)) := rfl
  rw [left, wakePort]
  simp only [filled]
  split
  · exact woken _ rfl rfl rfl rfl
  · rw [leaveMonitor_eq]
    exact ⟨rfl, rfl, rfl⟩

/-- R36: what waking does to the claims of a port. -/
theorem Claim.wake_eq (p : Port) : Claim.wake p
    = fun c => if c.owner = .port p ∧ c.standing = .suspended then { c with standing := .deferred } else c := by
  funext c
  simp only [Claim.wake, Bool.and_eq_true, beq_iff_eq, Claim.ownedBy_iff]

/-- Settles O4: the frame is taken as any frame is, and refused. -/
theorem unknownCodeWakes : Obligations.UnknownCodeWakes := by
  intro s p code rest hands
  let i : Instr := .unknownRequestFrame p (code :: rest)
  have taken : exec i s = .next (refuse p .unknown (handedOver p i s)) := by
    rw [exec_unknown (List.cons_ne_nil code rest), takeFrame_refused p i .unknown id s hands]
  refine ⟨_, taken, handReply_handed _ p _ _, ?_, ?_⟩
  · rw [refuse, handReply_still, handedOver_still p i s hands]
    rw [ClaimTable.wake, Claim.wake_eq]
    rfl
  · have passes := handedOver_pass p i s hands
    by_cases dormant : (s.port p).dormant = true
    · rw [if_pos dormant]
      exact handReply_triggered p _ _ ((if_pos dormant).mp passes)
    · rw [if_neg dormant]
      exact (if_neg dormant).mp passes

/-- Settles O5: a framing that does not fit, and then a port that the table shuts out, is refused with the frame taken. -/
theorem misframedAnswered : Obligations.MisframedAnswered := by
  intro s p i r fr hands spells
  have taken := exec_request spells s
  have refused {code : ReplyCode} (judged : judgeFrame p r fr = some code) :
      exec i s = .next (withReply p code [] (handedOver p i s)) := by
    rw [taken, takeRequest, judged, takeFrame_refused p i code _ s hands, refuse_eq_withReply]
  refine ⟨fun misfit => refused ?_, fun lengthByte carried shut => refused ?_⟩
  · have unfit : Framing.fits fr r = false := by
      rw [Framing.fits, Bool.and_eq_false_iff, beq_eq_false_iff_ne, beq_eq_false_iff_ne]
      exact not_and_or.mp misfit
    simp [judgeFrame, unfit]
  · have fits : Framing.fits fr r = true := by simp [Framing.fits, lengthByte, carried]
    have barred : r.ports.allows p = false := by
      rcases shut with ⟨rfl, other⟩ | ⟨rfl, other⟩ | ⟨rfl, other⟩ | ⟨rfl, listed⟩
      · exact beq_false_of_ne other
      · exact beq_false_of_ne other
      · exact beq_false_of_ne other
      · have every : ∀ r ∈ ([.chStart, .chStop, .stepWrite, .stepRead, .balQueue, .balCancel, .inputRelease, .inputResume,
            .faultClear] : List Request), r.ports.allows .input = false := by decide
        exact every r listed
    simp [judgeFrame, fits, barred]

/-! ### Notices and replies (R182 to R187) -/

theorem Notice.bit_lt (k : Notice) : k.bit < 13 := by cases k <;> decide

/-- Settles O8: the two requests by `exec_handed`; the line by the bits that the set holds and the mask leaves open. -/
theorem noticesReadAndMasked : Obligations.NoticesReadAndMasked := by
  intro s p field u v
  refine ⟨fun hands => ?_, fun hands => ?_, fun k => ?_, fun supplied => ?_, fun unsupplied => ?_⟩
  · rw [exec_handed (r := .noticeRead) rfl s hands rfl]
    exact congrArg Host.Outcome.next (handReply_eq_withReply p _ _ _)
  · rw [exec_handed (r := .noticeMask) rfl s hands rfl]
    have mask : (maskOf field).toNat = field % 8192 := BitVec.toNat_ofNat field 13
    refine congrArg Host.Outcome.next ((handReply_eq_withReply p _ _ _).trans ?_)
    rw [noticeBytes, mask]
    rfl
  · rw [holdsNotice, BitVec.getLsbD_ofNat, decide_eq_true k.bit_lt, Bool.true_and]
  · have asserted : s.attention p = true ↔ (s.port p).notices &&& ~~~(s.port p).mask ≠ 0 := by
      simp [State.attention, PortState.attention, supplied]
    rw [asserted]
    constructor
    · intro standing
      obtain ⟨n, held⟩ : ∃ n, ((s.port p).notices &&& ~~~(s.port p).mask).getLsbD n = true := by
        by_contra none
        exact standing (BitVec.eq_of_getLsbD_eq fun n _ => by simpa using not_exists.mp none n)
      have below : n < 13 := BitVec.lt_of_getLsbD held
      have every : ∀ n < 13, ∃ k ∈ [Notice.grant, .deficit, .shortfall, .holdEffective, .holdExpired, .balDone, .chStep, .chEnd,
          .contract, .droop, .inputReleased, .fault, .ready], k.bit = n := by decide
      obtain ⟨k, -, rfl⟩ := every n below
      simp at held
      exact ⟨k, held.1, held.2.2⟩
    · rintro ⟨k, held, unmasked⟩ zero
      have bit := congrArg (fun x : NoticeBits => x.getLsbD k.bit) zero
      simp [Noticed, holdsNotice] at held unmasked bit
      exact absurd (bit held k.bit_lt) (by simp [unmasked])
  · simp [State.attention, unsupplied]

theorem placeReply_eq {p : Port} {s : State} {r : Reply} (handed : (s.port p).handed = some r) : placeReply p s = { s with
    ports := s.ports.set p { s.port p with slot := none, busy := false, handed := none, reply := r }
    hold := { s.hold with holders := s.hold.holders.set p { s.holder p with
      unanswered := false, due := (s.holder p).due + (s.holder p).unanswered.toNat } } } := by
  have answered : (s.holder p).answered = { s.holder p with
      unanswered := false, due := (s.holder p).due + (s.holder p).unanswered.toNat } := by
    rw [Holder.answered]
    cases (s.holder p).unanswered <;> rfl
  simp only [placeReply, handed]
  rw [← answered]
  rfl

/-- Settles O10: the reply takes its place, and the read transactions are `readFrame` evaluated. -/
theorem replyPlaced : Obligations.ReplyPlaced := by
  intro s p address n value
  refine ⟨fun on r handed => ?_, fun on busy => ?_, fun away => ?_⟩
  · have same : r.code.byte = value r.code := by cases r.code <;> rfl
    have frame : r.frame = value r.code :: BitVec.ofNat 8 r.payload.length :: r.payload := by
      rw [Reply.frame, same]
      rfl
    intro t
    have read : t.readFrame p 0x4B = some r.frame := by
      have heard : t.addressed 0x4B = true := by simp [State.addressed, Config.targetAddress, show t.operating = true from on]
      have free : t.port p = { s.port p with slot := none, busy := false, handed := none, reply := r } := PerPort.get_set_self _ _ _
      simp [State.readFrame, heard, free]
    refine ⟨?_, read.trans (congrArg some frame), fun past => ?_⟩
    · exact congrArg Host.Outcome.next ((if_pos on).trans (placeReply_eq handed))
    · rw [State.readByte, read, frame]
      exact congrArg some (List.getD_eq_default _ _ (by simp only [List.length_cons]; omega))
  · simp [State.readFrame, State.addressed, Config.targetAddress, on, busy, Reply.frame, ReplyCode.byte, bytesOf]
  · have deaf : s.addressed address = false := by
      rw [State.addressed, Bool.and_eq_false_iff, beq_eq_false_iff_ne]
      exact away
    simp [State.readFrame, deaf]

end Sys2Proof.Machine
end

section
/-! STEP_WRITE (R111): the judgement of a raw record, field by field, and O41. -/

namespace Sys2Proof.Machine

/-! ### The judgement of one field -/

section
variable (k : StepKind) (n : Nat)

theorem judgeCurrent_eq : judgeCurrent k n = if (k ≠ .rest ∧ k ≠ .endStep → 10 ≤ n) then
    some (if k ≠ .rest ∧ k ≠ .endStep then min (n / 10 * 10) 4000 else 0) else none := by
  rw [judgeCurrent]
  have carries : k.carriesCurrent = true ↔ k ≠ .rest ∧ k ≠ .endStep := k.carriesCurrent_iff.trans not_or
  by_cases charging : k ≠ .rest ∧ k ≠ .endStep
  · rw [if_pos (carries.mpr charging), if_pos charging]
    by_cases enough : 10 ≤ n
    · rw [if_neg (by unfold floorTen; omega), if_pos (fun _ => enough)]
      rfl
    · rw [if_pos (by unfold floorTen; omega), if_neg (fun h => enough (h charging))]
  · rw [if_neg (mt carries.mp charging), if_neg charging, if_pos (fun h => absurd h charging)]

theorem judgeVolt_eq : judgeVolt k n = if (k ≠ .endStep → 3000 ≤ n) then
    some (if k = .endStep then 0 else min n 4450) else none := by
  rw [judgeVolt]
  by_cases ended : k = .endStep
  · simp [ended]
  · by_cases enough : 3000 ≤ n
    · simp [ended, enough]
    · simp [ended, enough, Nat.not_le.mp enough]

theorem judgeEndCurrent_eq : judgeEndCurrent k n = if (k = .voltage → 20 ≤ n ∧ n ≤ 1000) then
    some (if k = .voltage then n else 0) else none := by
  rw [judgeEndCurrent]
  by_cases tapers : k = .voltage
  · by_cases within : 20 ≤ n ∧ n ≤ 1000
    · simp [tapers, within]
    · have outside : n < 20 ∨ 1000 < n := by omega
      simp [tapers, within, outside]
  · simp [tapers]

theorem judgeDuration_eq : judgeDuration k n = if (k = .topoff ∨ k = .rest → 0 < n) then
    some (if k = .topoff ∨ k = .rest then min n 1440 else 0) else none := by
  rw [judgeDuration]
  by_cases timed : k = .topoff ∨ k = .rest
  · rw [if_pos (k.carriesDuration_iff.mpr timed), if_pos timed]
    rcases n.eq_zero_or_pos with zero | some
    · rw [if_pos zero, if_neg (fun h => absurd (h timed) (by omega))]
    · rw [if_neg (by omega), if_pos (fun _ => some)]
  · rw [if_neg (mt k.carriesDuration_iff.mp timed), if_neg timed, if_pos (fun h => absurd h timed)]

theorem judgeTimeout_eq : judgeTimeout k n = if k = .precharge ∨ k = .current ∨ k = .voltage then min n 1440 else 0 := by
  rw [judgeTimeout]
  exact if_congr k.carriesTimeout_iff rfl rfl

theorem judgeNext_eq : judgeNext k n = if (k ≠ .endStep → n < 48) then some (if k = .endStep then 0 else n) else none := by
  rw [judgeNext]
  by_cases ended : k = .endStep
  · simp [ended]
  · by_cases within : n < 48
    · have inside : ¬ Config.profileSlots ≤ n := Nat.not_le.mpr within
      simp [ended, within, inside]
    · have outside : Config.profileSlots ≤ n := Nat.not_lt.mp within
      simp [ended, within, outside]

theorem judgeWindow_eq (cold hot : Int) : judgeWindow k cold hot = if (k ≠ .endStep → -20 ≤ cold ∧ cold < hot ∧ hot ≤ 60) then
    some (if k = .endStep then (0, 0) else (cold, hot)) else none := by
  rw [judgeWindow]
  by_cases ended : k = .endStep
  · simp [ended]
  · by_cases window : -20 ≤ cold ∧ cold < hot ∧ hot ≤ 60
    · rw [if_neg ended, if_neg ended, if_neg, if_pos (fun _ => window)]
      simp only [Bool.or_eq_true, decide_eq_true_eq]
      omega
    · rw [if_neg ended, if_pos, if_neg (fun h => window (h ended))]
      simp only [Bool.or_eq_true, decide_eq_true_eq]
      omega

end

/-! ### The whole record -/

/-- R111 step 3: every field that the kind carries lies within the bounds that STEP_WRITE accepts. -/
def PassesAs (k : StepKind) (r : RawStep) : Prop :=
  (k ≠ .rest ∧ k ≠ .endStep → 10 ≤ r.current) ∧ (k ≠ .endStep → 3000 ≤ r.volt)
    ∧ (k = .voltage → 20 ≤ r.endCurrent ∧ r.endCurrent ≤ 1000) ∧ (k = .topoff ∨ k = .rest → 0 < r.duration)
    ∧ (k ≠ .endStep → -20 ≤ r.cold ∧ r.cold < r.hot ∧ r.hot ≤ 60 ∧ r.next < 48)

/-- R111 step 4: the record as recorded. -/
def recordAs (k : StepKind) (r : RawStep) : StepRecord :=
  { kind := k, current := if k ≠ .rest ∧ k ≠ .endStep then min (r.current / 10 * 10) 4000 else 0
    volt := if k = .endStep then 0 else min r.volt 4450
    endCurrent := if k = .voltage then r.endCurrent else 0
    duration := if k = .topoff ∨ k = .rest then min r.duration 1440 else 0
    timeout := if k = .precharge ∨ k = .current ∨ k = .voltage then min r.timeout 1440 else 0
    cold := if k = .endStep then 0 else r.cold, hot := if k = .endStep then 0 else r.hot
    next := if k = .endStep then 0 else r.next }

section
variable {r : RawStep} {k : StepKind} (named : stepKindOf r.kind = some k)
include named

theorem judgeStep_passes (passes : PassesAs k r) : judgeStep r = some (recordAs k r) := by
  obtain ⟨current, volt, endCurrent, duration, rest⟩ := passes
  have window : k ≠ .endStep → -20 ≤ r.cold ∧ r.cold < r.hot ∧ r.hot ≤ 60 := fun h => by
    obtain ⟨least, order, most, -⟩ := rest h
    exact ⟨least, order, most⟩
  have next : k ≠ .endStep → r.next < 48 := fun h => (rest h).2.2.2
  simp only [judgeStep, named, judgeTimeout_eq, (judgeCurrent_eq k _).trans (if_pos current), (judgeVolt_eq k _).trans (if_pos volt),
    (judgeEndCurrent_eq k _).trans (if_pos endCurrent), (judgeDuration_eq k _).trans (if_pos duration),
    (judgeWindow_eq k _ _).trans (if_pos window), (judgeNext_eq k _).trans (if_pos next), Option.bind_eq_bind, Option.bind_some]
  by_cases ended : k = .endStep
  · simp only [recordAs, if_pos ended]
  · simp only [recordAs, if_neg ended]

theorem judgeStep_fails (fails : ¬ PassesAs k r) : judgeStep r = none := by
  by_contra judged
  obtain ⟨x, recorded⟩ := Option.ne_none_iff_exists'.mp judged
  refine fails ?_
  simp only [judgeStep, named, judgeCurrent_eq, judgeVolt_eq, judgeEndCurrent_eq, judgeDuration_eq, judgeWindow_eq, judgeNext_eq,
    Option.bind_eq_bind, Option.bind_eq_some_iff, Option.ite_none_right_eq_some, Option.some.injEq] at recorded
  obtain ⟨_, rfl, _, ⟨current, -⟩, _, ⟨volt, -⟩, _, ⟨endCurrent, -⟩, _, ⟨duration, -⟩, _, ⟨window, -⟩, _, ⟨next, -⟩, -⟩ := recorded
  refine ⟨current, volt, endCurrent, duration, fun h => ?_⟩
  obtain ⟨least, order, most⟩ := window h
  exact ⟨least, order, most, next h⟩

end

/-! ### The request -/

section
variable (p : Port) (slot : Nat) (r : RawStep) (s : State)

theorem takeStepWrite_outside (outside : 48 ≤ slot) : takeStepWrite p slot r s = withReply p .badValue [] s := by
  rw [takeStepWrite, if_pos (show Config.profileSlots ≤ slot from outside), refuse_eq_withReply]

theorem Channel.uses_iff (n : Nat) (ch : Channel) : ch.uses n = true ↔ ch.state = .active ∧ ch.slot = some n := by
  rw [Channel.uses, Bool.and_eq_true, beq_iff_eq, beq_iff_eq]

variable {slot} (inside : slot < 48)
include inside

theorem takeStepWrite_inUse (used : s.chA.uses slot = true ∨ s.chB.uses slot = true) :
    takeStepWrite p slot r s = withReply p .inUse [] s := by
  rw [takeStepWrite, if_neg (show ¬ Config.profileSlots ≤ slot from Nat.not_le.mpr inside), if_pos (Bool.or_eq_true _ _ ▸ used),
    refuse_eq_withReply]

variable (free : ¬(s.chA.uses slot = true ∨ s.chB.uses slot = true))
include free

theorem takeStepWrite_badValue (judged : judgeStep r = none) : takeStepWrite p slot r s = withReply p .badValue [] s := by
  rw [takeStepWrite, if_neg (show ¬ Config.profileSlots ≤ slot from Nat.not_le.mpr inside), if_neg (Bool.or_eq_true _ _ ▸ free), judged,
    refuse_eq_withReply]

theorem takeStepWrite_recorded {x : StepRecord} (judged : judgeStep r = some x) :
    takeStepWrite p slot r s = withReply p .ok (stepRecordBytes x) { s with profile := s.profile.set slot x } := by
  rw [takeStepWrite, if_neg (show ¬ Config.profileSlots ≤ slot from Nat.not_le.mpr inside), if_neg (Bool.or_eq_true _ _ ▸ free), judged]
  exact handReply_eq_withReply p _ _ _

end

/-- Settles O41: the checks in their order, and the record by its fields. -/
theorem stepWriteRecords : Obligations.StepWriteRecords := by
  intro s p slot r hands port i u inUse
  have allowed : Request.stepWrite.ports.allows p = true := bne_iff_ne.mpr port
  have taken : exec i s = .next (takeStepWrite p slot r u) := exec_handed (r := .stepWrite) rfl s hands allowed
  have used : inUse ↔ u.chA.uses slot = true ∨ u.chB.uses slot = true := by
    rw [Channel.uses_iff, Channel.uses_iff]
  rw [taken]
  refine ⟨fun outside => ?_, fun inside busy => ?_, fun inside free unlisted => ?_, fun inside free k _ code => ?_⟩
  · rw [takeStepWrite_outside p slot r u outside]
  · rw [takeStepWrite_inUse p r u inside (used.mp busy)]
  · have unnamed : stepKindOf r.kind = none := by
      match r.kind, unlisted with
      | n + 6, _ => rfl
    have judged : judgeStep r = none := by rw [judgeStep, unnamed]; rfl
    rw [takeStepWrite_badValue p r u inside (mt used.mpr free) judged]
  · have named : stepKindOf r.kind = some k := by
      rw [← code]
      cases k <;> rfl
    by_cases passes : PassesAs k r
    · refine (if_pos passes).mpr ?_
      rw [takeStepWrite_recorded p r u inside (mt used.mpr free) (judgeStep_passes named passes)]
      rfl
    · refine (if_neg passes).mpr ?_
      rw [takeStepWrite_badValue p r u inside (mt used.mpr free) (judgeStep_fails named passes)]

end Sys2Proof.Machine
end

section
/-! The input controller (chapter 03): what its stage takes and whom it tells, and O20, O21 and O22. -/

namespace Sys2Proof.Machine

/-! ### The input stage takes a limit (R4, R41) -/

section
variable (s : State)

/-- R4: taking a limit changes the input stage, and with it the count of free values read, and nothing else. -/
theorem takeInput_eq (limit : Nat) : takeInput limit s =
    { s with inputStage := (takeInput limit s).inputStage, freeUses := (takeInput limit s).freeUses } := by
  unfold takeInput
  split <;> rfl

theorem takeInput_target (limit : Nat) : (takeInput limit s).inputStage.target = limit := by
  unfold takeInput
  split
  next same => exact same.symm
  next moved =>
    show ((s.inputStage.take s.inputOutput limit).1).target = limit
    unfold Stage.take
    rw [if_neg moved]
    split <;> rfl

/-- R1: a stage that stands at the limit takes nothing. -/
theorem takeInput_same {limit : Nat} (same : s.inputStage.target = limit) : takeInput limit s = s := by
  rw [takeInput, if_pos same.symm]

theorem handLimit_eq : handLimit s = { s with inputStage := (handLimit s).inputStage, freeUses := (handLimit s).freeUses } := by
  unfold handLimit
  split
  · rfl
  · exact takeInput_eq s _

theorem handLimit_running (running : s.power.phase = .running) : handLimit s = takeInput s.input.limit s := by
  rw [handLimit, if_neg (by rw [running]; nofun)]

/-- R41: the limit is the droop limit where the input is DEFAULT or CONTRACTED. -/
theorem InputCtl.limit_eq (x : InputCtl) :
    x.limit = if x.state = .dflt ∨ x.state = .contracted then x.droopLimit else 0 := by
  rw [InputCtl.limit]
  cases x.state <;> rfl

/-! ### Notices (R45, R48) -/

/-- Noting a kind does not meet the handed replies. -/
theorem noting_still (bit : Nat) (ps : List Port) : { s with ports := noting bit ps s.ports }.still
    = { s.still with ports := noting bit ps s.still.ports } := by
  have each (p : Port) (q : PortState) :
      { (if p ∈ ps then { q with notices := q.notices ||| BitVec.ofNat 13 (2 ^ bit) } else q) with handed := none }
        = if p ∈ ps then { q with notices := q.notices ||| BitVec.ofNat 13 (2 ^ bit), handed := none }
          else { q with handed := none } := by
    split <;> rfl
  simp only [State.still, noting, each]

/-- R48: a completed release tells the input port and the one that asked. -/
theorem released_eq : released s = { s with
    ports := noting 10 (.input :: s.input.requester.toList) s.ports, input := { s.input with state := .released } } := by
  have twice (b : NoticeBits) : b ||| Notice.inputReleased.only ||| Notice.inputReleased.only = b ||| Notice.inputReleased.only := by
    rw [BitVec.or_assoc, BitVec.or_self]
  unfold released
  rcases requester : s.input.requester with _ | (_ | _ | _)
  · simp only [raiseNotice, setPort_input, requester]
    rfl
  · simp only [raiseNotice, setPort_input, requester]
    rfl
  · simp only [raiseNotice, setPort_input, requester]
    rfl
  · simp only [raiseNotice, setPort_input, requester, setPort_port, twice]
    rfl

theorem released_still : (released s).still = { s.still with
    input := { s.input with state := .released }, ports := noting 10 (.input :: s.input.requester.toList) s.still.ports } := by
  rw [released_eq]
  exact noting_still { s with input := { s.input with state := .released } } 10 (.input :: s.input.requester.toList)

end

/-! ### A controller that changes, hands its limit and triggers a pass -/

section
variable {u w t : State}

/-- What a state shows that stands, but for a pass and a reply, where the stage has taken the limit. -/
theorem still_of_handLimit (same : t.still = (handLimit w).still) :
    t.still = { w.still with inputStage := t.inputStage, freeUses := t.freeUses } := by
  have stage : t.inputStage = (handLimit w).inputStage := (congrArg State.inputStage same :)
  have uses : t.freeUses = (handLimit w).freeUses := (congrArg State.freeUses same :)
  rw [same, stage, uses, handLimit_eq w]
  rfl

theorem target_of_handLimit (same : t.still = (handLimit w).still) (running : w.power.phase = .running) :
    t.inputStage.target = w.input.limit := by
  have stage : t.inputStage = (handLimit w).inputStage := (congrArg State.inputStage same :)
  rw [stage, handLimit_running w running, takeInput_target]

/-- A pass is triggered of a part past LOADING and at work, whatever else the controller changed since u. -/
theorem trigger_triggered_since (running : u.power.phase = .running) (on : u.operating = true) (power : w.power = u.power)
    (alloc : w.alloc = u.alloc) (chA : w.chA = u.chA) (chB : w.chB = u.chB) : Triggered u (trigger w) := by
  have taken : Triggered w (trigger w) := trigger_triggered w (power ▸ running)
    ((congrArg (fun x : PowerCtl => x.supplied && x.state != .ship) power).trans on)
  exact taken.congr (by rw [alloc]) (by rw [chA]) (by rw [chB]) rfl rfl rfl rfl

theorem handLimit_triggered (running : u.power.phase = .running) (on : u.operating = true) (power : w.power = u.power)
    (alloc : w.alloc = u.alloc) (chA : w.chA = u.chA) (chB : w.chB = u.chB) : Triggered u (trigger (handLimit w)) := by
  rw [handLimit_eq w]
  exact trigger_triggered_since running on power alloc chA chB

end

theorem handedOver_running (p : Port) (i : Instr) (s : State) (h : Hands s p) : (handedOver p i s).power.phase = .running :=
  (handedOver_phase p i s).trans h.2

/-- Taking a frame leaves the input controller alone. -/
theorem handedOver_input (p : Port) (i : Instr) (s : State) : (handedOver p i s).input = s.input := by
  rw [handedOver, Keeps.input (leaveMonitor_outer _), wakePort]
  split
  · exact (Keeps.input (trigger_outer _)).trans rfl
  · rfl

/-! ### CONTRACT_SET (R44 to R46) -/

section
variable (p : Port) (c : Contract) (s : State)

theorem takeContractSet_outside {voltage current : Nat} (outside : voltage < 5000 ∨ 20000 < voltage) :
    takeContractSet p voltage current s = withReply p .badValue [] s := by
  rw [takeContractSet, if_pos, refuse_eq_withReply]
  rw [Bool.or_eq_true, decide_eq_true_iff, decide_eq_true_iff]
  exact outside

theorem takeContractSet_within {voltage current : Nat} (least : 5000 ≤ voltage) (most : voltage ≤ 20000) :
    takeContractSet p voltage current s = acceptContract p { voltage := voltage, current := min current 5000 } s := by
  rw [takeContractSet, if_neg]
  · rfl
  · rw [Bool.or_eq_true, decide_eq_true_iff, decide_eq_true_iff]
    exact not_or.mpr ⟨Nat.not_lt.mpr least, Nat.not_lt.mpr most⟩

theorem acceptContract_detached (detached : s.input.state = .detached) : acceptContract p c s = withReply p .refused [] s := by
  rw [acceptContract, detached]
  exact refuse_eq_withReply p .refused s

/-- R46: outside DEFAULT and CONTRACTED the contract waits. -/
theorem acceptContract_stored (away : s.input.state = .releasing ∨ s.input.state = .released) : acceptContract p c s
    = withReply p .ok (contractReply c true) { s with input := { s.input with pendingContract := some c } } := by
  unfold acceptContract
  rcases away with state | state <;> rw [state] <;> exact handReply_eq_withReply p _ _ _

/-- R45: in DEFAULT and CONTRACTED it takes force. -/
theorem acceptContract_inForce (drawing : s.input.state = .dflt ∨ s.input.state = .contracted) : acceptContract p c s
    = handReply p .ok (contractReply c false)
        (trigger (handLimit (raiseMainHub .contract (s.setInput (s.input.inForceNow c))))) := by
  unfold acceptContract
  rcases drawing with state | state <;> rw [state]

/-- R45: what a contract that takes force changes. -/
theorem acceptContract_takesForce (running : s.power.phase = .running) (on : s.operating = true)
    (drawing : s.input.state = .dflt ∨ s.input.state = .contracted) :
    let t := acceptContract p c s
    Answers t p .ok (contractReply c false) ∧ Triggered s t ∧ t.inputStage.target = c.current
      ∧ t.still = { s.still with
          input := { s.input with state := .contracted, held := some c, droopLimit := c.current, recovery := none }
          inputStage := t.inputStage, freeUses := t.freeUses, ports := noting 8 [.main, .hub] s.still.ports } := by
  intro t
  let w := raiseMainHub .contract (s.setInput (s.input.inForceNow c))
  have done : t = handReply p .ok (contractReply c false) (trigger (handLimit w)) := acceptContract_inForce p c s drawing
  have still : t.still = (handLimit w).still := by rw [done, handReply_still, trigger_still]
  refine ⟨?_, ?_, target_of_handLimit still running, still_of_handLimit still⟩
  · rw [done]
    exact handReply_handed _ _ _ _
  · rw [done]
    exact handReply_triggered p _ _ (handLimit_triggered running on rfl rfl rfl rfl)

end

/-- Settles O20: the voltage, then the input state, decides. -/
theorem contractTaken : Obligations.ContractTaken := by
  intro s voltage current hands i u c reply
  have taken : exec i s = .next (takeContractSet .input voltage current u) := exec_handed (r := .contractSet) rfl s hands rfl
  rw [taken]
  refine ⟨fun outside => ?_, fun least most => ?_⟩
  · rw [takeContractSet_outside .input u outside]
  · rw [takeContractSet_within .input u least most]
    refine ⟨fun detached => ?_, fun away => ?_, fun drawing => ?_⟩
    · rw [acceptContract_detached .input _ u detached]
    · rw [acceptContract_stored .input _ u away]
      rfl
    · exact ⟨_, rfl, acceptContract_takesForce .input c u (handedOver_running .input i s hands)
        (handedOver_operating .input i s hands.1.1) drawing⟩

/-! ### INPUT_RELEASE and INPUT_RESUME (R47 to R49) -/

section
variable (p : Port) (s : State)

theorem takeInputRelease_detached (detached : s.input.state = .detached) :
    takeInputRelease p s = withReply p .refused [] s := by
  rw [takeInputRelease, detached]
  exact refuse_eq_withReply p .refused s

theorem takeInputRelease_away (away : s.input.state = .releasing ∨ s.input.state = .released) :
    takeInputRelease p s = withReply p .ok [] s := by
  unfold takeInputRelease
  rcases away with state | state <;> rw [state] <;> exact handReply_eq_withReply p _ _ _

theorem takeInputRelease_drawing (drawing : s.input.state = .dflt ∨ s.input.state = .contracted) :
    takeInputRelease p s = handReply p .ok [] (beginRelease p s) := by
  unfold takeInputRelease
  rcases drawing with state | state <;> rw [state]

theorem takeInputResume_detached (detached : s.input.state = .detached) :
    takeInputResume p s = withReply p .refused [] s := by
  rw [takeInputResume, detached]
  exact refuse_eq_withReply p .refused s

theorem takeInputResume_drawing (drawing : s.input.state = .dflt ∨ s.input.state = .contracted) :
    takeInputResume p s = withReply p .ok [] s := by
  unfold takeInputResume
  rcases drawing with state | state <;> rw [state] <;> exact handReply_eq_withReply p _ _ _

theorem takeInputResume_away (away : s.input.state = .releasing ∨ s.input.state = .released) :
    takeInputResume p s = handReply p .ok [] (resumeInput s) := by
  unfold takeInputResume
  rcases away with state | state <;> rw [state]

end

/-- R47: the controller as a release begins. -/
def InputCtl.releasing (p : Port) (x : InputCtl) : InputCtl :=
  { x with state := .releasing, requester := some p, recovery := none }

/-- R47, R48: a release that begins is still RELEASING while the stage ramps; otherwise it completes. -/
theorem releaseAtOnce_handLimit {w : State} {p : Port} (running : w.power.phase = .running) (state : w.input.state = .releasing)
    (requester : w.input.requester = some p) :
    let t := releaseAtOnce (handLimit w)
    t.inputStage.target = 0 ∧ (w.inputStage.target = 0 → t.inputStage = w.inputStage)
      ∧ t = { w with
        input := { w.input with state := if t.inputStage.ramping = true then .releasing else .released }
        inputStage := t.inputStage, freeUses := t.freeUses
        ports := if t.inputStage.ramping = true then w.ports else noting 10 [.input, p] w.ports } := by
  have limit : w.input.limit = 0 := by rw [InputCtl.limit_eq, state]; rfl
  have handed : handLimit w = takeInput 0 w := by rw [handLimit_running w running, limit]
  have target : (handLimit w).inputStage.target = 0 := by rw [handed, takeInput_target]
  have stays (h : w.inputStage.target = 0) : (handLimit w).inputStage = w.inputStage := by rw [handed, takeInput_same w h]
  have frame := handLimit_eq w
  intro t
  by_cases ramping : (handLimit w).inputStage.ramping = true
  · have waits : t = handLimit w := if_neg (by rw [ramping]; nofun)
    have same : w.input = { w.input with state := .releasing } := by rw [← state]
    rw [waits, if_pos ramping, if_pos ramping, ← same]
    exact ⟨target, stays, frame⟩
  · have done : t = released (handLimit w) :=
      if_pos (by rw [Bool.and_eq_true, Bool.not_eq_true', decide_eq_true_iff]; exact ⟨Bool.not_eq_true _ ▸ ramping, target⟩)
    have stage : t.inputStage = (handLimit w).inputStage := by rw [done, released_eq]
    have uses : t.freeUses = (handLimit w).freeUses := by rw [done, released_eq]
    rw [stage, uses, if_neg ramping, if_neg ramping]
    refine ⟨target, stays, ?_⟩
    rw [done, released_eq]
    generalize (handLimit w).inputStage = x at *
    generalize (handLimit w).freeUses = n at *
    rw [frame]
    simp only [requester]
    rfl

/-- R49: the controller after a resume, which takes a pending contract and keeps the held one where none is pending. -/
theorem InputCtl.resumed_eq (x : InputCtl) : x.resumed = { x with
    state := if (x.pendingContract.or x.held).isSome = true then .contracted else .dflt
    held := x.pendingContract.or x.held, pendingContract := none, requester := none
    droopLimit := ((x.pendingContract.or x.held).getD { voltage := 5000, current := 500 }).current } := by
  obtain ⟨_, held, waiting, _, _, _, _⟩ := x
  cases waiting <;> rfl

section
variable (p : Port) (s : State) (running : s.power.phase = .running) (on : s.operating = true)
include running on

/-- R47, R48: what a release that is accepted changes. -/
theorem beginRelease_released :
    let t := handReply p .ok [] (beginRelease p s)
    Answers t p .ok [] ∧ Triggered s t ∧ t.inputStage.target = 0 ∧ (s.inputStage.target = 0 → t.inputStage = s.inputStage)
      ∧ t.still = { s.still with
          input := { s.input with
            state := if t.inputStage.ramping = true then .releasing else .released, requester := some p, recovery := none }
          inputStage := t.inputStage, freeUses := t.freeUses
          ports := if t.inputStage.ramping = true then s.still.ports else noting 10 [.input, p] s.still.ports } := by
  intro t
  let w := s.setInput (s.input.releasing p)
  let v := releaseAtOnce (handLimit w)
  obtain ⟨target, stays, frame⟩ := releaseAtOnce_handLimit (w := w) (p := p) running rfl rfl
  have done : t = handReply p .ok [] (trigger v) := rfl
  have still : t.still = v.still := by rw [done, handReply_still, trigger_still]
  have stage : t.inputStage = v.inputStage := (congrArg State.inputStage still :)
  have uses : t.freeUses = v.freeUses := (congrArg State.freeUses still :)
  refine ⟨handReply_handed _ _ _ _, handReply_triggered p _ _ ?_, stage ▸ target, fun h => stage ▸ stays h, ?_⟩
  · exact trigger_triggered_since running on (congrArg State.power frame :) (congrArg State.alloc frame :) (congrArg State.chA frame :)
      (congrArg State.chB frame :)
  · rw [still, stage, uses]
    refine (congrArg State.still frame :).trans ?_
    split
    · rfl
    · exact (noting_still { w with
        input := { w.input with state := .released }, inputStage := v.inputStage, freeUses := v.freeUses } 10 [.input, p]).trans rfl

/-- R49: what a resume changes. -/
theorem resumeInput_resumed :
    let held := s.input.pendingContract.or s.input.held
    let current := (held.getD { voltage := 5000, current := 500 }).current
    let t := handReply p .ok [] (resumeInput s)
    Answers t p .ok [] ∧ Triggered s t ∧ t.inputStage.target = current
      ∧ t.still = { s.still with
          input := { s.input with
            state := if held.isSome = true then .contracted else .dflt, held := held, pendingContract := none,
            requester := none, droopLimit := current }
          inputStage := t.inputStage, freeUses := t.freeUses
          ports := if s.input.pendingContract.isSome = true then noting 8 [.main, .hub] s.still.ports else s.still.ports } := by
  intro held current t
  let told := raiseIf s.input.pendingContract.isSome (raiseMainHub .contract) s
  have tells : told = { s with
      ports := if s.input.pendingContract.isSome = true then noting 8 [.main, .hub] s.ports else s.ports } := by
    show (if _ then _ else _) = _
    split <;> rfl
  let after : InputCtl := s.input.resumed
  let w := told.setInput after
  have done : t = handReply p .ok [] (trigger (handLimit w)) := by
    show handReply p .ok [] (trigger (handLimit (told.setInput told.input.resumed))) = _
    rw [show told.input = s.input from (congrArg State.input tells :)]
  have still : t.still = (handLimit w).still := by rw [done, handReply_still, trigger_still]
  have power : w.power = s.power := (congrArg State.power tells :)
  refine ⟨handReply_handed _ _ _ _, ?_, ?_, ?_⟩
  · rw [done]
    exact handReply_triggered p _ _ (handLimit_triggered running on power (congrArg State.alloc tells :) (congrArg State.chA tells :)
      (congrArg State.chB tells :))
  · rw [target_of_handLimit still (power ▸ running)]
    show s.input.resumed.limit = current
    rw [InputCtl.resumed_eq, InputCtl.limit_eq]
    refine if_pos ?_
    by_cases some : held.isSome = true
    · exact .inr (if_pos some)
    · exact .inl (if_neg some)
  · rw [still_of_handLimit still]
    have standing : w.still = { told.still with input := after } := rfl
    rw [standing, tells, show after = _ from InputCtl.resumed_eq s.input]
    split <;> rfl

end

/-! ### INPUT_STAGE_SETTLED (R1, R48) -/

section
variable (s : State) (on : s.operating = true) (ramping : s.inputStage.ramping = true)
  (reaches : s.present = true ∨ s.inputStage.target = 0)
include on ramping reaches

theorem exec_inputStageSettled : exec .inputStageSettled s
    = .next (inputSettled { s with
        inputStage := { target := s.inputStage.target, output := s.inputStage.target, ramping := false } }) := by
  refine congrArg Host.Outcome.next ((if_pos on).trans (if_pos ?_))
  rw [ramping, Bool.true_and, Bool.or_eq_true, beq_iff_eq]
  exact reaches

end

theorem inputSettled_other (s : State) (other : ¬(s.input.state = .releasing ∧ s.inputStage.target = 0)) : inputSettled s = s := by
  rw [inputSettled, if_neg]
  rwa [Bool.and_eq_true, decide_eq_true_iff, decide_eq_true_iff]

/-- R48: the stage has settled at zero, and so takes the limit of zero without a change. -/
theorem inputSettled_released (s : State) (releasing : s.input.state = .releasing) (zero : s.inputStage.target = 0)
    (running : s.power.phase = .running) : inputSettled s = trigger (released s) := by
  have stands : handLimit (released s) = released s := by
    rw [handLimit_running _ (by rw [released_eq]; exact running)]
    refine takeInput_same _ ?_
    rw [released_eq]
    exact zero
  rw [inputSettled, if_pos, stands]
  rw [Bool.and_eq_true, decide_eq_true_iff, decide_eq_true_iff]
  exact ⟨releasing, zero⟩

/-- Settles O21: the two requests by the input state, the settled event by the state and the stage's target. -/
theorem inputReleasedAndResumed : Obligations.InputReleasedAndResumed := by
  intro s p i k u v settled
  have allowed (port : p ≠ .input) : Request.inputRelease.ports.allows p = true := bne_iff_ne.mpr port
  have releases (hands : Hands s p) (port : p ≠ .input) : exec i s = .next (takeInputRelease p u) :=
    exec_handed (r := .inputRelease) rfl s hands (allowed port)
  have resumes (hands : Hands s p) (port : p ≠ .input) : exec k s = .next (takeInputResume p v) :=
    exec_handed (r := .inputResume) rfl s hands (allowed port)
  have same : v.input = u.input := (handedOver_input p k s).trans (handedOver_input p i s).symm
  refine ⟨fun hands port detached => ?_, fun hands port away => ?_, fun hands port drawing => ?_, fun hands port away => ?_,
    fun on ramping reaches => ?_⟩
  · rw [releases hands port, resumes hands port, takeInputRelease_detached p u detached, takeInputResume_detached p v (same ▸ detached)]
    exact ⟨rfl, rfl⟩
  · rw [releases hands port, takeInputRelease_away p u away]
  · rw [releases hands port, resumes hands port, takeInputResume_drawing p v (same ▸ drawing), takeInputRelease_drawing p u drawing]
    exact ⟨rfl, _, rfl, beginRelease_released p u (handedOver_running p i s hands) (handedOver_operating p i s hands.1.1)⟩
  · rw [resumes hands port, takeInputResume_away p v (same ▸ away)]
    exact ⟨_, rfl, resumeInput_resumed p v (handedOver_running p k s hands) (handedOver_operating p k s hands.1.1)⟩
  · rw [exec_inputStageSettled s on ramping reaches]
    let w : State := { s with inputStage := settled }
    refine ⟨fun other => congrArg Host.Outcome.next (inputSettled_other w other), fun releasing zero running => ?_⟩
    refine ⟨_, congrArg Host.Outcome.next (inputSettled_released w releasing zero running), ?_, ?_⟩
    · rw [released_eq]
      exact trigger_triggered_since running on rfl rfl rfl rfl
    · exact (trigger_still _).trans (released_still w)

/-! ### The recovery timer (R52) -/

/-- R52: the controller after an expiry at the time `now`. -/
def InputCtl.afterRecovery (now : Nat) (x : InputCtl) : InputCtl :=
  { x with droopLimit := x.recovered, recovery := if x.recovered < x.inForce.current then some (now + 30000) else none }

section
variable {s : State} {due : Nat} (on : s.operating = true) (runs : s.input.recovery = some due)
include on runs

theorem exec_recovery_same (same : s.input.recovered = s.input.droopLimit) : exec .recoveryTimerExpiry s
    = .next { s with now := max s.now due, input := s.input.afterRecovery (max s.now due) } := by
  refine congrArg Host.Outcome.next ((if_pos on).trans ?_)
  simp only [recoveryExpires, runs]
  exact if_pos same

theorem exec_recovery_changed (moved : s.input.recovered ≠ s.input.droopLimit) : exec .recoveryTimerExpiry s
    = .next (trigger (handLimit { s with now := max s.now due, input := s.input.afterRecovery (max s.now due) })) := by
  refine congrArg Host.Outcome.next ((if_pos on).trans ?_)
  simp only [recoveryExpires, runs]
  exact if_neg moved

end

/-- Settles O22: whether the limit changes decides whether the stage and the allocator hear of it. -/
theorem recoveryRaisesLimit : Obligations.RecoveryRaisesLimit := by
  intro s on running due runs current limit after
  refine ⟨fun same => exec_recovery_same on runs same, fun moved => ?_⟩
  let w : State := { s with now := max s.now due, input := s.input.afterRecovery (max s.now due) }
  have still : (trigger (handLimit w)).still = (handLimit w).still := trigger_still _
  refine ⟨_, exec_recovery_changed on runs moved, ?_, ?_, ?_⟩
  · rw [handLimit_eq w]
    exact (trigger_triggered_since (u := s) running on rfl rfl rfl rfl)
  · rw [target_of_handLimit still running, InputCtl.limit_eq]
    rfl
  · exact still_of_handLimit still

end Sys2Proof.Machine
end

section
/-! Dormancy (R34, R35, R190), and O17. -/

namespace Sys2Proof.Machine

/-- The MONITOR test changes the power state and the next arrival, and nothing else. -/
theorem monitorTest_eq (s : State) : monitorTest s = { s with power := (monitorTest s).power, seq := (monitorTest s).seq } := by
  unfold monitorTest
  split <;> rfl

/-- The MONITOR test does not change what a pass reads. -/
theorem monitorTest_triggered {u t : State} (h : Triggered u t) : Triggered u (monitorTest t) := by
  unfold monitorTest
  split
  · exact h.congr rfl rfl rfl rfl rfl rfl rfl
  · exact h

/-- What MONITOR asks for is not among what a trigger and a reply change. -/
theorem State.still_rests (s : State) : s.still.RestsForMonitor ↔ s.RestsForMonitor := by
  have dormant (q : Port) : (s.still.port q).dormant = (s.port q).dormant := by cases q <;> rfl
  simp only [State.RestsForMonitor, dormant]
  exact Iff.rfl

/-- R202: entering MONITOR does not change what it asks for. -/
theorem monitorTest_rests (s : State) : (monitorTest s).RestsForMonitor ↔ s.RestsForMonitor := by
  rw [monitorTest]
  split <;> exact Iff.rfl

/-- R202: what MONITOR is entered under, read off the state that is tested. -/
def State.EntersMonitor (s : State) : Prop := s.power.phase = .running ∧ s.power.state = .active ∧ s.RestsForMonitor

theorem monitorTest_enters {s : State} (supplied : s.power.supplied = true) (enters : s.EntersMonitor) :
    (monitorTest s).power = { s.power with state := .monitor }
      ∧ (monitorTest s).seq = { s.seq with nextArrival := s.seq.lastArrival + 2000 } := by
  obtain ⟨running, active, rests⟩ := enters
  have tested := monitorTest_tested s supplied
  rwa [MonitorTested, if_pos ⟨running, active, (monitorTest_rests s).mpr rests⟩] at tested

theorem monitorTest_stays {s : State} (supplied : s.power.supplied = true) (stays : ¬ s.EntersMonitor) :
    (monitorTest s).power = s.power ∧ (monitorTest s).seq = s.seq := by
  have tested := monitorTest_tested s supplied
  rwa [MonitorTested, if_neg] at tested
  rintro ⟨running, active, rests⟩
  exact stays ⟨running, active, (monitorTest_rests s).mp rests⟩

/-- R35: what falling asleep does to the claims of a port. -/
theorem Claim.suspend_eq (p : Port) : Claim.suspend p
    = fun c => if c.owner = .port p ∧ c.cls = .elective then { c with grant := 0, standing := .suspended } else c := by
  funext c
  simp only [Claim.suspend, Bool.and_eq_true, beq_iff_eq, Claim.ownedBy_iff]

/-- R190: the part as a port falls asleep at the time `due` or later, before the pass that this triggers. -/
def asleep (p : Port) (due : Nat) (s : State) : State :=
  { s with
    now := max s.now due
    table := s.table.suspend p
    ports := s.ports.set p { s.port p with dormant := true, dormancy := none } }

theorem asleep_dormant (p : Port) (due : Nat) (s : State) (q : Port) :
    ((asleep p due s).port q).dormant = true ↔ q = p ∨ (s.port q).dormant = true := by
  by_cases same : q = p
  · have own : (asleep p due s).port q = { s.port p with dormant := true, dormancy := none } :=
      same ▸ PerPort.get_set_self _ _ _
    rw [own]
    simp [same]
  · have other : (asleep p due s).port q = s.port q := PerPort.get_set_other _ same _
    rw [other]
    simp [same]

theorem dormancyExpires_eq {p : Port} {due : Nat} {s : State} (runs : (s.port p).dormancy = some due) :
    dormancyExpires p s = monitorTest (trigger (asleep p due s)) := by
  simp only [dormancyExpires, runs]
  rfl

/-- Settles O17: the pass by the trigger, MONITOR by the test of R202. -/
theorem dormancySuspends : Obligations.DormancySuspends := by
  intro s p on running due runs
  let w := asleep p due s
  let t := monitorTest (trigger w)
  have still : (trigger w).still = w.still := trigger_still w
  have power : (trigger w).power = s.power := (congrArg State.power still :)
  have seq : (trigger w).seq = s.seq := (congrArg State.seq still :)
  refine ⟨t, ?_, ?_, ?_, ?_⟩
  · exact congrArg Host.Outcome.next ((if_pos on).trans (dormancyExpires_eq runs))
  · exact monitorTest_triggered (trigger_triggered_since running on rfl rfl rfl rfl)
  · have shown : t.still = { (trigger w).still with power := t.power, seq := t.seq } := congrArg State.still (monitorTest_eq _)
    rw [shown, still, ← Claim.suspend_eq]
    cases p <;> rfl
  · have supplied : (trigger w).power.supplied = true := by
      rw [power]
      exact (Bool.and_eq_true _ _ ▸ on).1
    have awake : (∀ q ∈ [Port.main, .hub, .input], q = p ∨ (s.port q).dormant = true)
        ↔ ∀ q ∈ [Port.main, .hub, .input], q ≠ p → (s.port q).dormant = true :=
      forall₂_congr fun _ _ => or_iff_not_imp_left
    have rests : (trigger w).RestsForMonitor ↔ s.power.holdOff = none ∧ s.input.state = .detached ∧ s.hold.state = .off
        ∧ s.chA.state ≠ .active ∧ s.chB.state ≠ .active ∧ s.bal.queue = []
        ∧ ∀ q ∈ [Port.main, .hub, .input], q ≠ p → (s.port q).dormant = true := by
      rw [← State.still_rests, still, State.still_rests, State.RestsForMonitor]
      simp only [w, asleep_dormant, awake]
      exact Iff.rfl
    have enters : (trigger w).EntersMonitor ↔ s.power.state = .active ∧ (trigger w).RestsForMonitor := by
      rw [State.EntersMonitor, power, running]
      exact and_iff_right rfl
    split
    next all =>
      rw [← power, ← seq]
      exact monitorTest_enters supplied (enters.mpr ⟨all.1, rests.mpr all.2⟩)
    next missing =>
      rw [← power, ← seq]
      exact monitorTest_stays supplied fun all => missing ⟨(enters.mp all).1, rests.mp (enters.mp all).2⟩

end Sys2Proof.Machine
end

section
/-! One allocation pass: the elective claims (R72, R73) and the supply split (R79, R80); O33 and O36. -/

namespace Sys2Proof.Machine

/-! ### Claims in admission order (R72, R73) -/

/-- What the elective claims of a list take together, of grants given in the same order. -/
def electiveSum (l : List Claim) (grants : List GrantOut) : Nat :=
  (((l.zip grants).filter (fun y => y.1.cls == .elective)).map (fun y => y.2.grant)).sum

/-- R73: the grant of one claim of a list, with r left of R before it. -/
def GrantOut.of (c : Claim) (r : Nat) : GrantOut :=
  { admission := c.admission, grant := (serve c r).1, standing := (serve c r).2 }

theorem serveAll_cons (c : Claim) (rest : List Claim) (r : Nat) : serveAll (c :: rest) r
    = (GrantOut.of c r :: (serveAll rest (r - taken c r)).1, (serveAll rest (r - taken c r)).2) := rfl

theorem electiveSum_cons (c : Claim) (rest : List Claim) (r : Nat) (grants : List GrantOut) :
    electiveSum (c :: rest) (GrantOut.of c r :: grants) = taken c r + electiveSum rest grants := by
  cases elective : c.cls <;> simp [electiveSum, elective, taken, GrantOut.of]

theorem serveElective_le (c : Claim) (r : Nat) : (serveElective c r).1 ≤ r := by
  unfold serveElective
  split
  next enough => exact enough
  next => split <;> simp

theorem taken_le (c : Claim) (r : Nat) : taken c r ≤ r := by
  unfold taken serve
  cases c.cls with
  | essential => exact Nat.zero_le r
  | elective =>
    dsimp only
    split
    · exact Nat.zero_le r
    · exact serveElective_le c r

theorem serveAll_length (l : List Claim) : ∀ r, (serveAll l r).1.length = l.length := by
  induction l with
  | nil => exact fun r => rfl
  | cons c rest ih => exact fun r => congrArg (· + 1) (ih (r - taken c r))

/-- R73: what is left of R is what the elective claims have not taken. -/
theorem serveAll_left (l : List Claim) : ∀ r, electiveSum l (serveAll l r).1 ≤ r
    ∧ (serveAll l r).2 = r - electiveSum l (serveAll l r).1 := by
  induction l with
  | nil => exact fun r => ⟨Nat.zero_le r, rfl⟩
  | cons c rest ih =>
    intro r
    obtain ⟨within, left⟩ := ih (r - taken c r)
    have least := taken_le c r
    rw [serveAll_cons, electiveSum_cons, left]
    omega

/-- R72, R73: each claim is judged against the R that the elective claims before it have left. -/
theorem serveAll_at (l : List Claim) : ∀ (r n : Nat), ∀ c ∈ l[n]?,
    (serveAll l r).1[n]? = some (GrantOut.of c (r - electiveSum (l.take n) (serveAll l r).1)) := by
  induction l with
  | nil => exact fun r n c placed => absurd placed (Option.not_mem_none c)
  | cons first rest ih =>
    intro r n c placed
    cases n with
    | zero =>
      obtain rfl : first = c := Option.some.inj placed
      rfl
    | succ n =>
      have later := ih (r - taken first r) n c placed
      rw [serveAll_cons, List.take_succ_cons, electiveSum_cons, List.getElem?_cons_succ, later, Nat.sub_sub]

theorem serve_essential {c : Claim} (essential : c.cls = .essential) (r : Nat) : serve c r = (c.requested, .granted) := by
  rw [serve, essential]

theorem serve_suspended {c : Claim} (elective : c.cls = .elective) (suspended : c.standing = .suspended) (r : Nat) :
    serve c r = (0, .suspended) := by
  simp only [serve, elective]
  exact if_pos suspended

theorem serve_elective {c : Claim} (elective : c.cls = .elective) (awake : c.standing ≠ .suspended) (r : Nat) :
    serve c r = serveElective c r := by
  simp only [serve, elective]
  exact if_neg awake

/-- Settles O33: the place of a claim in the walk by `serveAll_at`, what is left by `serveAll_left`. -/
theorem grantsFollowClaims : Obligations.GrantsFollowClaims := by
  intro x count n e earlier r
  obtain ⟨within, left⟩ := serveAll_left x.claims x.remainder
  refine ⟨rfl, rfl, rfl, serveAll_length x.claims _, ?_, fun c placed => ?_⟩
  · have chg : x.pChg = x.remainder - electiveSum x.claims x.grants := left
    refine ⟨left, ?_, within⟩
    show x.remainder - x.pChg = electiveSum x.claims x.grants
    have bounded : electiveSum x.claims x.grants ≤ x.remainder := within
    omega
  · have given : x.grants[n]? = some (GrantOut.of c r) := serveAll_at x.claims x.remainder n c placed
    refine ⟨_, given, rfl, fun essential => ?_, fun elective suspended => ?_, fun elective awake => ?_⟩
    · rw [GrantOut.of, serve_essential essential]
      exact ⟨rfl, rfl⟩
    · rw [GrantOut.of, serve_suspended elective suspended]
      exact ⟨rfl, rfl⟩
    · rw [GrantOut.of, serve_elective elective awake, serveElective]
      by_cases whole : c.requested ≤ r
      · rw [if_pos whole, if_pos whole]
        exact ⟨rfl, rfl⟩
      · rw [if_neg whole, if_neg whole]
        by_cases partly : c.floor ≤ r
        · rw [if_pos partly, if_pos partly]
          exact ⟨rfl, rfl⟩
        · rw [if_neg partly, if_neg partly]
          exact ⟨rfl, rfl⟩

/-! ### The supply split (R79, R80) -/

/-- R80: the figures of a split are shares within their caps that together do not exceed the deficit, and that miss it only
where both caps are reached. -/
theorem supplySplit_covers (d ha hb capA capB : Nat) :
    let s := supplySplit d ha hb capA capB
    s.1 + s.2 ≤ d ∧ s.1 ≤ capA ∧ s.2 ≤ capB ∧ (s.1 + s.2 < d → s.1 = capA ∧ s.2 = capB) := by
  intro s
  have share : d * ha / (ha + hb) ≤ d := Nat.div_le_of_le_mul (by rw [Nat.mul_comm]; exact Nat.mul_le_mul_right d (Nat.le_add_right ha hb))
  have split : s = supplySplit d ha hb capA capB := rfl
  rw [supplySplit] at split
  split at split <;> rw [split] <;> dsimp only <;> omega

section
variable {d ha hb capA capB : Nat} (some : 0 < ha + hb)
include some

/-- R80: the split with headroom, by the share that its proportion gives cell A. -/
theorem supplySplit_headroom (a : Nat) (share : d * ha / (ha + hb) = a) : supplySplit d ha hb capA capB =
    (min (min a capA + (d - a + (a - min a capA) - min (d - a + (a - min a capA)) capB)) capA,
      min (d - a + (a - min a capA)) capB) := by
  simp only [supplySplit, share]
  exact if_neg (by omega)

end

theorem supplySplit_none {d ha hb capA capB : Nat} (none : ha + hb = 0) : supplySplit d ha hb capA capB
    = (min d capA, min (d - min d capA) capB) := by
  simp only [supplySplit]
  exact if_pos none

/-- R79: the supplies of a pass, with a deficit or without one. -/
theorem Snapshot.supply_eq (x : Snapshot) :
    x.supply = supplySplit x.deficit (headroom x.isolatedA x.vA) (headroom x.outB x.vB) x.capA x.capB := by
  unfold Snapshot.supply
  split
  next none =>
    rw [none]
    simp [supplySplit]
  next => rfl

/-- Settles O36: the shares by the two cases of the split. -/
theorem supplyCoversDeficit : Obligations.SupplyCoversDeficit := by
  intro x count f capA outB capB hA hB
  have outs : x.outB = true ↔ outB := by rw [Snapshot.outB, Bool.or_eq_true]
  have sameCapB : x.capB = capB := by
    rw [Snapshot.capB]
    exact if_congr outs rfl rfl
  have sameB : headroom x.outB x.vB = hB := by
    rw [headroom]
    exact if_congr outs rfl rfl
  have supplies : x.supply = supplySplit x.deficit hA hB capA capB := by
    rw [x.supply_eq, sameCapB, sameB]
    rfl
  have sA : f.sA = (supplySplit x.deficit hA hB capA capB).1 := congrArg Prod.fst supplies
  have sB : f.sB = (supplySplit x.deficit hA hB capA capB).2 := congrArg Prod.snd supplies
  have short : f.shortfall = f.deficit - f.sA - f.sB := rfl
  obtain ⟨total, leA, leB, misses⟩ := supplySplit_covers x.deficit hA hB capA capB
  rw [← sA, ← sB] at total misses
  rw [← sA] at leA
  rw [← sB] at leB
  have deficit : f.deficit = x.deficit := rfl
  have share : f.deficit * hA / (hA + hB) ≤ f.deficit :=
    Nat.div_le_of_le_mul (by rw [Nat.mul_comm]; exact Nat.mul_le_mul_right _ (Nat.le_add_right hA hB))
  refine ⟨by omega, leA, leB, fun missing => misses (by omega), fun some fitsA fitsB => ?_, fun some => ?_, fun none => ?_, ?_⟩
  · rw [sA, sB, supplySplit_headroom some _ rfl, ← deficit]
    generalize f.deficit * hA / (hA + hB) = a at *
    omega
  · rw [sA, sB, supplySplit_headroom some _ rfl, ← deficit]
    generalize f.deficit * hA / (hA + hB) = a at *
    omega
  · rw [sA, sB, supplySplit_none none]
    exact ⟨rfl, rfl⟩
  · show decide (0 < x.supply.2) = true ↔ 0 < x.supply.2
    exact decide_eq_true_iff

end Sys2Proof.Machine
end

section
/-! The charge split of a pass (R74 to R78); O34 and O35. -/

namespace Sys2Proof.Machine

/-! ### Costs, and what a grant buys (R75, R77) -/

section
variable {v : Nat} (g i : Nat)

theorem currentA_le : currentA v g i ≤ i := Nat.min_le_left _ _
theorem currentB_le : currentB v g i ≤ i := Nat.min_le_left _ _

theorem floorTen_le (n : Nat) : floorTen n ≤ n := by unfold floorTen; omega
theorem floorTen_mod (n : Nat) : floorTen n % 10 = 0 := by unfold floorTen; omega

theorem min_mod_ten {a b : Nat} (ha : a % 10 = 0) (hb : b % 10 = 0) : min a b % 10 = 0 := by
  rcases Nat.le_total a b with h | h
  · rwa [Nat.min_eq_left h]
  · rwa [Nat.min_eq_right h]

theorem currentA_mod {i : Nat} (h : i % 10 = 0) : currentA v g i % 10 = 0 := min_mod_ten h (floorTen_mod _)
theorem currentB_mod {i : Nat} (h : i % 10 = 0) : currentB v g i % 10 = 0 := min_mod_ten h (floorTen_mod _)

/-- R77: the setpoint of cell A costs no more than its grant. -/
theorem currentA_affordable : currentA v g i * v / 1000 ≤ g := by
  have bought : currentA v g i ≤ g * 1000 / v := (Nat.min_le_right _ _).trans (floorTen_le _)
  have paid : currentA v g i * v ≤ g * 1000 := (Nat.mul_le_mul_right v bought).trans (Nat.div_mul_le_self _ _)
  omega

/-- R77: the setpoint of cell B costs no more at the node than its grant. -/
theorem currentB_affordable : currentB v g i * v / 1000 * 1024 / 980 ≤ g := by
  have bought : currentB v g i ≤ g * 980 / 1024 * 1000 / v := (Nat.min_le_right _ _).trans (floorTen_le _)
  have paid : currentB v g i * v ≤ g * 980 / 1024 * 1000 := (Nat.mul_le_mul_right v bought).trans (Nat.div_mul_le_self _ _)
  omega

variable (pos : 0 < v)
include pos

/-- R75, R77: the cost of a demand in whole tens of mA buys it. -/
theorem currentA_cost {i : Nat} (tens : i % 10 = 0) : currentA v (costA v i) i = i := by
  have paid : v * i ≤ costA v i * 1000 := by unfold costA divUp; omega
  have bought : i ≤ costA v i * 1000 / v := (Nat.le_div_iff_mul_le pos).mpr (Nat.mul_comm v i ▸ paid)
  exact Nat.min_eq_left (by unfold floorTen; omega)

theorem currentB_cost {i : Nat} (tens : i % 10 = 0) : currentB v (costB v i) i = i := by
  have paid : v * i ≤ costB v i * 980 / 1024 * 1000 := by unfold costB divUp; omega
  have bought : i ≤ costB v i * 980 / 1024 * 1000 / v := (Nat.le_div_iff_mul_le pos).mpr (Nat.mul_comm v i ▸ paid)
  exact Nat.min_eq_left (by unfold floorTen; omega)

theorem demand_zero_of_costA {i : Nat} (free : costA v i = 0) : i = 0 := by
  have none : v * i = 0 := by unfold costA divUp at free; omega
  exact (Nat.mul_eq_zero.mp none).resolve_left pos.ne'

theorem demand_zero_of_costB {i : Nat} (free : costB v i = 0) : i = 0 := by
  have none : v * i = 0 := by unfold costB divUp at free; omega
  exact (Nat.mul_eq_zero.mp none).resolve_left pos.ne'

end

theorem costA_zero (v : Nat) : costA v 0 = 0 := by simp [costA, divUp]
theorem costB_zero (v : Nat) : costB v 0 = 0 := by simp [costB, divUp]
theorem currentA_zero (v g : Nat) : currentA v g 0 = 0 := Nat.zero_min _
theorem currentB_zero (v g : Nat) : currentB v g 0 = 0 := Nat.zero_min _

/-- R77: a larger grant buys no less. -/
theorem currentA_mono {v i g h : Nat} (le : g ≤ h) : currentA v g i ≤ currentA v h i := by
  have bought : g * 1000 / v ≤ h * 1000 / v := Nat.div_le_div_right (Nat.mul_le_mul_right _ le)
  unfold currentA floorTen
  omega

theorem currentB_mono {v i g h : Nat} (le : g ≤ h) : currentB v g i ≤ currentB v h i := by
  have net : g * 980 / 1024 ≤ h * 980 / 1024 := by omega
  have bought : g * 980 / 1024 * 1000 / v ≤ h * 980 / 1024 * 1000 / v := Nat.div_le_div_right (Nat.mul_le_mul_right _ net)
  unfold currentB floorTen
  omega

/-! ### The grants (R76) -/

section
variable {p va vb da db : Nat}

theorem chargeGrants_covered (covered : da + db ≤ p) : chargeGrants p va vb da db = (da, db) := if_pos covered

theorem splitA_le : splitA p va vb da db ≤ p :=
  Nat.div_le_of_le_mul (by rw [Nat.mul_comm]; exact Nat.mul_le_mul_right p (Nat.le_add_right _ _))

/-- R76: where P_chg does not cover both costs, the whole of it is divided: by the weights, with the excess over one cost moved
to the other. -/
theorem chargeGrants_divided (short : p < da + db) :
    let gA := if splitA p va vb da db ≤ da then max (splitA p va vb da db) (p - db) else da
    chargeGrants p va vb da db = (gA, p - gA) ∧ gA ≤ da ∧ p - gA ≤ db ∧ gA ≤ p := by
  have share : splitA p va vb da db ≤ p := splitA_le
  unfold chargeGrants
  rw [if_neg (Nat.not_le.mpr short)]
  generalize splitA p va vb da db = a at *
  dsimp only
  rw [Prod.mk.injEq]
  refine ⟨⟨?_, ?_⟩, ?_, ?_, ?_⟩ <;> split <;> omega

/-- R76: the grants stay within P_chg and within the costs. -/
theorem chargeGrants_within : (chargeGrants p va vb da db).1 + (chargeGrants p va vb da db).2 ≤ p
    ∧ (chargeGrants p va vb da db).1 ≤ da ∧ (chargeGrants p va vb da db).2 ≤ db := by
  rcases Nat.lt_or_ge p (da + db) with short | covered
  · obtain ⟨given, leA, leB, le⟩ := chargeGrants_divided (va := va) (vb := vb) short
    rw [given]
    dsimp only
    omega
  · rw [chargeGrants_covered covered]
    omega

end

/-! ### Starvation (R78) -/

theorem starvedTest_iff (demand setpoint : Nat) : starvedTest demand setpoint = true ↔ setpoint < 100 ∧ setpoint < demand := by
  unfold starvedTest
  rw [Bool.and_eq_true, Bool.and_eq_true, decide_eq_true_iff, decide_eq_true_iff, decide_eq_true_iff]
  have limit : Config.starveBelow = 100 := rfl
  rw [limit]
  omega

/-- R78: what a channel that is not starved presents is enough, or all that is asked for. -/
theorem enough_of_not_starved {demand setpoint : Nat} (fed : ¬ starvedTest demand setpoint = true) :
    100 ≤ setpoint ∨ demand ≤ setpoint := by
  rw [starvedTest_iff] at fed
  omega

/-! ### The split (R75 to R78) -/

/-- R74, R78: a channel that is given the grant g, of which it buys the setpoint c. -/
def Charge.given (g c : Nat) : Charge := { grant := g, setpoint := c, starved := false }

section
variable (p : Nat) {va vb : Nat} (ia ib : Nat) (posA : 0 < va) (posB : 0 < vb)
include posA posB

/-- R78: the split by the starvation tests; no demand is the case where both grants and both setpoints are zero. -/
theorem chargeSplit_eq :
    let g := chargeGrants p va vb (costA va ia) (costB vb ib)
    chargeSplit p va vb ia ib =
      match starvedTest ia (currentA va g.1 ia), starvedTest ib (currentB vb g.2 ib) with
      | false, false => (.given g.1 (currentA va g.1 ia), .given g.2 (currentB vb g.2 ib))
      | true, true => (.nothing true, .nothing true)
      | true, false => (.nothing true, .given (min p (costB vb ib)) (currentB vb (min p (costB vb ib)) ib))
      | false, true => (.given (min p (costA va ia)) (currentA va (min p (costA va ia)) ia), .nothing true) := by
  intro g
  unfold chargeSplit
  dsimp only
  split
  next free =>
    obtain ⟨freeA, freeB⟩ := Nat.add_eq_zero_iff.mp free
    obtain rfl := demand_zero_of_costA posA freeA
    obtain rfl := demand_zero_of_costB posB freeB
    have none : g = (0, 0) := by
      show chargeGrants p va vb (costA va 0) (costB vb 0) = (0, 0)
      rw [freeA, freeB, chargeGrants_covered (Nat.zero_le p)]
    rw [none, currentA_zero, currentB_zero]
    rfl
  next => rfl

/-- R78: who starves. -/
theorem chargeSplit_starved :
    let g := chargeGrants p va vb (costA va ia) (costB vb ib)
    (chargeSplit p va vb ia ib).1.starved = starvedTest ia (currentA va g.1 ia)
      ∧ (chargeSplit p va vb ia ib).2.starved = starvedTest ib (currentB vb g.2 ib) := by
  intro g
  rw [chargeSplit_eq p ia ib posA posB]
  cases starvedTest ia (currentA va g.1 ia) <;> cases starvedTest ib (currentB vb g.2 ib) <;> exact ⟨rfl, rfl⟩

/-- R76 to R78: what a channel is given is zero where it starves, the division's share where neither starves, and the smaller of
P_chg and its cost where the other does. -/
theorem chargeSplit_given :
    let g := chargeGrants p va vb (costA va ia) (costB vb ib)
    let starvedA := starvedTest ia (currentA va g.1 ia)
    let starvedB := starvedTest ib (currentB vb g.2 ib)
    let y := chargeSplit p va vb ia ib
    (starvedA = true → y.1.grant = 0 ∧ y.1.setpoint = 0) ∧ (starvedB = true → y.2.grant = 0 ∧ y.2.setpoint = 0)
      ∧ (starvedA = false → starvedB = false → y.1.grant = g.1 ∧ y.2.grant = g.2)
      ∧ (starvedA = true → starvedB = false → y.2.grant = min p (costB vb ib))
      ∧ (starvedA = false → starvedB = true → y.1.grant = min p (costA va ia))
      ∧ (starvedA = false → y.1.setpoint = currentA va y.1.grant ia)
      ∧ (starvedB = false → y.2.setpoint = currentB vb y.2.grant ib) := by
  intro g starvedA starvedB y
  have split := chargeSplit_eq p ia ib posA posB
  change y = (match starvedA, starvedB with
    | false, false => _
    | true, true => _
    | true, false => _
    | false, true => _) at split
  rw [split]
  cases starvedA <;> cases starvedB <;> simp [Charge.given, Charge.nothing, g]

/-- R74, R76, R77: the split stays within P_chg, and gives each channel no less than the division does. -/
theorem chargeSplit_grants :
    let g := chargeGrants p va vb (costA va ia) (costB vb ib)
    let y := chargeSplit p va vb ia ib
    y.1.grant + y.2.grant ≤ p ∧ y.1.grant ≤ costA va ia ∧ y.2.grant ≤ costB vb ib
      ∧ (y.1.starved = false → g.1 ≤ y.1.grant) ∧ (y.2.starved = false → g.2 ≤ y.2.grant) := by
  dsimp only
  obtain ⟨total, leA, leB⟩ := chargeGrants_within (p := p) (va := va) (vb := vb) (da := costA va ia) (db := costB vb ib)
  obtain ⟨whoA, whoB⟩ := chargeSplit_starved p ia ib posA posB
  obtain ⟨noneA, noneB, both, onlyB, onlyA, -, -⟩ := chargeSplit_given p ia ib posA posB
  rw [whoA, whoB]
  generalize chargeGrants p va vb (costA va ia) (costB vb ib) = g at *
  cases starvesA : starvedTest ia (currentA va g.1 ia) <;> cases starvesB : starvedTest ib (currentB vb g.2 ib)
  · obtain ⟨grantA, grantB⟩ := both starvesA starvesB
    exact ⟨by omega, by omega, by omega, fun _ => by omega, fun _ => by omega⟩
  · have grantA := onlyA starvesA starvesB
    obtain ⟨grantB, -⟩ := noneB starvesB
    exact ⟨by omega, by omega, by omega, fun _ => by omega, nofun⟩
  · have grantB := onlyB starvesA starvesB
    obtain ⟨grantA, -⟩ := noneA starvesA
    exact ⟨by omega, by omega, by omega, nofun, fun _ => by omega⟩
  · obtain ⟨grantA, -⟩ := noneA starvesA
    obtain ⟨grantB, -⟩ := noneB starvesB
    exact ⟨by omega, by omega, by omega, nofun, nofun⟩

end

/-! ### Stage 5 (R74 to R78) -/

section
variable (x : Snapshot)

theorem Snapshot.chargeBlocked_iff : x.chargeBlocked = true ↔ 0 < x.deficit ∨ x.holdOff = false ∨ x.dieHot = true := by
  rw [Snapshot.chargeBlocked, Bool.or_eq_true, Bool.or_eq_true, decide_eq_true_iff, Bool.not_eq_true']
  tauto

theorem Snapshot.charge_blocked (blocked : x.chargeBlocked = true) : x.charge = (.nothing false, .nothing false) := if_pos blocked

theorem workingVoltage_pos (v : Nat) : 0 < workingVoltage v := by
  have least : 2800 ≤ workingVoltage v := Nat.le_max_right _ _
  omega

variable {x} (free : x.chargeBlocked = false)
include free

theorem Snapshot.charge_free :
    x.charge = chargeSplit x.pChg (workingVoltage x.vA) (workingVoltage x.vB) x.idA x.idB :=
  if_neg (by rw [free]; nofun)

theorem Snapshot.idA_eq : x.idA = if x.latchedA = true then 0 else x.demandA := by
  rw [Snapshot.idA, free, Bool.false_or]

theorem Snapshot.idB_eq : x.idB = if x.latchedB = true ∨ x.holder ≠ some .chargeB then 0 else x.demandB := by
  rw [Snapshot.idB, free, Bool.false_or]
  refine if_congr ?_ rfl rfl
  rw [Bool.or_eq_true, bne_iff_ne]

end

theorem Snapshot.idA_le (x : Snapshot) : x.idA ≤ x.demandA := by unfold Snapshot.idA; split <;> omega
theorem Snapshot.idB_le (x : Snapshot) : x.idB ≤ x.demandB := by unfold Snapshot.idB; split <;> omega

/-- R74, R78: a channel with no admitted demand gets nothing. -/
theorem chargeSplit_noDemandA (p : Nat) {va vb : Nat} (ib : Nat) (posA : 0 < va) (posB : 0 < vb) :
    (chargeSplit p va vb 0 ib).1.grant = 0 ∧ (chargeSplit p va vb 0 ib).1.setpoint = 0 := by
  obtain ⟨-, leA, -, -, -⟩ := chargeSplit_grants p 0 ib posA posB
  rw [costA_zero] at leA
  obtain ⟨noneA, -, -, -, -, setA, -⟩ := chargeSplit_given p 0 ib posA posB
  have fed : starvedTest 0 (currentA va (chargeGrants p va vb (costA va 0) (costB vb ib)).1 0) = false := rfl
  rw [setA fed, currentA_zero]
  exact ⟨Nat.le_zero.mp leA, rfl⟩

theorem chargeSplit_noDemandB (p : Nat) {va vb : Nat} (ia : Nat) (posA : 0 < va) (posB : 0 < vb) :
    (chargeSplit p va vb ia 0).2.grant = 0 ∧ (chargeSplit p va vb ia 0).2.setpoint = 0 := by
  obtain ⟨-, -, leB, -, -⟩ := chargeSplit_grants p ia 0 posA posB
  rw [costB_zero] at leB
  obtain ⟨-, -, -, -, -, -, setB⟩ := chargeSplit_given p ia 0 posA posB
  have fed : starvedTest 0 (currentB vb (chargeGrants p va vb (costA va ia) (costB vb 0)).2 0) = false := rfl
  rw [setB fed, currentB_zero]
  exact ⟨Nat.le_zero.mp leB, rfl⟩

/-- What stage 5 keeps to for one channel, with the admitted demand i. -/
structure Charge.Bounded (y : Charge) (i cost : Nat) : Prop where
  within : y.setpoint ≤ i
  tens : i % 10 = 0 → y.setpoint % 10 = 0
  affordable : cost ≤ y.grant
  starved : y.starved = true → y.setpoint = 0 ∧ y.grant = 0
  fed : y.starved = false → 0 < y.setpoint → 100 ≤ y.setpoint ∨ y.setpoint = i

section
variable (p : Nat) {va vb : Nat} (ia ib : Nat) (posA : 0 < va) (posB : 0 < vb)
include posA posB

theorem chargeSplit_boundedA : let y := (chargeSplit p va vb ia ib).1; y.Bounded ia (y.setpoint * va / 1000) := by
  dsimp only
  obtain ⟨whoA, -⟩ := chargeSplit_starved p ia ib posA posB
  obtain ⟨noneA, -, -, -, -, setA, -⟩ := chargeSplit_given p ia ib posA posB
  obtain ⟨-, -, -, noLess, -⟩ := chargeSplit_grants p ia ib posA posB
  cases starves : (chargeSplit p va vb ia ib).1.starved
  · have setpoint := setA (whoA ▸ starves)
    refine ⟨?_, fun tens => ?_, ?_, fun h => absurd (starves.symm.trans h) nofun, fun _ some => ?_⟩
    · rw [setpoint]; exact currentA_le _ ia
    · rw [setpoint]; exact currentA_mod _ tens
    · rw [setpoint]; exact currentA_affordable _ ia
    · have enough := enough_of_not_starved (whoA ▸ Bool.eq_false_iff.mp starves)
      have more := currentA_mono (v := va) (i := ia) (noLess starves)
      have most := currentA_le (v := va) (chargeSplit p va vb ia ib).1.grant ia
      rw [← setpoint] at more most
      omega
  · obtain ⟨grant, setpoint⟩ := noneA (whoA ▸ starves)
    exact ⟨by omega, fun _ => by omega, by simp [setpoint], fun _ => ⟨setpoint, grant⟩, fun h => absurd (starves.symm.trans h) nofun⟩

theorem chargeSplit_boundedB :
    let y := (chargeSplit p va vb ia ib).2; y.Bounded ib (y.setpoint * vb / 1000 * 1024 / 980) := by
  dsimp only
  obtain ⟨-, whoB⟩ := chargeSplit_starved p ia ib posA posB
  obtain ⟨-, noneB, -, -, -, -, setB⟩ := chargeSplit_given p ia ib posA posB
  obtain ⟨-, -, -, -, noLess⟩ := chargeSplit_grants p ia ib posA posB
  cases starves : (chargeSplit p va vb ia ib).2.starved
  · have setpoint := setB (whoB ▸ starves)
    refine ⟨?_, fun tens => ?_, ?_, fun h => absurd (starves.symm.trans h) nofun, fun _ some => ?_⟩
    · rw [setpoint]; exact currentB_le _ ib
    · rw [setpoint]; exact currentB_mod _ tens
    · rw [setpoint]; exact currentB_affordable _ ib
    · have enough := enough_of_not_starved (whoB ▸ Bool.eq_false_iff.mp starves)
      have more := currentB_mono (v := vb) (i := ib) (noLess starves)
      have most := currentB_le (v := vb) (chargeSplit p va vb ia ib).2.grant ib
      rw [← setpoint] at more most
      omega
  · obtain ⟨grant, setpoint⟩ := noneB (whoB ▸ starves)
    exact ⟨by omega, fun _ => by omega, by simp [setpoint], fun _ => ⟨setpoint, grant⟩, fun h => absurd (starves.symm.trans h) nofun⟩

end

/-- Settles O34: the split's bounds for each channel, where charging is not blocked; nothing is given where it is. -/
theorem chargeStaysInBounds : Obligations.ChargeStaysInBounds := by
  intro x count f
  have posA := workingVoltage_pos x.vA
  have posB := workingVoltage_pos x.vB
  by_cases blocked : x.chargeBlocked = true
  · have none := x.charge_blocked blocked
    have figures : f.gA = 0 ∧ f.gB = 0 ∧ f.cA = 0 ∧ f.cB = 0 ∧ f.starvedA = false ∧ f.starvedB = false := by
      simp only [f, Snapshot.figures, none]
      exact ⟨rfl, rfl, rfl, rfl, rfl, rfl⟩
    obtain ⟨gA, gB, cA, cB, starvedA, starvedB⟩ := figures
    simp only [gA, gB, cA, cB, starvedA, starvedB]
    simp
  · have free : x.chargeBlocked = false := Bool.not_eq_true _ ▸ blocked
    have split := Snapshot.charge_free free
    obtain ⟨total, -⟩ := chargeSplit_grants x.pChg x.idA x.idB posA posB
    have boundedA := chargeSplit_boundedA x.pChg x.idA x.idB posA posB
    have boundedB := chargeSplit_boundedB x.pChg x.idA x.idB posA posB
    rw [← split] at total boundedA boundedB
    refine ⟨total, boundedA.within.trans x.idA_le, boundedB.within.trans x.idB_le, fun stopped => ?_, fun latched => ?_,
      fun away => ?_, fun tens => ?_, fun tens => ?_, boundedA.affordable, boundedB.affordable, boundedA.starved, boundedB.starved,
      fun fed some => ?_, fun fed some => ?_⟩
    · exact absurd (x.chargeBlocked_iff.mpr stopped) blocked
    · have none : x.idA = 0 := (Snapshot.idA_eq free).trans (if_pos latched)
      show x.charge.1.setpoint = 0 ∧ x.charge.1.grant = 0
      rw [split, none]
      exact (chargeSplit_noDemandA x.pChg x.idB posA posB).symm
    · have none : x.idB = 0 := (Snapshot.idB_eq free).trans (if_pos away)
      show x.charge.2.setpoint = 0 ∧ x.charge.2.grant = 0
      rw [split, none]
      exact (chargeSplit_noDemandB x.pChg x.idA posA posB).symm
    · exact boundedA.tens (by rw [Snapshot.idA_eq free]; split <;> [rfl; exact tens])
    · exact boundedB.tens (by rw [Snapshot.idB_eq free]; split <;> [rfl; exact tens])
    · have demand : x.idA = x.demandA ∨ x.idA = 0 := by rw [Snapshot.idA_eq free]; split <;> simp
      have enough := boundedA.fed fed some
      have most := boundedA.within
      change 0 < x.charge.1.setpoint at some
      show 100 ≤ x.charge.1.setpoint ∨ x.charge.1.setpoint = _
      omega
    · have demand : x.idB = x.demandB ∨ x.idB = 0 := by rw [Snapshot.idB_eq free]; split <;> simp
      have enough := boundedB.fed fed some
      have most := boundedB.within
      change 0 < x.charge.2.setpoint at some
      show 100 ≤ x.charge.2.setpoint ∨ x.charge.2.setpoint = _
      omega

/-! ### The division (R75 to R78) -/

theorem costA_eq (v i : Nat) : costA v i = (v * i + 999) / 1000 := by unfold costA divUp; omega
theorem costB_eq (v i : Nat) : costB v i = ((v * i + 999) / 1000 * 1024 + 979) / 980 := by unfold costB divUp; omega

theorem starvedTest_self (i : Nat) : starvedTest i i = false := by
  rw [← Bool.not_eq_true, starvedTest_iff]
  omega

section
variable (p : Nat) {va vb ia ib : Nat} (posA : 0 < va) (posB : 0 < vb)
include posA posB

/-- R75, R77: where P_chg covers both costs, each channel gets its demand. -/
theorem chargeSplit_covered (tensA : ia % 10 = 0) (tensB : ib % 10 = 0) (covered : costA va ia + costB vb ib ≤ p) :
    chargeSplit p va vb ia ib = (.given (costA va ia) ia, .given (costB vb ib) ib) := by
  rw [chargeSplit_eq p ia ib posA posB, chargeGrants_covered covered]
  simp only [currentA_cost posA tensA, currentB_cost posB tensB, starvedTest_self]

end

/-- Settles O35: whether P_chg covers the costs decides between the full demands and the division. -/
theorem chargeSplitWeighs : Obligations.ChargeSplitWeighs := by
  intro x count holdOff deficit dieHot tensA tensB f va vb ia ib da db wa wb share gA gB setA setB starvedA starvedB
  have posA : 0 < va := workingVoltage_pos x.vA
  have posB : 0 < vb := workingVoltage_pos x.vB
  have free : x.chargeBlocked = false := by
    rw [← Bool.not_eq_true, x.chargeBlocked_iff, deficit, holdOff, dieHot]
    simp
  have split : x.charge = chargeSplit x.pChg va vb ia ib := by
    rw [Snapshot.charge_free free, Snapshot.idA_eq free, Snapshot.idB_eq free]
    rfl
  have costsA : costA va ia = da := costA_eq va ia
  have costsB : costB vb ib = db := costB_eq vb ib
  have tenA : ia % 10 = 0 := by show (if _ then _ else _) % 10 = 0; split <;> [rfl; exact tensA]
  have tenB : ib % 10 = 0 := by show (if _ then _ else _) % 10 = 0; split <;> [rfl; exact tensB]
  refine ⟨fun covered => ?_, fun short => ?_⟩
  · have given := chargeSplit_covered x.pChg posA posB tenA tenB (by rw [costsA, costsB]; exact covered)
    rw [← split, costsA, costsB] at given
    have first := congrArg Prod.fst given
    have second := congrArg Prod.snd given
    exact ⟨congrArg Charge.grant first, congrArg Charge.grant second, congrArg Charge.setpoint first,
      congrArg Charge.setpoint second, congrArg Charge.starved first, congrArg Charge.starved second⟩
  · obtain ⟨divided, leA, leB, -⟩ := chargeGrants_divided (va := va) (vb := vb) short
    have divides : chargeGrants x.pChg va vb (costA va ia) (costB vb ib) = (gA, gB) := by
      rw [costsA, costsB]
      exact divided
    obtain ⟨whoA, whoB⟩ := chargeSplit_starved x.pChg ia ib posA posB
    obtain ⟨noneA, noneB, both, onlyB, onlyA, buysA, buysB⟩ := chargeSplit_given x.pChg ia ib posA posB
    rw [divides, ← split] at whoA whoB
    rw [divides, ← split] at noneA noneB both onlyB onlyA buysA buysB
    rw [costsB] at onlyB
    rw [costsA] at onlyA
    have testA : starvedTest ia (currentA va gA ia) = true ↔ starvedA := starvedTest_iff ia (setA gA)
    have testB : starvedTest ib (currentB vb gB ib) = true ↔ starvedB := starvedTest_iff ib (setB gB)
    have fedA (h : ¬starvedA) : starvedTest ia (currentA va gA ia) = false := Bool.eq_false_iff.mpr (mt testA.mp h)
    have fedB (h : ¬starvedB) : starvedTest ib (currentB vb gB ib) = false := Bool.eq_false_iff.mpr (mt testB.mp h)
    refine ⟨leA, leB, ?_, ?_, fun notA notB => ?_, fun isA => noneA (testA.mpr isA), fun isB => noneB (testB.mpr isB),
      fun isA notB => ?_, fun isB notA => ?_⟩
    · rw [Bool.eq_iff_iff, decide_eq_true_iff, ← testA, ← whoA]
      exact Iff.rfl
    · rw [Bool.eq_iff_iff, decide_eq_true_iff, ← testB, ← whoB]
      exact Iff.rfl
    · obtain ⟨grantA, grantB⟩ := both (fedA notA) (fedB notB)
      have setpointA := buysA (fedA notA)
      have setpointB := buysB (fedB notB)
      rw [grantA] at setpointA
      rw [grantB] at setpointB
      exact ⟨grantA, grantB, setpointA, setpointB⟩
    · have grantB := onlyB (testA.mpr isA) (fedB notB)
      have setpointB := buysB (fedB notB)
      rw [grantB] at setpointB
      exact ⟨grantB, setpointB⟩
    · have grantA := onlyA (fedA notA) (testB.mpr isB)
      have setpointA := buysA (fedA notA)
      rw [grantA] at setpointA
      exact ⟨grantA, setpointA⟩

end Sys2Proof.Machine
end

section
/-! Frames (R180, R193, R194): bytes to commands and back, and O2. -/

namespace Sys2Proof

open Sys2Proof.Machine

/-! ### Fields (R193) -/

theorem numberOf_bytesOf (n : Nat) : ∀ v, numberOf (bytesOf n v) = v % 256 ^ n := by
  induction n with
  | zero => exact fun v => (Nat.mod_one v).symm
  | succ n ih =>
    intro v
    have low : (BitVec.ofNat 8 v).toNat = v % 256 := BitVec.toNat_ofNat v 8
    rw [bytesOf, numberOf, ih, low, Nat.pow_succ', Nat.mod_mul]

theorem bytesOf_numberOf (l : List Byte) : bytesOf l.length (numberOf l) = l := by
  induction l with
  | nil => rfl
  | cons b rest ih =>
    have below : b.toNat < 256 := b.isLt
    have first : BitVec.ofNat 8 (b.toNat + 256 * numberOf rest) = b :=
      BitVec.eq_of_toNat_eq (by rw [BitVec.toNat_ofNat]; omega)
    have others : (b.toNat + 256 * numberOf rest) / 256 = numberOf rest := by omega
    rw [numberOf, List.length_cons, bytesOf, first, others, ih]

theorem bytesOf_length (n : Nat) : ∀ v, (bytesOf n v).length = n := by
  induction n with
  | zero => exact fun v => rfl
  | succ n ih => exact fun v => congrArg (· + 1) (ih (v / 256))

/-- R193: writing a field that was read gives its bytes. -/
theorem bytesOf_fieldAt {l : List Byte} {o n : Nat} (within : o + n ≤ l.length) :
    bytesOf n (fieldAt l o n) = (l.drop o).take n := by
  have length : ((l.drop o).take n).length = n := by rw [List.length_take, List.length_drop]; omega
  have read := bytesOf_numberOf ((l.drop o).take n)
  rwa [length] at read

/-- R193: reading a field that was written gives its value. -/
theorem numberOf_field {n v : Nat} (fits : v < 256 ^ n) : numberOf (bytesOf n v) = v := by
  rw [numberOf_bytesOf, Nat.mod_eq_of_lt fits]

/-- R193: a signed byte that was written reads back. -/
theorem signedByte_field {i : Int} (fits : -128 ≤ i ∧ i < 128) : signedByte (BitVec.ofNat 8 (i % (256 ^ 1 : Nat)).toNat) = i := by
  have whole : ((i % (256 ^ 1 : Nat)).toNat : Int) = i % 256 := Int.toNat_of_nonneg (Int.emod_nonneg i (by decide))
  rw [signedByte, BitVec.toInt_ofNat', whole]
  exact (Int.emod_bmod i 256).trans (Int.bmod_eq_of_le (by omega) (by omega))

/-- R193: writing a signed byte that was read gives its byte. -/
theorem signedBytesOf_signedAt {l : List Byte} {o : Nat} (within : o + 1 ≤ l.length) :
    signedBytesOf 1 (signedAt l o) = (l.drop o).take 1 := by
  have placed : o < l.length := by omega
  have byte : l.getD o 0 = l[o] := List.getD_eq_getElem l 0 placed
  have residue : (l[o].toInt % 256).toNat = l[o].toNat := by
    have modulus : (l[o].toInt % 256 : Int) = l[o].toNat % 256 := by
      rw [BitVec.toInt_eq_toNat_bmod]
      exact Int.bmod_emod
    have below : l[o].toNat < 256 := l[o].isLt
    omega
  have same : BitVec.ofNat 8 l[o].toNat = l[o] := BitVec.eq_of_toNat_eq (by rw [BitVec.toNat_ofNat]; omega)
  have spelled : signedBytesOf 1 l[o].toInt = [l[o]] := by
    show [BitVec.ofNat 8 (l[o].toInt % 256).toNat] = [l[o]]
    rw [residue, same]
  rw [signedAt, signedByte, byte, spelled, List.drop_eq_getElem_cons placed]
  rfl

/-! ### Codes (R194) -/

theorem ofCode_code (r : Request) : Request.ofCode r.code = some r := by cases r <;> rfl

theorem code_of_ofCode {n : Nat} {r : Request} (named : Request.ofCode n = some r) : r.code = n :=
  beq_iff_eq.mp (List.find?_some (p := fun r : Request => r.code == n) named)

theorem ofCode_none {n : Nat} (unnamed : ∀ r : Request, r.code ≠ n) : Request.ofCode n = none :=
  List.find?_eq_none.mpr fun r _ => by rw [beq_iff_eq]; exact unnamed r

theorem code_lt (r : Request) : r.code < 256 := by cases r <;> decide
theorem length_le (r : Request) : r.length ≤ 15 := by cases r <;> decide

theorem requestOf_commandOf (p : Port) (order : Nat) (fr : Framing) (l : List Byte) (r : Request) :
    requestOf (commandOf p order fr l r) = some (p, r, fr) := by
  cases r <;> rfl

/-! ### Commands to frames and back -/

/-- R180: a request's payload lies within the first 32 bytes. -/
theorem payload_in_frame (n : Byte) {r : Request} {payload : List Byte} (fits : payload.length = r.length) :
    ((n :: payload).take (Config.frameBytes - 1)).drop 1 = payload := by
  have few := length_le r
  have room : Config.frameBytes - 1 = 30 + 1 := rfl
  rw [room, List.take_succ_cons, List.drop_one, List.tail_cons, List.take_of_length_le (by omega)]

/-- R194: a frame that fits reads as the request of its code, with the parameters that its payload spells. -/
theorem decodeFrame_frameOf (p : Port) (order : Nat) (r : Request) (payload : List Byte) (fits : payload.length = r.length) :
    decodeFrame p order (BitVec.ofNat 8 r.code :: BitVec.ofNat 8 r.length :: payload)
      = some (commandOf p order (Framing.ofLength r.length) payload r) := by
  have few := length_le r
  have code : (BitVec.ofNat 8 r.code).toNat = r.code := by rw [BitVec.toNat_ofNat]; exact Nat.mod_eq_of_lt (code_lt r)
  have lengthByte : (BitVec.ofNat 8 r.length).toNat = r.length := by rw [BitVec.toNat_ofNat]; omega
  have carried : min payload.length (Config.frameBytes - 2) = r.length := by
    have room : Config.frameBytes - 2 = 30 := rfl
    omega
  have framing : framingOf r (BitVec.ofNat 8 r.length :: payload) = Framing.ofLength r.length := by
    simp [framingOf, lengthByte, carried]
  simp only [decodeFrame, code, ofCode_code, framing, payload_in_frame _ fits]

/-- A request that spells its payload, and whose parameters the payload gives back, makes the round trip. -/
theorem roundTrip_of {i : Instr} {p : Port} {r : Request} {payload : List Byte} (encodes : encodeFrame i = frameOf r payload)
    (fits : payload.length = r.length) (reads : commandOf p (orderOf i) (Framing.ofLength r.length) payload r = i) :
    ∃ bytes, encodeFrame i = some bytes ∧ bytes.length = 2 + r.length ∧ bytes.length ≤ 32
      ∧ bytes.head? = some (BitVec.ofNat 8 r.code) ∧ decodeFrame p (orderOf i) bytes = some i := by
  have few := length_le r
  refine ⟨BitVec.ofNat 8 r.code :: BitVec.ofNat 8 r.length :: payload, encodes, ?_, ?_, rfl, ?_⟩
  · rw [List.length_cons, List.length_cons]; omega
  · rw [List.length_cons, List.length_cons]; omega
  · rw [decodeFrame_frameOf p _ r payload fits, reads]

theorem fitsByte_iff (n : Nat) : fitsByte n = true ↔ n < 256 ^ 1 := decide_eq_true_iff
theorem fitsTwo_iff (n : Nat) : fitsTwo n = true ↔ n < 256 ^ 2 := decide_eq_true_iff
theorem fitsFour_iff (n : Nat) : fitsFour n = true ↔ n < 256 ^ 4 := decide_eq_true_iff
theorem fitsSigned_iff (i : Int) : fitsSigned i = true ↔ -128 ≤ i ∧ i < 128 := by
  rw [fitsSigned, Bool.and_eq_true, decide_eq_true_iff, decide_eq_true_iff]

/-- R197: a step record that fits its bytes reads back from them. -/
theorem rawStepAt_rawStepBytes (slot : Nat) {r : RawStep} (wf : r.wf = true) :
    rawStepAt (bytesOf 1 slot ++ rawStepBytes r) 1 = r := by
  simp only [RawStep.wf, Bool.and_eq_true, fitsByte_iff, fitsTwo_iff, fitsSigned_iff] at wf
  obtain ⟨⟨⟨⟨⟨⟨⟨⟨kind, current⟩, volt⟩, endCurrent⟩, duration⟩, timeout⟩, cold⟩, hot⟩, next⟩ := wf
  show RawStep.mk (numberOf (bytesOf 1 r.kind)) (numberOf (bytesOf 2 r.current)) (numberOf (bytesOf 2 r.volt))
    (numberOf (bytesOf 2 r.endCurrent)) (numberOf (bytesOf 2 r.duration)) (numberOf (bytesOf 2 r.timeout))
    (signedByte (BitVec.ofNat 8 (r.cold % (256 ^ 1 : Nat)).toNat)) (signedByte (BitVec.ofNat 8 (r.hot % (256 ^ 1 : Nat)).toNat))
    (numberOf (bytesOf 1 r.next)) = r
  rw [numberOf_field kind, numberOf_field current, numberOf_field volt, numberOf_field endCurrent, numberOf_field duration,
    numberOf_field timeout, numberOf_field next, signedByte_field cold, signedByte_field hot]

/-- R194: every well-formed request reads back from the frame that it spells. -/
theorem request_roundTrip {i : Instr} {p : Port} {r : Request} (spells : requestOf i = some (p, r, Framing.ofLength r.length))
    (wf : i.wf = true) :
    ∃ bytes, encodeFrame i = some bytes ∧ bytes.length = 2 + r.length ∧ bytes.length ≤ 32
      ∧ bytes.head? = some (BitVec.ofNat 8 r.code) ∧ decodeFrame p (orderOf i) bytes = some i := by
  cases i with
  | statusRead q fr => cases spells; exact roundTrip_of rfl rfl rfl
  | noticeRead q fr => cases spells; exact roundTrip_of rfl rfl rfl
  | noticeMask q fr mask =>
    cases spells
    simp only [Instr.wf, Bool.and_eq_true, fitsTwo_iff] at wf
    refine roundTrip_of rfl rfl ?_
    show Instr.noticeMask p _ (numberOf (bytesOf 2 mask)) = _
    rw [numberOf_field wf.2]
  | portReset q fr order => cases spells; exact roundTrip_of rfl rfl rfl
  | claim q fr cls requested floor =>
    cases spells
    simp only [Instr.wf, Bool.and_eq_true, fitsByte_iff, fitsTwo_iff] at wf
    obtain ⟨⟨⟨-, hcls⟩, hrequested⟩, hfloor⟩ := wf
    refine roundTrip_of rfl rfl ?_
    show Instr.claim p _ (numberOf (bytesOf 1 cls)) (numberOf (bytesOf 2 requested)) (numberOf (bytesOf 2 floor)) = _
    rw [numberOf_field hcls, numberOf_field hrequested, numberOf_field hfloor]
  | amend q fr id requested floor =>
    cases spells
    simp only [Instr.wf, Bool.and_eq_true, fitsByte_iff, fitsTwo_iff] at wf
    obtain ⟨⟨⟨-, hid⟩, hrequested⟩, hfloor⟩ := wf
    refine roundTrip_of rfl rfl ?_
    show Instr.amend p _ (numberOf (bytesOf 1 id)) (numberOf (bytesOf 2 requested)) (numberOf (bytesOf 2 floor)) = _
    rw [numberOf_field hid, numberOf_field hrequested, numberOf_field hfloor]
  | release q fr id =>
    cases spells
    simp only [Instr.wf, Bool.and_eq_true, fitsByte_iff] at wf
    refine roundTrip_of rfl rfl ?_
    show Instr.release p _ (numberOf (bytesOf 1 id)) = _
    rw [numberOf_field wf.2]
  | claimRead q fr id =>
    cases spells
    simp only [Instr.wf, Bool.and_eq_true, fitsByte_iff] at wf
    refine roundTrip_of rfl rfl ?_
    show Instr.claimRead p _ (numberOf (bytesOf 1 id)) = _
    rw [numberOf_field wf.2]
  | ceilPush q fr ceiling =>
    cases spells
    simp only [Instr.wf, Bool.and_eq_true, fitsFour_iff] at wf
    refine roundTrip_of rfl rfl ?_
    show Instr.ceilPush p _ (numberOf (bytesOf 4 ceiling)) = _
    rw [numberOf_field wf.2]
  | ceilPop q fr => cases spells; exact roundTrip_of rfl rfl rfl
  | hold q fr => cases spells; exact roundTrip_of rfl rfl rfl
  | unhold q fr order => cases spells; exact roundTrip_of rfl rfl rfl
  | chStart q fr cell slot =>
    cases spells
    simp only [Instr.wf, Bool.and_eq_true, fitsByte_iff] at wf
    obtain ⟨⟨-, hcell⟩, hslot⟩ := wf
    refine roundTrip_of rfl rfl ?_
    show Instr.chStart p _ (numberOf (bytesOf 1 cell)) (numberOf (bytesOf 1 slot)) = _
    rw [numberOf_field hcell, numberOf_field hslot]
  | chStop q fr cell =>
    cases spells
    simp only [Instr.wf, Bool.and_eq_true, fitsByte_iff] at wf
    refine roundTrip_of rfl rfl ?_
    show Instr.chStop p _ (numberOf (bytesOf 1 cell)) = _
    rw [numberOf_field wf.2]
  | stepWrite q fr slot raw =>
    cases spells
    simp only [Instr.wf, Bool.and_eq_true, fitsByte_iff] at wf
    obtain ⟨⟨-, hslot⟩, hraw⟩ := wf
    refine roundTrip_of rfl rfl ?_
    show Instr.stepWrite p _ (numberOf (bytesOf 1 slot)) (rawStepAt (bytesOf 1 slot ++ rawStepBytes raw) 1) = _
    rw [numberOf_field hslot, rawStepAt_rawStepBytes slot hraw]
  | stepRead q fr slot =>
    cases spells
    simp only [Instr.wf, Bool.and_eq_true, fitsByte_iff] at wf
    refine roundTrip_of rfl rfl ?_
    show Instr.stepRead p _ (numberOf (bytesOf 1 slot)) = _
    rw [numberOf_field wf.2]
  | balQueue q fr direction mode count rate tolerance =>
    cases spells
    simp only [Instr.wf, Bool.and_eq_true, fitsByte_iff, fitsTwo_iff] at wf
    obtain ⟨⟨⟨⟨⟨-, hdirection⟩, hmode⟩, hcount⟩, hrate⟩, htolerance⟩ := wf
    refine roundTrip_of rfl rfl ?_
    show Instr.balQueue p _ (numberOf (bytesOf 1 direction)) (numberOf (bytesOf 1 mode)) (numberOf (bytesOf 2 count))
      (numberOf (bytesOf 2 rate)) (numberOf (bytesOf 1 tolerance)) = _
    rw [numberOf_field hdirection, numberOf_field hmode, numberOf_field hcount, numberOf_field hrate, numberOf_field htolerance]
  | balCancel q fr tag =>
    cases spells
    simp only [Instr.wf, Bool.and_eq_true, fitsByte_iff] at wf
    refine roundTrip_of rfl rfl ?_
    show Instr.balCancel p _ (numberOf (bytesOf 1 tag)) = _
    rw [numberOf_field wf.2]
  | contractSet q fr voltage current =>
    cases spells
    simp only [Instr.wf, Bool.and_eq_true, fitsTwo_iff] at wf
    obtain ⟨⟨-, hvoltage⟩, hcurrent⟩ := wf
    refine roundTrip_of rfl rfl ?_
    show Instr.contractSet p _ (numberOf (bytesOf 2 voltage)) (numberOf (bytesOf 2 current)) = _
    rw [numberOf_field hvoltage, numberOf_field hcurrent]
  | inputRelease q fr => cases spells; exact roundTrip_of rfl rfl rfl
  | inputResume q fr => cases spells; exact roundTrip_of rfl rfl rfl
  | faultClear q fr target =>
    cases spells
    simp only [Instr.wf, Bool.and_eq_true, fitsByte_iff] at wf
    refine roundTrip_of rfl rfl ?_
    show Instr.faultClear p _ (numberOf (bytesOf 1 target)) = _
    rw [numberOf_field wf.2]
  | shipEnter q fr => cases spells; exact roundTrip_of rfl rfl rfl
  | deviceReset q fr => cases spells; exact roundTrip_of rfl rfl rfl
  | _ => cases spells

/-! ### Every write transaction is a command that spells its bytes -/

/-- A payload is put together from its fields: the bytes up to a place, and the field that follows. -/
theorem take_append_field {l : List Byte} {o n : Nat} (within : o + n ≤ l.length) :
    l.take o ++ bytesOf n (fieldAt l o n) = l.take (o + n) := by
  rw [bytesOf_fieldAt within, List.take_add]

theorem take_append_signed {l : List Byte} {o : Nat} (within : o + 1 ≤ l.length) :
    l.take o ++ signedBytesOf 1 (signedAt l o) = l.take (o + 1) := by
  rw [signedBytesOf_signedAt within, List.take_add]

theorem first_field {l : List Byte} {n : Nat} (within : n ≤ l.length) : bytesOf n (fieldAt l 0 n) = l.take n :=
  bytesOf_fieldAt (by omega)

/-- R197: the step record that follows the slot in STEP_WRITE's payload. -/
theorem slot_append_rawStep {l : List Byte} (fits : l.length = 15) :
    bytesOf 1 (fieldAt l 0 1) ++ rawStepBytes (rawStepAt l 1) = l := by
  have whole : l.take 15 = l := List.take_of_length_le (by omega)
  simp only [rawStepBytes, rawStepAt, ← List.append_assoc]
  rw [first_field (by omega), take_append_field (by omega), take_append_field (by omega), take_append_field (by omega),
    take_append_field (by omega), take_append_field (by omega), take_append_field (by omega), take_append_signed (by omega),
    take_append_signed (by omega), take_append_field (by omega), whole]

/-- R194: the parameters of a request, written again, are the payload that they were read from. -/
theorem encodeFrame_commandOf (p : Port) (order : Nat) (fr : Framing) {l : List Byte} (r : Request) (fits : l.length = r.length) :
    encodeFrame (commandOf p order fr l r) = frameOf r l := by
  have whole : l.take r.length = l := List.take_of_length_le fits.le
  have empty (none : r.length = 0) : [] = l := (List.length_eq_zero_iff.mp (fits.trans none)).symm
  have single {n : Nat} (one : r.length = n) : bytesOf n (fieldAt l 0 n) = l := by
    rw [first_field (by omega), ← one, whole]
  cases r with
  | statusRead => exact congrArg (frameOf .statusRead) (empty rfl)
  | noticeRead => exact congrArg (frameOf .noticeRead) (empty rfl)
  | noticeMask => exact congrArg (frameOf .noticeMask) (single rfl)
  | portReset => exact congrArg (frameOf .portReset) (empty rfl)
  | claim =>
    change l.length = 5 at fits
    change l.take 5 = l at whole
    simp only [commandOf, encodeFrame]
    rw [first_field (by omega), take_append_field (by omega), take_append_field (by omega), whole]
  | amend =>
    change l.length = 5 at fits
    change l.take 5 = l at whole
    simp only [commandOf, encodeFrame]
    rw [first_field (by omega), take_append_field (by omega), take_append_field (by omega), whole]
  | release => exact congrArg (frameOf .release) (single rfl)
  | claimRead => exact congrArg (frameOf .claimRead) (single rfl)
  | ceilPush => exact congrArg (frameOf .ceilPush) (single rfl)
  | ceilPop => exact congrArg (frameOf .ceilPop) (empty rfl)
  | hold => exact congrArg (frameOf .hold) (empty rfl)
  | unhold => exact congrArg (frameOf .unhold) (empty rfl)
  | chStart =>
    change l.length = 2 at fits
    change l.take 2 = l at whole
    simp only [commandOf, encodeFrame]
    rw [first_field (by omega), take_append_field (by omega), whole]
  | chStop => exact congrArg (frameOf .chStop) (single rfl)
  | stepWrite => exact congrArg (frameOf .stepWrite) (slot_append_rawStep fits)
  | stepRead => exact congrArg (frameOf .stepRead) (single rfl)
  | balQueue =>
    change l.length = 7 at fits
    change l.take 7 = l at whole
    simp only [commandOf, encodeFrame]
    rw [first_field (by omega), take_append_field (by omega), take_append_field (by omega), take_append_field (by omega),
      take_append_field (by omega), whole]
  | balCancel => exact congrArg (frameOf .balCancel) (single rfl)
  | contractSet =>
    change l.length = 4 at fits
    change l.take 4 = l at whole
    simp only [commandOf, encodeFrame]
    rw [first_field (by omega), take_append_field (by omega), whole]
  | inputRelease => exact congrArg (frameOf .inputRelease) (empty rfl)
  | inputResume => exact congrArg (frameOf .inputResume) (empty rfl)
  | faultClear => exact congrArg (frameOf .faultClear) (single rfl)
  | shipEnter => exact congrArg (frameOf .shipEnter) (empty rfl)
  | deviceReset => exact congrArg (frameOf .deviceReset) (empty rfl)

/-- R180, R194: the framing that reads from a frame spells the bytes after the code, where it does not fit. -/
theorem framingOf_written {r : Request} {written : List Byte} (misfit : Machine.Framing.fits (framingOf r written) r = false) :
    (framingOf r written).written = written := by
  cases written with
  | nil => rfl
  | cons n payload =>
    unfold framingOf at misfit ⊢
    dsimp only at misfit ⊢
    split at misfit
    · simp [Machine.Framing.fits, Framing.ofLength] at misfit
    · rw [if_neg ‹_›]
      have byte : BitVec.ofNat 8 n.toNat = n := BitVec.eq_of_toNat_eq (by rw [BitVec.toNat_ofNat]; omega)
      show BitVec.ofNat 8 n.toNat :: payload = n :: payload
      rw [byte]

/-- R180, R194: a framing that fits was read from a length byte and exactly the request's payload. -/
theorem framingOf_fits {r : Request} {written : List Byte} (fit : Machine.Framing.fits (framingOf r written) r = true) :
    ∃ payload, written = BitVec.ofNat 8 r.length :: payload ∧ payload.length = r.length := by
  cases written with
  | nil => simp [framingOf, Machine.Framing.fits] at fit
  | cons n payload =>
    have few := length_le r
    have carried : n.toNat = r.length ∧ min payload.length (Config.frameBytes - 2) = r.length := by
      unfold framingOf at fit
      dsimp only at fit
      split at fit
      next both => rwa [Bool.and_eq_true, decide_eq_true_iff, decide_eq_true_iff] at both
      next => simpa [Machine.Framing.fits] using fit
    have room : Config.frameBytes - 2 = 30 := rfl
    refine ⟨payload, ?_, by omega⟩
    rw [← carried.1]
    exact congrArg (· :: payload) (BitVec.eq_of_toNat_eq (by rw [BitVec.toNat_ofNat]; omega))

/-- R180, R194: what a frame of a request's code reads as spells the frame again. -/
theorem writtenBytes_commandOf (p : Port) (order : Nat) (r : Request) (written : List Byte) :
    writtenBytes (commandOf p order (framingOf r written) ((written.take (Config.frameBytes - 1)).drop 1) r)
      = BitVec.ofNat 8 r.code :: written := by
  rw [writtenBytes, requestOf_commandOf]
  dsimp only
  by_cases fit : Machine.Framing.fits (framingOf r written) r = true
  · rw [if_pos fit]
    obtain ⟨payload, rfl, length⟩ := framingOf_fits fit
    rw [payload_in_frame _ length, encodeFrame_commandOf p order _ r length]
    rfl
  · rw [if_neg fit, framingOf_written (Bool.not_eq_true _ ▸ fit)]
    rfl

/-- Settles O2: requests by `request_roundTrip`, every other write transaction by what `decodeFrame` reads it as. -/
theorem frameRoundTrip : Obligations.FrameRoundTrip := by
  refine ⟨fun i p r spells wf => request_roundTrip spells wf, fun p order code rest unnamed => ?_, fun p order bytes given => ?_⟩
  · simp only [decodeFrame, ofCode_none unnamed]
  · obtain ⟨code, written, rfl⟩ := List.exists_cons_of_ne_nil given
    cases named : Request.ofCode code.toNat with
    | none =>
      exact ⟨_, by simp only [decodeFrame, named], .inr ⟨_, rfl⟩, rfl⟩
    | some r =>
      have byte : BitVec.ofNat 8 r.code = code := by
        rw [code_of_ofCode named]
        exact BitVec.eq_of_toNat_eq (by rw [BitVec.toNat_ofNat]; omega)
      refine ⟨commandOf p order (framingOf r written) ((written.take (Config.frameBytes - 1)).drop 1) r,
        by simp only [decodeFrame, named], .inl ⟨r, _, requestOf_commandOf p order _ _ r⟩, ?_⟩
      rw [writtenBytes_commandOf, byte]

end Sys2Proof
end

section
/-! The status record (R188, R196): its fields in their order, and O7. -/

namespace Sys2Proof.Machine

/-! ### Fields put one after the other -/

/-- The offsets of fields that follow one another from the offset o on. -/
def placed : Nat → List (List Byte) → List (Nat × List Byte)
  | _, [] => []
  | o, f :: fs => (o, f) :: placed (o + f.length) fs

theorem carriesAt_append_self (front f back : List Byte) : CarriesAt (front ++ (f ++ back)) (front.length, f) := by
  rw [CarriesAt, List.drop_left, List.take_left]

/-- A record carries each of its fields at the offset that the lengths before it give. -/
theorem carriesAt_placed (fields : List (List Byte)) : ∀ front : List Byte,
    ∀ x ∈ placed front.length fields, CarriesAt (front ++ fields.flatten) x := by
  induction fields with
  | nil => exact fun front x h => absurd h List.not_mem_nil
  | cons f fs ih =>
    intro front x h
    rw [List.flatten_cons]
    rcases List.mem_cons.mp h with rfl | later
    · exact carriesAt_append_self front f _
    · rw [← List.append_assoc]
      exact ih (front ++ f) x (by rwa [List.length_append])

theorem carriesAt_of_prefix {record f g : List Byte} {o : Nat} (h : CarriesAt record (o, f ++ g)) : CarriesAt record (o, f) := by
  unfold CarriesAt at h ⊢
  have front := congrArg (List.take f.length) h
  rw [List.take_take, List.length_append, Nat.min_eq_left (Nat.le_add_right _ _), List.take_left] at front
  exact front

theorem placed_append (a b : List (List Byte)) : ∀ o, placed o (a ++ b) = placed o a ++ placed (o + a.flatten.length) b := by
  induction a with
  | nil => exact fun o => rfl
  | cons f fs ih =>
    intro o
    rw [List.cons_append, placed, placed, ih, List.flatten_cons, List.length_append, Nat.add_assoc, List.cons_append]

/-! ### The sections of the record (R196) -/

/-- Offsets 0 to 19. -/
def openingFields (was : PowerState) (p : Port) (s : State) : List (List Byte) :=
  [ bytesOf 1 was.code, bytesOf 1 (bitsOf [s.ports.main.dormant, s.ports.hub.dormant, s.ports.input.dormant]),
    bytesOf 2 (s.port p).notices.toNat, bytesOf 2 (s.port p).mask.toNat, bytesOf 2 s.sample.vA, bytesOf 2 s.sample.vB,
    signedBytesOf 2 s.sample.iA, signedBytesOf 2 s.sample.iB, signedBytesOf 2 s.sample.tA, signedBytesOf 2 s.sample.tB,
    bytesOf 2 s.sample.vIn ]

/-- Offsets 21 to 82. -/
def figureFields (s : State) : List (List Byte) :=
  [ bytesOf 2 s.sample.linkCurrent, bytesOf 2 s.sample.linkCharge, bytesOf 1 s.input.state.code,
    bytesOf 2 s.input.inForce.voltage, bytesOf 2 s.input.inForce.current,
    bytesOf 1 (bitsOf [s.input.held.isSome, s.input.pendingContract.isSome, s.input.recovery.isSome]),
    bytesOf 2 s.input.droopLimit, bytesOf 1 (s.input.requester.elim 0 portCode), bytesOf 1 s.ceilings.length,
    ceilingBytes (effectiveCeiling s.ceilings), bytesOf 1 s.prot.thermal.code, bytesOf 1 s.prot.thermal.degrees,
    bytesOf 2 s.alloc.record.count, bytesOf 4 s.alloc.record.pConv, bytesOf 4 s.alloc.record.pBud,
    bytesOf 1 s.alloc.record.limit.code, bytesOf 2 s.alloc.record.essential, bytesOf 2 s.alloc.record.deficit,
    bytesOf 4 s.alloc.record.elective, bytesOf 4 s.alloc.record.pChg, bytesOf 4 s.alloc.record.gA, bytesOf 4 s.alloc.record.gB,
    bytesOf 2 s.alloc.record.cA, bytesOf 2 s.alloc.record.cB,
    bytesOf 1 (bitsOf [s.alloc.record.starvedA, s.alloc.record.starvedB, s.alloc.record.supply]),
    bytesOf 2 s.alloc.record.sA, bytesOf 2 s.alloc.record.sB, bytesOf 2 s.alloc.record.shortfall ]

/-- The 13 bytes of a channel. -/
def channelFields (profile : List StepRecord) (request : Bool) (ch : Channel) : List (List Byte) :=
  [ bytesOf 1 ch.state.code, slotBytes ch.slot, slotBytes (ch.slot.map fun n => (recordAt profile n).kind.code),
    bytesOf 4 ch.timer, bytesOf 1 ch.run, bytesOf 1 ch.reasons.bits, bytesOf 1 ch.code.code, bytesOf 2 ch.presented,
    bytesOf 1 request.toNat ]

/-- Offsets 109 to 118. -/
def linkFields (s : State) : List (List Byte) :=
  [ bytesOf 1 s.arb.link.code, bytesOf 1 (requesterCode s.arb.holder), bytesOf 1 s.arb.waiting.bits,
    bytesOf 1 (requesterCode s.arb.lastPair),
    bytesOf 1 (bitsOf [s.arb.tenureExpired, s.arb.yieldPending, s.arb.backoffChargeB.isSome, s.arb.backoffBalance.isSome,
      s.arb.faultLock]),
    bytesOf 1 s.hold.state.code,
    bytesOf 1 (bitsOf [s.hold.holders.main.joined, s.hold.holders.hub.joined, s.hold.holders.input.joined]),
    bytesOf 1 s.prot.cellA.bits, bytesOf 1 s.prot.cellB.bits, bytesOf 1 s.prot.device.bits ]

/-- Offsets 121 to 133: the length of the queue and its entries. -/
def queueFields (q : List Job) : List (List Byte) :=
  [bytesOf 1 q.length, jobLayout q 0, jobLayout q 1, jobLayout q 2, jobLayout q 3]

/-- Offsets 134 to 145. -/
def headFields : List Job → List (List Byte)
  | [] => [List.replicate 12 0]
  | j :: _ =>
    [ bytesOf 1 j.direction.code, slotBytes (j.resolved.map Way.code), bytesOf 1 j.mode.code, bytesOf 2 j.count, bytesOf 2 j.rate,
      bytesOf 1 (j.tolerance.getD 0), bytesOf 2 j.moved, bytesOf 2 j.residue ]

/-- The fields of the record in their order. -/
def statusFields (was : PowerState) (p : Port) (s : State) : List (List Byte) :=
  openingFields was p s ++ ([dieByte s.sample.tDie] ++ (figureFields s ++ (channelFields s.profile false s.chA
    ++ (channelFields s.profile s.chB.request s.chB ++ (linkFields s ++ ([firstFaultBytes s.prot.first]
    ++ (queueFields s.bal.queue ++ (headFields s.bal.queue ++ [lastResultBytes (s.bal.last.get p)]))))))))

theorem jobEntries_eq (q : List Job) : jobEntries q = jobLayout q 0 ++ (jobLayout q 1 ++ (jobLayout q 2 ++ jobLayout q 3)) := by
  match q with
  | [] => rfl
  | [a] => rfl
  | [a, b] => rfl
  | [a, b, c] => rfl
  | a :: b :: c :: d :: rest => rfl

theorem headBytes_eq (q : List Job) : headBytes q = (headFields q).flatten := by
  cases q with
  | nil => rfl
  | cons j rest => simp only [headBytes, headFields, List.flatten_cons, List.flatten_nil, List.append_assoc, List.append_nil]

theorem statusRecord_eq (was : PowerState) (p : Port) (s : State) : statusRecord was p s = (statusFields was p s).flatten := by
  simp only [statusRecord, statusFields, openingFields, figureFields, channelFields, linkFields, queueFields, sampleBytes, inputBytes,
    publicationBytes, channelBytes, arbiterBytes, holdBytes, faultBytes, noticeBytes, jobEntries_eq, headBytes_eq,
    List.flatten_append, List.flatten_cons, List.flatten_nil, List.append_assoc, List.append_nil]

/-! ### Where the sections stand -/

theorem dieByte_length (t : Int) : (dieByte t).length = 1 := by
  unfold dieByte
  split <;> rfl

theorem firstFaultBytes_length (x : Option (FaultKind × FaultPlace)) : (firstFaultBytes x).length = 2 := by
  cases x <;> rfl

theorem jobLayout_length (q : List Job) (n : Nat) : (jobLayout q n).length = 3 := by
  unfold jobLayout
  split <;> rfl

theorem queueFields_length (q : List Job) : (queueFields q).flatten.length = 13 := by
  simp [queueFields, jobLayout_length, bytesOf_length]

theorem headFields_length (q : List Job) : (headFields q).flatten.length = 12 := by
  cases q <;> rfl

theorem lastResultBytes_length (r : Option LastResult) : (lastResultBytes r).length = 4 := by
  cases r <;> rfl

section
variable (was : PowerState) (p : Port) (s : State)

theorem placed_statusFields : placed 0 (statusFields was p s) = placed 0 (openingFields was p s) ++ (placed 20 [dieByte s.sample.tDie]
    ++ (placed 21 (figureFields s) ++ (placed 83 (channelFields s.profile false s.chA)
    ++ (placed 96 (channelFields s.profile s.chB.request s.chB) ++ (placed 109 (linkFields s)
    ++ (placed 119 [firstFaultBytes s.prot.first] ++ (placed 121 (queueFields s.bal.queue)
    ++ (placed 134 (headFields s.bal.queue) ++ placed 146 [lastResultBytes (s.bal.last.get p)])))))))) := by
  have opening : (openingFields was p s).flatten.length = 20 := rfl
  have figures : (figureFields s).flatten.length = 62 := rfl
  have channel (b : Bool) (ch : Channel) : (channelFields s.profile b ch).flatten.length = 13 := rfl
  have link : (linkFields s).flatten.length = 10 := rfl
  simp only [statusFields, placed_append, opening, figures, channel, link, queueFields_length, headFields_length, List.flatten_cons,
    List.flatten_nil, List.append_nil, dieByte_length, firstFaultBytes_length, Nat.zero_add, Nat.reduceAdd]

theorem statusRecord_length : (statusRecord was p s).length = 150 := by
  have opening : (openingFields was p s).flatten.length = 20 := rfl
  have figures : (figureFields s).flatten.length = 62 := rfl
  have channel (b : Bool) (ch : Channel) : (channelFields s.profile b ch).flatten.length = 13 := rfl
  have link : (linkFields s).flatten.length = 10 := rfl
  rw [statusRecord_eq]
  simp only [statusFields, List.flatten_append, List.length_append, opening, figures, channel, link, queueFields_length,
    headFields_length, List.flatten_cons, List.flatten_nil, List.append_nil, dieByte_length, firstFaultBytes_length,
    lastResultBytes_length]

/-- The record carries each of its fields where the fields before it end. -/
theorem statusRecord_carries {x : Nat × List Byte} (field : x ∈ placed 0 (statusFields was p s)) :
    CarriesAt (statusRecord was p s) x := by
  rw [statusRecord_eq]
  exact carriesAt_placed (statusFields was p s) [] x field

/-! ### The table of R196, section by section -/

theorem statusLayoutLow_eq : statusLayoutLow was p s = placed 0 (openingFields was p s) ++ placed 21 (figureFields s) := by
  have requester : bytesOf 1 (s.input.requester.elim 0 portCode)
      = bytesOf 1 (match s.input.requester with | none => 0 | some .main => 1 | some .hub => 2 | some .input => 3) := by
    rcases s.input.requester with _ | (_ | _ | _) <;> rfl
  simp only [figureFields, requester]
  rfl

theorem channelLayout_eq (o : Nat) (request : Bool) (ch : Channel) :
    (channelLayout s.profile request ch).map (fun x => (o + x.1, x.2)) = placed o (channelFields s.profile request ch) := by
  have kind : slotBytes (ch.slot.map fun n => (recordAt s.profile n).kind.code)
      = bytesOf 1 (match ch.slot with | some n => stepKindValue (s.profile.getD n StepRecord.ended).kind | none => 255) := by
    cases ch.slot <;> rfl
  simp only [channelFields, kind]
  rfl

theorem headLayout_eq (q : List Job) : headLayout q = placed 134 (headFields q) := by
  cases q with
  | nil => rfl
  | cons j rest =>
    have way : slotBytes (j.resolved.map Way.code)
        = bytesOf 1 (match j.resolved with | some .aToB => 0 | some .bToA => 1 | none => 255) := by
      rcases j.resolved with _ | (_ | _) <;> rfl
    have tolerance : j.tolerance.getD 0 = (match j.tolerance with | some n => n | none => 0) := by cases j.tolerance <;> rfl
    simp only [headFields, way, tolerance]
    rfl

/-- R196: the first fault as the table gives it; its place where none stands is open (log 25). -/
def firstFaultLayout : Option (FaultKind × FaultPlace) → List Byte
  | none => bytesOf 1 0
  | some (k, place) => bytesOf 1 (faultKindValue k) ++ bytesOf 1 (match place with | .cellA => 0 | .cellB => 1 | .device => 2)

theorem statusLayoutHigh_eq : statusLayoutHigh p s = placed 109 (linkFields s) ++ ((119, firstFaultLayout s.prot.first)
    :: (placed 121 (queueFields s.bal.queue) ++ placed 146 [lastResultBytes (s.bal.last.get p)])) := by
  have holder : bytesOf 1 (requesterCode s.arb.holder)
      = bytesOf 1 (match s.arb.link with | .held .supply => 1 | .held .chargeB => 2 | .held .balance => 3 | _ => 0) := by
    unfold Arbiter.holder
    rcases s.arb.link with _ | (_ | _ | _) | _ <;> rfl
  have lastPair : bytesOf 1 (requesterCode s.arb.lastPair)
      = bytesOf 1 (match s.arb.lastPair with | none => 0 | some .supply => 1 | some .chargeB => 2 | some .balance => 3) := by
    rcases s.arb.lastPair with _ | (_ | _ | _) <;> rfl
  have last : lastResultBytes (s.bal.last.get p) = (match s.bal.last.get p with
      | none => List.replicate 4 0
      | some r => bytesOf 1 r.tag ++ bytesOf 1 (endReasonValue r.reason) ++ bytesOf 2 r.moved) := by
    cases s.bal.last.get p <;> rfl
  have first : firstFaultLayout s.prot.first = (match s.prot.first with
      | none => bytesOf 1 0
      | some (k, place) =>
        bytesOf 1 (faultKindValue k) ++ bytesOf 1 (match place with | .cellA => 0 | .cellB => 1 | .device => 2)) := by
    rcases s.prot.first with _ | ⟨k, place⟩ <;> rfl
  have queue : placed 121 (queueFields s.bal.queue) = [(121, bytesOf 1 s.bal.queue.length), (122, jobLayout s.bal.queue 0),
      (125, jobLayout s.bal.queue 1), (128, jobLayout s.bal.queue 2), (131, jobLayout s.bal.queue 3)] := by
    simp only [queueFields, placed, jobLayout_length, bytesOf_length, Nat.reduceAdd]
  rw [queue, last, first]
  simp only [linkFields, holder, lastPair]
  rfl

/-- R196: a die temperature that one signed byte holds is in the record. -/
theorem dieLayout_placed (t : Int) : ∀ x ∈ dieLayout t, x ∈ placed 20 [dieByte t] := by
  intro x h
  unfold dieLayout at h
  split at h
  next fits =>
    have byte : dieByte t = [BitVec.ofInt 8 t] := by
      rw [dieByte, if_pos (by rw [Bool.and_eq_true, decide_eq_true_iff, decide_eq_true_iff]; exact fits)]
      refine congrArg (fun b => [b]) (BitVec.eq_of_toNat_eq ?_)
      rw [BitVec.toNat_ofNat, BitVec.toNat_ofInt]
      omega
    rw [byte]
    exact h
  next => exact absurd h List.not_mem_nil

theorem firstFault_carried : CarriesAt (statusRecord was p s) (119, firstFaultLayout s.prot.first) := by
  have carried : CarriesAt (statusRecord was p s) (119, firstFaultBytes s.prot.first) := by
    refine statusRecord_carries was p s ?_
    rw [placed_statusFields]
    simp [placed]
  cases first : s.prot.first with
  | none =>
    rw [first] at carried
    exact carriesAt_of_prefix (f := bytesOf 1 0) (g := [Config.placeOfNone]) carried
  | some x =>
    obtain ⟨k, place⟩ := x
    rw [first] at carried
    have same : firstFaultLayout (some (k, place)) = firstFaultBytes (some (k, place)) := by cases k <;> cases place <;> rfl
    rw [same]
    exact carried

/-- R196: the record carries every field of the table at its offset. -/
theorem statusRecord_layout : ∀ x ∈ statusLayout was p s, CarriesAt (statusRecord was p s) x := by
  intro x h
  have high := statusLayoutHigh_eq p s
  have channelA := channelLayout_eq s 83 false s.chA
  have channelB := channelLayout_eq s 96 s.chB.request s.chB
  rw [statusLayout, statusLayoutLow_eq, channelA, channelB, high, headLayout_eq] at h
  by_cases first : x = (119, firstFaultLayout s.prot.first)
  · rw [first]
    exact firstFault_carried was p s
  · refine statusRecord_carries was p s ?_
    have die := dieLayout_placed s.sample.tDie x
    rw [placed_statusFields]
    simp only [List.mem_append, List.mem_cons, first, false_or] at h ⊢
    tauto

end

/-- Settles O7: the request hands the record, whose layout is `statusRecord_layout`. -/
theorem statusReadReports : Obligations.StatusReadReports := by
  intro s p hands u record
  refine ⟨?_, statusRecord_length s.power.state p u, statusRecord_layout s.power.state p u⟩
  rw [exec_handed (r := .statusRead) rfl s hands rfl]
  exact congrArg Host.Outcome.next (handReply_eq_withReply p _ _ _)

end Sys2Proof.Machine
end

section
/-! What a request leaves to the other ports (R179, R189), and O6. -/

namespace Sys2Proof.Machine

/-- Between s and t port q keeps its slot, reply, mask and dormancy, its part in the hold, its claims and its ceilings. -/
structure KeepsPort (q : Port) (s t : State) : Prop where
  port : (t.port q).quiet = (s.port q).quiet
  holder : (t.holder q).quiet = (s.holder q).quiet
  claims : t.table.claims.filter (Claim.ownedBy q) = s.table.claims.filter (Claim.ownedBy q)
  ceilings : t.ceilings.filter (fun e => e.owner == q) = s.ceilings.filter (fun e => e.owner == q)

namespace KeepsPort
variable {q : Port} {s t u : State}

theorem refl (s : State) : KeepsPort q s s := ⟨rfl, rfl, rfl, rfl⟩

theorem trans (h : KeepsPort q s t) (k : KeepsPort q t u) : KeepsPort q s u :=
  ⟨k.port.trans h.port, k.holder.trans h.holder, k.claims.trans h.claims, k.ceilings.trans h.ceilings⟩

/-- Reactions of the blocks reach no port's holdings. -/
theorem of_keeps (h : Keeps s t) : KeepsPort q s t :=
  ⟨h.port q, h.holder q, by rw [h.table], by rw [h.ceilings]⟩

theorem of_fields (ports : t.ports = s.ports) (hold : t.hold = s.hold) (table : t.table = s.table)
    (ceilings : t.ceilings = s.ceilings) : KeepsPort q s t :=
  ⟨by rw [State.port, ports]; rfl, by rw [State.holder, hold]; rfl, by rw [table], by rw [ceilings]⟩

theorem setPort {p : Port} (other : q ≠ p) (s : State) (x : PortState) : KeepsPort q s (s.setPort p x) :=
  ⟨by rw [setPort_port_other s other], rfl, rfl, rfl⟩

theorem setHolder {p : Port} (other : q ≠ p) (s : State) (x : Holder) : KeepsPort q s (s.setHolder p x) :=
  ⟨rfl, congrArg Holder.quiet (PerPort.get_set_other s.hold.holders other x), rfl, rfl⟩

theorem handReply {p : Port} (other : q ≠ p) (code : ReplyCode) (payload : List Byte) (h : KeepsPort q s t) :
    KeepsPort q s (handReply p code payload t) := h.trans (setPort other t _)

theorem trigger (h : KeepsPort q s t) : KeepsPort q s (trigger t) := h.trans (of_keeps (trigger_outer t))

theorem setTable {x : ClaimTable} (claims : x.claims.filter (Claim.ownedBy q) = s.table.claims.filter (Claim.ownedBy q)) :
    KeepsPort q s (s.setTable x) := ⟨rfl, rfl, claims, rfl⟩

theorem handLimit (h : KeepsPort q s t) : KeepsPort q s (handLimit t) :=
  h.trans (by rw [handLimit_eq t]; exact of_fields rfl rfl rfl rfl)

end KeepsPort

section
variable {p q : Port} (other : q ≠ p)
include other

/-! ### Taking a frame -/

theorem claims_wake (l : List Claim) : (l.map (Claim.wake p)).filter (Claim.ownedBy q) = l.filter (Claim.ownedBy q) := by
  have foreign : ∀ c ∈ l.filter (Claim.ownedBy q), Claim.wake p c = c := by
    intro c held
    have owner := (c.ownedBy_iff q).mp (List.mem_filter.mp held).2
    have not_own : c.ownedBy p = false := by
      rw [← Bool.not_eq_true, c.ownedBy_iff, owner]
      exact fun same => other (Owner.port.inj same)
    rw [Claim.wake, not_own]
    rfl
  have same : Claim.ownedBy q ∘ Claim.wake p = Claim.ownedBy q := by
    funext c
    show Claim.ownedBy q (Claim.wake p c) = _
    unfold Claim.wake
    split <;> rfl
  rw [List.filter_map, same]
  exact (List.map_congr_left foreign).trans (List.map_id _)

theorem fillSlot_keepsPort (written : List Byte) (s : State) : KeepsPort q s (fillSlot p written s) := .setPort other s _

theorem handedOver_keepsPort (i : Instr) (s : State) : KeepsPort q s (handedOver p i s) := by
  have filled := (fillSlot_keepsPort other (writtenBytes i) s).trans (.setPort other _
    { (fillSlot p (writtenBytes i) s).port p with dormant := false, dormancy := (fillSlot p (writtenBytes i) s).dormancyFrom })
  have woken : KeepsPort q s (wakePort p (fillSlot p (writtenBytes i) s)) := by
    rw [wakePort]
    split
    · exact (filled.trans (.setTable (claims_wake other _))).trigger
    · exact filled
  exact woken.trans (.of_keeps (leaveMonitor_outer _))

/-! ### The claim table and the ceiling stack -/

omit other in
/-- R189: filtering a list for another port's holdings does not see what was taken out for a reason that spares them. -/
theorem filter_spares {α : Type} {own keep : α → Bool} {l : List α} (spares : ∀ x ∈ l, own x = true → keep x = true) :
    (l.filter keep).filter own = l.filter own := by
  rw [List.filter_filter]
  refine List.filter_congr fun x hx => ?_
  cases owned : own x with
  | false => rfl
  | true => rw [spares x hx owned]; rfl

omit other in
theorem not_internal_of_ownedBy {c : Claim} (owned : c.ownedBy q = true) : (c.owner != .internal) = true := by
  rw [(c.ownedBy_iff q).mp owned]
  rfl

theorem not_ownedBy_of_ownedBy {c : Claim} (owned : c.ownedBy q = true) : c.ownedBy p = false := by
  rw [← Bool.not_eq_true, c.ownedBy_iff, (c.ownedBy_iff q).mp owned]
  exact fun same => other (Owner.port.inj same)

theorem admitClaim_keepsPort (cls : ClaimClass) (amount floor : Nat) (s : State) :
    KeepsPort q s (admitClaim p cls amount floor s) := by
  refine ((KeepsPort.setTable ?_).trigger).handReply other _ _
  have own (base : List Claim) : (newClaim p cls amount floor s.table.nextAdmission base).ownedBy q = false := by
    rw [← Bool.not_eq_true, Claim.ownedBy_iff]
    exact fun same => other (Owner.port.inj same).symm
  rw [List.filter_append, List.filter_singleton, own, cond_false, List.append_nil, claimBase_eq]
  split
  · exact filter_spares fun c _ owned => not_internal_of_ownedBy owned
  · rfl

theorem takeClaim_keepsPort (cls requested floor : Nat) (s : State) : KeepsPort q s (takeClaim p cls requested floor s) := by
  have refused (code : ReplyCode) : KeepsPort q s (refuse p code s) := (KeepsPort.refl s).handReply other _ _
  unfold takeClaim
  split
  · exact refused _
  · split
    · exact refused _
    · split
      · exact refused _
      · exact admitClaim_keepsPort other _ _ _ s

/-- R17: another port's claim does not stand in the slot of a claim of port p. -/
theorem other_id {l : List Claim} (once : (l.map Claim.id).Nodup) {c d : Claim} (hc : c ∈ l) (own : c.ownedBy p = true) (hd : d ∈ l)
    (owned : d.ownedBy q = true) : d.id ≠ c.id := by
  intro same
  have equal : d = c := List.inj_on_of_nodup_map once hd hc same
  have foreign := not_ownedBy_of_ownedBy other owned
  rw [equal, own] at foreign
  contradiction

theorem amendList_keepsPort {l : List Claim} (once : (l.map Claim.id).Nodup) {c : Claim} (hc : c ∈ l) (own : c.ownedBy p = true)
    (amount floor : Nat) : (amendList l c amount floor).filter (Claim.ownedBy q) = l.filter (Claim.ownedBy q) := by
  have foreign : ({ c with requested := amount, floor := floor } : Claim).ownedBy q = false :=
    not_ownedBy_of_ownedBy (Ne.symm other) own
  have elsewhere : ∀ d ∈ l, d.ownedBy q = true → (d.id != c.id) = true := fun d hd owned =>
    bne_iff_ne.mpr (other_id other once hc own hd owned)
  unfold amendList
  dsimp only
  split
  · rw [List.filter_append, List.filter_singleton, foreign, filter_spares elsewhere]
    exact List.append_nil _
  · have same : ∀ d ∈ l, Claim.ownedBy q (if d.id == c.id then { c with requested := amount, floor := floor } else d)
        = Claim.ownedBy q d := by
      intro d hd
      split
      next at_ =>
        rw [foreign]
        refine (Bool.eq_false_iff.mpr fun owned => ?_).symm
        exact absurd (beq_iff_eq.mp at_) (other_id other once hc own hd owned)
      next => rfl
    rw [List.filter_map, show l.filter (Claim.ownedBy q ∘ _) = l.filter (Claim.ownedBy q) from List.filter_congr same]
    refine (List.map_congr_left fun d hd => ?_).trans (List.map_id _)
    obtain ⟨hd, owned⟩ := List.mem_filter.mp hd
    exact if_neg (by rw [beq_iff_eq]; exact other_id other once hc own hd owned)

theorem takeAmend_keepsPort (id requested floor : Nat) {s : State} (once : (s.table.claims.map Claim.id).Nodup) :
    KeepsPort q s (takeAmend p id requested floor s) := by
  have refused (code : ReplyCode) : KeepsPort q s (refuse p code s) := (KeepsPort.refl s).handReply other _ _
  unfold takeAmend
  split
  · exact refused _
  · split
    · exact refused _
    next c found =>
      split
      next own =>
        unfold judgeAmend
        split
        · exact refused _
        · split
          · exact refused _
          · exact ((KeepsPort.setTable (amendList_keepsPort other once (List.mem_of_find?_eq_some found) own _ _)).trigger).handReply
              other _ _
      next => exact refused _

theorem takeRelease_keepsPort (id : Nat) {s : State} (once : (s.table.claims.map Claim.id).Nodup) :
    KeepsPort q s (takeRelease p id s) := by
  have refused (code : ReplyCode) : KeepsPort q s (refuse p code s) := (KeepsPort.refl s).handReply other _ _
  unfold takeRelease
  split
  · exact refused _
  · split
    · exact refused _
    next c found =>
      split
      next own =>
        have place : c.id = id := (claimAt_some found).2
        refine ((KeepsPort.setTable ?_).trigger).handReply other _ _
        refine filter_spares fun d hd owned => bne_iff_ne.mpr fun same => ?_
        have equal : d = c := List.inj_on_of_nodup_map once hd (List.mem_of_find?_eq_some found) (same.trans place.symm)
        rw [equal, c.ownedBy_iff] at owned
        rw [Claim.releasedBy_iff, owned] at own
        rcases own with own | ⟨internal, -⟩
        · exact other (Owner.port.inj own)
        · contradiction
      next => exact refused _

theorem takeClaimRead_keepsPort (id : Nat) (s : State) : KeepsPort q s (takeClaimRead p id s) := by
  have refused (code : ReplyCode) : KeepsPort q s (refuse p code s) := (KeepsPort.refl s).handReply other _ _
  unfold takeClaimRead
  split
  · exact refused _
  · split
    · exact refused _
    · exact (KeepsPort.refl s).handReply other _ _

theorem takeCeilPush_keepsPort (ceiling : Nat) (s : State) : KeepsPort q s (takeCeilPush p ceiling s) := by
  unfold takeCeilPush
  split
  · exact (KeepsPort.refl s).handReply other _ _
  · have pushed : KeepsPort q s { s with ceilings := { owner := p, limit := min ceiling Config.ceilingMax } :: s.ceilings } :=
      ⟨rfl, rfl, rfl, List.filter_cons_of_neg (by rw [beq_iff_eq]; exact Ne.symm other)⟩
    exact pushed.trigger.handReply other _ _

theorem popCeiling_spares {l after : List Ceiling} {n : Nat} (popped : popCeiling p l = some (n, after)) :
    after.filter (fun e => e.owner == q) = l.filter (fun e => e.owner == q) := by
  induction l generalizing after with
  | nil => contradiction
  | cons e rest ih =>
    rw [popCeiling] at popped
    split at popped
    next own =>
      obtain ⟨-, rfl⟩ := Prod.mk.inj (Option.some.inj popped)
      exact (List.filter_cons_of_neg (by rw [beq_iff_eq, own]; exact Ne.symm other)).symm
    next =>
      obtain ⟨⟨m, found⟩, deeper, equal⟩ := Option.map_eq_some_iff.mp popped
      obtain ⟨rfl, rfl⟩ := Prod.mk.inj equal
      rw [List.filter_cons, List.filter_cons, ih deeper]

theorem takeCeilPop_keepsPort (s : State) : KeepsPort q s (takeCeilPop p s) := by
  unfold takeCeilPop
  split
  · exact (KeepsPort.refl s).handReply other _ _
  next limit after popped =>
    have lowered : KeepsPort q s { s with ceilings := after } := ⟨rfl, rfl, rfl, popCeiling_spares other popped⟩
    exact lowered.trigger.handReply other _ _

/-! ### The hold -/

theorem joinHold_keepsPort (s : State) : KeepsPort q s (joinHold p s) := by
  unfold joinHold
  split
  · exact ((KeepsPort.setHolder other s _).trans (.of_keeps (beginHold_outer _))).handReply other _ _
  · exact (KeepsPort.setHolder other s _).handReply other _ _
  · exact (KeepsPort.setHolder other s _).handReply other _ _

theorem takeHold_keepsPort (s : State) : KeepsPort q s (takeHold p s) := by
  unfold takeHold
  split
  · exact (KeepsPort.refl s).handReply other _ _
  · exact joinHold_keepsPort other s

theorem leaveHold_keepsPort (order : Nat) (own : Bool) (s : State) : KeepsPort q s (leaveHold p order own s) := by
  unfold leaveHold
  dsimp only
  split
  · exact (KeepsPort.setHolder other s _).trans (.of_keeps (endHold_outer _ _ _))
  · exact KeepsPort.setHolder other s _

theorem takeUnhold_keepsPort (order : Nat) (s : State) : KeepsPort q s (takeUnhold p order s) := by
  unfold takeUnhold
  split
  · exact (leaveHold_keepsPort other order true s).handReply other _ _
  · exact (KeepsPort.refl s).handReply other _ _

/-! ### PORT_RESET -/

theorem takeShare_keepsPort (order : Nat) (x : Share) (s : State) : KeepsPort q s (takeShare p order x s) := by
  cases x with
  | claims =>
    exact .setTable (filter_spares fun c _ owned => by rw [not_ownedBy_of_ownedBy other owned]; rfl)
  | ceilings =>
    refine ⟨rfl, rfl, rfl, filter_spares fun e _ owned => ?_⟩
    rw [bne_iff_ne, beq_iff_eq.mp owned]
    exact other
  | engine => exact .of_keeps (enginePortReset_outer p s)
  | hold =>
    show KeepsPort q s (if (s.holder p).joined then leaveHold p order false s else s)
    split
    · exact leaveHold_keepsPort other order false s
    · exact .refl s

theorem resetPort_keepsPort (order : Nat) (s : State) : KeepsPort q s (resetPort p order s) := by
  have shared := foldl_preserves (P := KeepsPort q s) (fun s x => takeShare p (order / 24) x s)
    (arrange order [Share.claims, .ceilings, .engine, .hold]) (fun x _ u hu => hu.trans (takeShare_keepsPort other _ x u)) s (.refl s)
  exact (shared.trans (.setPort other _ _)).trigger.handReply other _ _

/-! ### Channels, jobs, the input and the faults -/

theorem takeChStart_keepsPort (cell slot : Nat) (s : State) : KeepsPort q s (takeChStart p cell slot s) := by
  have refused (code : ReplyCode) : KeepsPort q s (refuse p code s) := (KeepsPort.refl s).handReply other _ _
  unfold takeChStart
  split
  · exact refused _
  · split
    · exact refused _
    · unfold judgeStart
      split
      · exact refused _
      · split
        · exact refused _
        · exact (KeepsPort.of_keeps (startChannel_outer _ _ s)).handReply other _ _

theorem takeChStop_keepsPort (cell : Nat) (s : State) : KeepsPort q s (takeChStop p cell s) := by
  unfold takeChStop
  split
  · exact (KeepsPort.refl s).handReply other _ _
  · exact (KeepsPort.of_keeps (commit_outer _ _ s)).handReply other _ _

theorem takeStepWrite_keepsPort (slot : Nat) (r : RawStep) (s : State) : KeepsPort q s (takeStepWrite p slot r s) := by
  have refused (code : ReplyCode) : KeepsPort q s (refuse p code s) := (KeepsPort.refl s).handReply other _ _
  unfold takeStepWrite
  split
  · exact refused _
  · split
    · exact refused _
    · split
      · exact refused _
      · exact KeepsPort.handReply other _ _ (t := { s with profile := _ }) (.of_fields rfl rfl rfl rfl)

theorem takeStepRead_keepsPort (slot : Nat) (s : State) : KeepsPort q s (takeStepRead p slot s) := by
  unfold takeStepRead
  split
  · exact (KeepsPort.refl s).handReply other _ _
  · exact (KeepsPort.refl s).handReply other _ _

omit other in
theorem placeJob_keepsPort (j : Job) (s : State) : KeepsPort q s (placeJob j s) := by
  unfold placeJob
  dsimp only
  split
  · exact .of_keeps (newHead_startChecks_outer _)
  · exact .of_fields rfl rfl rfl rfl

theorem takeBalQueue_keepsPort (direction mode count rate tolerance : Nat) (s : State) :
    KeepsPort q s (takeBalQueue p direction mode count rate tolerance s) := by
  have refused (code : ReplyCode) : KeepsPort q s (refuse p code s) := (KeepsPort.refl s).handReply other _ _
  unfold takeBalQueue
  split
  · split
    · exact refused _
    · unfold judgeQueue
      split
      · exact refused _
      · split
        · exact refused _
        · exact (placeJob_keepsPort _ s).handReply other _ _
  · exact refused _
  · exact refused _

theorem takeBalCancel_keepsPort (tag : Nat) (s : State) : KeepsPort q s (takeBalCancel p tag s) := by
  have refused (code : ReplyCode) : KeepsPort q s (refuse p code s) := (KeepsPort.refl s).handReply other _ _
  have cancelled (j : Job) : KeepsPort q s (cancelJob j s) := by
    unfold cancelJob
    split
    · exact .of_keeps (finishHead_outer _ s)
    · exact .of_keeps (recordEnding_outer _ _ _)
  unfold takeBalCancel
  split
  · exact refused _
  · split
    · exact (cancelled _).handReply other _ _
    · exact refused _

theorem takeContractSet_keepsPort (voltage current : Nat) (s : State) : KeepsPort q s (takeContractSet p voltage current s) := by
  have forced (c : Contract) (code : ReplyCode) (payload : List Byte) : KeepsPort q s (handReply p code payload
      (trigger (handLimit (raiseMainHub .contract (s.setInput (s.input.inForceNow c)))))) := by
    have changed : KeepsPort q s (s.setInput (s.input.inForceNow c)) := .of_fields rfl rfl rfl rfl
    exact ((changed.trans (.of_keeps (raiseMainHub_outer _ _))).handLimit.trigger).handReply other _ _
  have stored (c : Contract) (code : ReplyCode) (payload : List Byte) : KeepsPort q s (handReply p code payload
      (s.setInput { s.input with pendingContract := some c })) :=
    KeepsPort.handReply other _ _ (t := s.setInput { s.input with pendingContract := some c }) (.of_fields rfl rfl rfl rfl)
  unfold takeContractSet
  split
  · exact (KeepsPort.refl s).handReply other _ _
  · unfold acceptContract
    split
    · exact (KeepsPort.refl s).handReply other _ _
    · exact forced _ _ _
    · exact forced _ _ _
    · exact stored _ _ _
    · exact stored _ _ _

omit other in
theorem released_keepsPort (s : State) : KeepsPort q s (released s) := by
  have told := (KeepsPort.of_keeps (q := q) (raiseNotice_outer .inputReleased .input s))
  unfold released
  dsimp only
  split
  · exact (told.trans (.of_keeps (raiseNotice_outer .inputReleased _ _))).trans (.of_fields rfl rfl rfl rfl)
  · exact told.trans (.of_fields rfl rfl rfl rfl)

theorem takeInputRelease_keepsPort (s : State) : KeepsPort q s (takeInputRelease p s) := by
  have begun : KeepsPort q s (beginRelease p s) := by
    have changed : KeepsPort q s (s.setInput { s.input with state := .releasing, requester := some p, recovery := none }) :=
      .of_fields rfl rfl rfl rfl
    refine KeepsPort.trigger (changed.handLimit.trans ?_)
    unfold releaseAtOnce
    split
    · exact released_keepsPort _
    · exact .refl _
  unfold takeInputRelease
  split
  · exact (KeepsPort.refl s).handReply other _ _
  · exact begun.handReply other _ _
  · exact begun.handReply other _ _
  · exact (KeepsPort.refl s).handReply other _ _
  · exact (KeepsPort.refl s).handReply other _ _

theorem takeInputResume_keepsPort (s : State) : KeepsPort q s (takeInputResume p s) := by
  have resumed : KeepsPort q s (resumeInput s) := by
    have told : KeepsPort q s (raiseIf s.input.pendingContract.isSome (raiseMainHub .contract) s) :=
      .of_keeps (raiseIf_raiseMainHub_outer _ _ s)
    have changed (u : State) : KeepsPort q u (u.setInput u.input.resumed) := .of_fields rfl rfl rfl rfl
    exact (told.trans (changed _)).handLimit.trigger
  unfold takeInputResume
  split
  · exact (KeepsPort.refl s).handReply other _ _
  · exact (KeepsPort.refl s).handReply other _ _
  · exact (KeepsPort.refl s).handReply other _ _
  · exact resumed.handReply other _ _
  · exact resumed.handReply other _ _

theorem takeFaultClear_keepsPort (target : Nat) (s : State) : KeepsPort q s (takeFaultClear p target s) := by
  have refused (code : ReplyCode) (payload : List Byte) : KeepsPort q s (handReply p code payload s) :=
    (KeepsPort.refl s).handReply other _ _
  have cleared (t : ClearTarget) : KeepsPort q s (reportClear t (s.setProt (s.prot.cleared t))) := by
    have changed : KeepsPort q s (s.setProt (s.prot.cleared t)) := .of_fields rfl rfl rfl rfl
    cases t with
    | cell c => exact changed
    | link => exact changed.trans (.of_keeps (unlockLink_outer _))
  unfold takeFaultClear
  split
  · exact refused _ _
  · split
    · exact refused _ _
    · split
      · exact refused _ _
      · exact (cleared _).trigger.handReply other _ _

/-! ### Every request -/

/-- R179: what the owning block makes of a request of port p leaves port q alone. -/
theorem ownPart_keepsPort {i : Instr} {r : Request} {fr : Framing} (spells : requestOf i = some (p, r, fr))
    (spared : ∀ fr, i ≠ .deviceReset p fr ∧ i ≠ .shipEnter p fr) (was : PowerState) {u : State}
    (once : (u.table.claims.map Claim.id).Nodup) : KeepsPort q u (ownPart was i u) := by
  have written (x : PortState) : KeepsPort q u (u.setPort p x) := .setPort other u x
  cases i
  all_goals cases spells
  case statusRead => exact (KeepsPort.refl u).handReply other _ _
  case noticeRead => exact (written _).handReply other _ _
  case noticeMask => exact (written _).handReply other _ _
  case portReset order => exact resetPort_keepsPort other order u
  case claim cls requested floor => exact takeClaim_keepsPort other cls requested floor u
  case amend id requested floor => exact takeAmend_keepsPort other id requested floor once
  case release id => exact takeRelease_keepsPort other id once
  case claimRead id => exact takeClaimRead_keepsPort other id u
  case ceilPush ceiling => exact takeCeilPush_keepsPort other ceiling u
  case ceilPop => exact takeCeilPop_keepsPort other u
  case hold => exact takeHold_keepsPort other u
  case unhold order => exact takeUnhold_keepsPort other order u
  case chStart cell slot => exact takeChStart_keepsPort other cell slot u
  case chStop cell => exact takeChStop_keepsPort other cell u
  case stepWrite slot r => exact takeStepWrite_keepsPort other slot r u
  case stepRead slot => exact takeStepRead_keepsPort other slot u
  case balQueue direction mode count rate tolerance => exact takeBalQueue_keepsPort other direction mode count rate tolerance u
  case balCancel tag => exact takeBalCancel_keepsPort other tag u
  case contractSet voltage current => exact takeContractSet_keepsPort other voltage current u
  case inputRelease => exact takeInputRelease_keepsPort other u
  case inputResume => exact takeInputResume_keepsPort other u
  case faultClear target => exact takeFaultClear_keepsPort other target u
  case shipEnter => exact absurd rfl (spared _).2
  case deviceReset => exact absurd rfl (spared _).1

/-- R180, R181: a frame taken, turned away or refused leaves port q alone where the block that would own it does. -/
theorem takeFrame_keepsPort (i : Instr) (check : Option ReplyCode) {own : State → State} (s : State)
    (owned : KeepsPort q (handedOver p i s) (own (handedOver p i s))) : KeepsPort q s (takeFrame p i check own s) := by
  have taken : KeepsPort q s (handedOver p i s) := handedOver_keepsPort other i s
  unfold takeFrame
  split
  · exact .setPort other s _
  · split
    · exact (fillSlot_keepsPort other _ s).handReply other _ _
    · split
      · exact taken.handReply other _ _
      · exact taken.trans owned

end

/-- R17: a frame that is taken gives no two claims one slot. -/
theorem handedOver_once {s : State} (once : (s.table.claims.map Claim.id).Nodup) (p : Port) (i : Instr) :
    ((handedOver p i s).table.claims.map Claim.id).Nodup := by
  have woken (c : Claim) : (c.wake p).id = c.id := by
    rw [Claim.wake]
    split <;> rfl
  have kept : (s.table.wake p).claims.map Claim.id = s.table.claims.map Claim.id := by
    show (s.table.claims.map (Claim.wake p)).map Claim.id = _
    rw [List.map_map]
    exact List.map_congr_left fun c _ => woken c
  rw [handedOver_table]
  split
  · rwa [kept]
  · exact once

/-- Settles O6: the frame is taken by `takeFrame`, and no block's own part of a request reaches another port. -/
theorem requestsKeepOtherPorts : Obligations.RequestsKeepOtherPorts := by
  intro s t p q i bounded frame next other spared
  suffices kept : KeepsPort q s t from ⟨kept.port, kept.holder, kept.claims, kept.ceilings⟩
  obtain ⟨r, fr, spells⟩ | ⟨bytes, rfl⟩ := frame
  · have reached := (exec_request spells s).symm.trans next
    rw [← Host.Outcome.next.inj reached]
    exact takeFrame_keepsPort other i _ s (ownPart_keepsPort other spells spared _ (handedOver_once bounded.1 p i))
  · by_cases given : bytes = []
    · rw [given] at next
      rw [← Host.Outcome.next.inj next]
      exact .refl s
    · rw [exec_unknown given] at next
      rw [← Host.Outcome.next.inj next]
      exact takeFrame_keepsPort other _ _ s (.refl _)

end Sys2Proof.Machine
end

section
/-! The resets of the part and SHIP: the statements O53, O54, O55 and O60. -/

namespace Sys2Proof.Machine

/-! ### After a reset -/

theorem Channel.demand_of_not_active {c : Cell} {profile : List StepRecord} {ch : Channel} (resting : ch.state ≠ .active) :
    ch.demand c profile = 0 := by
  unfold Channel.demand
  rw [beq_false_of_ne resting]
  rfl

theorem Channel.atReset_presents (c : Cell) (profile : List StepRecord) : Channel.atReset.Presents c profile := by
  rw [Channel.Presents, Channel.demand_of_not_active (by decide)]
  rfl

/-- R115, R133, R151, R165: channel B, the engine, the hold and the arbiter as a reset leaves them stand as they should, with
the engine's DIE_HOT the monitor's. -/
theorem linkUsersSound_of_reset {s : State} {last : PerPort (Option LastResult)} {lock : Bool} (chB : s.chB = Channel.atReset)
    (arb : s.arb = Arbiter.atReset lock)
    (bal : s.bal = { queue := [], tagCounter := 0, last := last, dieHot := s.prot.device.dieHot })
    (hold : s.hold = State.reset.hold) : s.LinkUsersSound := by
  have off : s.hold.state = .off := by rw [hold]; rfl
  refine ⟨?_, ?_, ?_, ⟨?_, ?_, ?_, ?_, ?_⟩, fun held => absurd off held⟩
  · rw [bal]
    exact ⟨Nat.zero_lt_succ _, Nat.zero_le _, by nofun, by nofun, List.nodup_nil⟩
  · rw [hold]
    exact iff_of_true rfl rfl
  · rw [arb]
    exact ⟨by nofun, by nofun⟩
  · rw [hold, arb]
    rfl
  · rw [bal]
  · rw [chB, arb]
    exact iff_of_false (by nofun) (by nofun)
  · rw [bal, arb]
    exact iff_of_false (by nofun) (by nofun)
  · rw [bal]
    nofun

/-- R10, R115, R133: the channels as a reset leaves them, with the arbiter at its reset values and the stages' targets zero. -/
theorem channelsSound_of_reset {s : State} {lock : Bool} (chA : s.chA = Channel.atReset) (chB : s.chB = Channel.atReset)
    (arb : s.arb = Arbiter.atReset lock)
    (input : (s.inputStage.ramping = true ↔ s.inputStage.output ≠ s.inputStage.target)
      ∧ (s.present = false → s.inputStage.output = 0))
    (pathA : (s.pathA.stage.ramping = true ↔ s.pathA.stage.output ≠ s.pathA.stage.target) ∧ s.pathA.stage.target = 0)
    (link : (s.linkStage.ramping = true ↔ s.linkStage.output ≠ s.linkStage.target) ∧ s.linkStage.target = Flow.zero) :
    s.ChannelsSound := by
  refine ⟨?_, ?_, ?_, ?_, ?_, ?_, ?_, input.1, pathA.1, link.1, input.2, ?_, ?_⟩
  · rw [chA]
    exact Channel.atReset_presents .a _
  · rw [chB]
    exact Channel.atReset_presents .b _
  · rw [chA]
    exact fun _ => rfl
  · rw [chB]
    exact fun _ => rfl
  · rw [chB]
    rfl
  · rw [chA, chB]
    exact fun _ => ⟨rfl, rfl⟩
  · rw [chB]
    nofun
  · rw [pathA.2, chA]
    exact (ite_self 0).symm
  · rw [link.2, arb]
    rfl

theorem resetPowerOn_linkUsersSound (level : Bool) (s : State) : (resetPowerOn level s).LinkUsersSound :=
  linkUsersSound_of_reset rfl rfl rfl rfl

theorem resetPowerOn_channelsSound (level : Bool) (s : State) : (resetPowerOn level s).ChannelsSound :=
  channelsSound_of_reset rfl rfl rfl ⟨iff_of_false (by nofun) (fun ne => ne rfl), fun _ => rfl⟩
    ⟨iff_of_false (by nofun) (fun ne => ne rfl), rfl⟩ ⟨iff_of_false (by nofun) (fun ne => ne rfl), rfl⟩

theorem resetPowerOn_reset : resetPowerOn false State.reset = State.reset := rfl

/-- Settles O60: the reset state is what a power-on reset makes of itself. -/
theorem resetIsSound : Obligations.ResetIsSound := by
  unfold Obligations.ResetIsSound
  rw [← resetPowerOn_reset]
  exact ⟨resetPowerOn_tablesSound _ _, resetPowerOn_linkUsersSound _ _, resetPowerOn_channelsSound _ _⟩

/-! ### SHIP and the power-on reset -/

/-- R105, R204: what a channel presents, its reasons and its stale mark change only where it leaves ACTIVE. -/
theorem Channel.shipped_eq (ch : Channel) : ch.shipped =
    { (if ch.state = .active then { ch with presented := 0, reasons := Reasons.none, stale := true } else ch) with
      state := .idle, slot := none, code := .none, request := false } := by
  unfold Channel.shipped
  split <;> rfl

/-- Settles O53: entering SHIP is one update of the state that the frame was taken in. -/
theorem shipEntered : Obligations.ShipEntered := by
  intro s h i u idle empty out off
  have reached : exec i s = .next (takeShipEnter .main u) := exec_handed rfl s h rfl
  refine ⟨fun attached => ?_, fun detached => ?_⟩
  · rw [reached, takeShipEnter, if_neg attached]
    rfl
  · rw [reached, takeShipEnter, if_pos detached, enterShip, Channel.shipped_eq, Channel.shipped_eq]
    rfl

theorem execWakePress_eq (level : Bool) (s : State) : exec (.wakePress level) s =
    .next (if s.power.supplied = true ∧ s.power.state = .ship then resetPowerOn level s else s) := by
  refine congrArg Host.Outcome.next ?_
  simp only [Bool.and_eq_true, decide_eq_true_eq]

theorem execAttach_eq (level : Bool) (s : State) : exec (.attach level) s =
    .next (if s.power.supplied = false then s else if s.power.state = .ship then resetPowerOn level s
      else if s.present = true then s else attachVbus s) := by
  refine congrArg Host.Outcome.next ?_
  simp only [Bool.not_eq_true']

/-- Settles O55: each clause is a branch of the event's meaning. -/
theorem powerOnValues : Obligations.PowerOnValues := by
  intro s level idle fresh out none3 off t ship
  have fresh_part : resetPowerOn level s = t := rfl
  refine ⟨congrArg Host.Outcome.next fresh_part, fun shipped => ?_, fun sailing => ?_, rfl, fun dead => ?_⟩
  · obtain ⟨supplied, state⟩ := shipped
    rw [execWakePress_eq, if_pos ⟨supplied, state⟩, execAttach_eq, if_neg (by simp [supplied]), if_pos state, fresh_part]
    exact ⟨rfl, rfl⟩
  · rw [execWakePress_eq, if_neg sailing, execAttach_eq]
    refine ⟨rfl, fun present => congrArg Host.Outcome.next ?_⟩
    cases supplied : s.power.supplied with
    | false => exact if_pos rfl
    | true => exact (if_neg (by nofun)).trans ((if_neg fun state => sailing ⟨supplied, state⟩).trans (if_pos present))
  · rw [execAttach_eq, if_pos dead]
    refine ⟨rfl, congrArg Host.Outcome.next (if_neg ?_)⟩
    rw [State.operating, dead]
    nofun

/-! ### The device reset -/

theorem Stage.take_target {α : Type} [DecidableEq α] (out new : α) (x : Stage α) : (x.take out new).1.target = new := by
  unfold Stage.take
  split
  next same => exact same.symm
  next => split <;> rfl

theorem holdTest_off {s : State} (off : s.hold.state = .off) : holdTest s = s := by
  rw [holdTest, off]
  rfl

/-- R6, R10: with the hold OFF, a zero setpoint for the cell A path changes that stage alone. -/
theorem takeCharge_zero_eq {s : State} (off : s.hold.state = .off) : ∃ x : Stage Nat, x.target = 0
    ∧ takeCharge 0 s = { s with freeUses := (takeCharge 0 s).freeUses, pathA := { s.pathA with stage := x } } := by
  rw [takeCharge]
  split
  next same =>
    have same : 0 = s.pathA.stage.target := by simpa using same
    exact ⟨s.pathA.stage, same.symm, rfl⟩
  next =>
    refine ⟨_, Stage.take_target (s.pathA.stage.outputNow s.freeUses) 0 s.pathA.stage, ?_⟩
    dsimp only
    split
    · rw [holdTest_off]
      · rfl
      · exact off
    · rfl

/-- R8, R10: with the hold OFF and the link FREE, the link takes a zero target. -/
theorem linkFollow_free_eq {s : State} (off : s.hold.state = .off) (free : s.arb.link = .free) : ∃ x : Stage Flow,
    x.target = Flow.zero ∧ linkFollow s = { s with freeUses := (linkFollow s).freeUses, linkStage := x } := by
  have zero : s.linkTarget = Flow.zero := by rw [State.linkTarget, free]
  rw [linkFollow, zero]
  split
  next same => exact ⟨s.linkStage, same.symm, rfl⟩
  next =>
    refine ⟨_, Stage.take_target (s.linkStage.flowNow s.freeUses) Flow.zero s.linkStage, ?_⟩
    dsimp only
    split
    · rw [holdTest_off]
      · rfl
      · exact off
    · rfl

/-- R10: with the hold OFF and the link FREE, the stages take zero targets, and the cell A path its bridge. -/
theorem resetStages_eq {s : State} (off : s.hold.state = .off) (free : s.arb.link = .free) :
    ∃ (x y : Stage Nat) (z : Stage Flow), x.target = 0 ∧ y.target = 0 ∧ z.target = Flow.zero
      ∧ resetStages s = { s with
        freeUses := (resetStages s).freeUses, inputStage := x, linkStage := z
        pathA := { stage := y, supply := s.bridgeAllowance, bridge := true } } := by
  have input := takeInput_eq s 0
  obtain ⟨y, hy, charge⟩ := takeCharge_zero_eq (s := takeInput 0 s) (by rw [input]; exact off)
  obtain ⟨z, hz, link⟩ := linkFollow_free_eq (s := takeCharge 0 (takeInput 0 s)) (by rw [charge, input]; exact off)
    (by rw [charge, input]; exact free)
  refine ⟨(takeInput 0 s).inputStage, y, z, takeInput_target s 0, hy, hz, ?_⟩
  rw [resetStages, link, charge, input]
  rfl

theorem resetDevice_values (s : State) : DeviceResetOf (leaveMonitor s) (resetDevice s) := by
  obtain ⟨x, y, z, hx, hy, hz, reset⟩ := resetStages_eq (s := resetBlocks (leaveMonitor s)) rfl rfl
  rw [resetDevice]
  generalize leaveMonitor s = v at reset ⊢
  have bridge : (resetBlocks v).bridgeAllowance = match v.seq.latest with
      | none => 0
      | some x => if v.prot.cellA.uv = true then 0 else x.vA * 6000 / 1000 := by
    show (if v.prot.cellA.uv = true then 0 else (v.seq.latest.map fun x => bridgeCap x.vA).getD 0) = _
    cases v.seq.latest with
    | none => exact ite_self 0
    | some x => rfl
  rw [bridge] at reset
  rw [reset]
  exact ⟨hx, hy, hz, rfl⟩

/-- R11, R203: a device reset leaves MONITOR no further where it has been left. -/
theorem leaveMonitor_twice (s : State) : leaveMonitor (leaveMonitor s) = leaveMonitor s := by
  rw [leaveMonitor, if_neg]
  rw [leaveMonitor_eq]
  dsimp only
  split <;> simp_all

theorem setLine_same {s : State} (down : s.power.rstnLow = true) : setLine true s = s := by
  rw [setLine, ← down]
  rfl

/-- Settles O54: both ways lead to `resetDevice`, whose values `resetDevice_values` says. -/
theorem deviceResetValues : Obligations.DeviceResetValues := by
  intro s i low awake
  refine ⟨fun h => ⟨_, exec_handed rfl s h rfl, ?_⟩, fun on high => ⟨resetDevice low, ?_, ?_⟩, fun down => ?_, fun off => ?_⟩
  · have values := resetDevice_values (handedOver .main i s)
    rwa [handedOver, leaveMonitor_twice, ← handedOver] at values
  · show Host.Outcome.next _ = _
    rw [high, on]
    rfl
  · have values := resetDevice_values low
    unfold leaveMonitor at values
    show DeviceResetOf (ite _ _ _) _
    split at values
    next state =>
      rw [if_pos state]
      exact values
    next state =>
      rw [if_neg state]
      exact values
  · show Host.Outcome.next _ = _
    rw [down]
    rfl
  · refine congrArg Host.Outcome.next ?_
    rw [off]
    split
    next down => exact (setLine_same down).symm
    next => rfl

end Sys2Proof.Machine
end

section
/-! The hold control comes to rest (R155 to R157), and O50. -/

namespace Sys2Proof.Machine

/-- R156: what the rest condition asks for. -/
theorem State.atRest_iff (s : State) : s.atRest = true ↔ (s.pathA.stage.ramping = false ∧ s.pathA.stage.target = 0)
    ∧ (s.hold.view = .free ∨ s.hold.view = .held .supply
      ∨ (s.linkStage.ramping = false ∧ s.linkStage.target = Flow.zero)) := by
  simp only [State.atRest, PathA.atRest, State.linkSettledZero, Bool.and_eq_true, Bool.or_eq_true, Bool.not_eq_true', beq_iff_eq,
    or_assoc]

/-- R157: a hold that waits comes to rest. -/
def State.Rests (s : State) : Prop := s.hold.state = .pending ∧ s.atRest = true

theorem holdTest_rests {s : State} (rests : s.Rests) : holdTest s = becomeEffective s := by
  rw [holdTest, if_pos]
  rw [rests.1, rests.2]
  rfl

theorem holdTest_stays {s : State} (stays : ¬ s.Rests) : holdTest s = s := by
  rw [holdTest, if_neg]
  rw [Bool.and_eq_true, decide_eq_true_iff]
  exact stays

/-- R157: HOLD_EFFECTIVE goes to the holders and to no other port. -/
theorem tellHolders_eq (s : State) : tellHolders s = { s with
    ports := noting 3 ([Port.main, .hub, .input].filter (fun q => (s.holder q).joined)) s.ports } := by
  have main : s.hold.holders.main = s.holder .main := rfl
  have hub : s.hold.holders.hub = s.holder .hub := rfl
  have input : s.hold.holders.input = s.holder .input := rfl
  unfold tellHolders
  rw [main, hub, input]
  simp only [List.filter_cons, List.filter_nil]
  cases (s.holder .main).joined <;> cases (s.holder .hub).joined <;> cases (s.holder .input).joined <;> rfl

/-- R157: what becoming EFFECTIVE comes to: the holders are told, their timers start and a pass is triggered. -/
theorem becomeEffective_stands (v : State) (running : v.power.phase = .running) (on : v.operating = true) :
    Triggered v (becomeEffective v) ∧ (becomeEffective v).still = { v.still with
      hold := { v.hold with state := .effective, holders := {
        main := (v.holder .main).effective v.now, hub := (v.holder .hub).effective v.now
        input := (v.holder .input).effective v.now } }
      ports := noting 3 ([Port.main, .hub, .input].filter (fun q => (v.holder q).joined)) v.still.ports } := by
  rw [becomeEffective_eq, tellHolders_eq]
  refine ⟨trigger_triggered_since running on rfl rfl rfl rfl, ?_⟩
  rw [trigger_still]
  exact congrArg (fun u : State => u.setHold { v.hold with state := .effective, holders := {
        main := (v.holder .main).effective v.now, hub := (v.holder .hub).effective v.now
        input := (v.holder .input).effective v.now } }) (noting_still v 3 _)

/-- Settles O50: both events end in the hold control's test. -/
theorem holdBecomesEffective : Obligations.HoldBecomesEffective := by
  intro s p on running rest timed stands checked settled
  have rest_iff (v : State) : rest v ↔ v.Rests := by
    rw [State.Rests, State.atRest_iff, and_assoc]
  have check (due : 0 < (s.holder p).due) : exec (.holdEntryCheck p) s = .next (holdTest checked) :=
    congrArg Host.Outcome.next ((if_pos on).trans (if_neg (Nat.ne_of_gt due)))
  have settle (ramps : s.pathA.stage.ramping = true) : exec .cellAPathSettled s = .next (holdTest settled) :=
    congrArg Host.Outcome.next ((if_pos on).trans (if_pos ramps))
  refine ⟨fun spent => ?_, fun due stays => ?_, fun due rests => ⟨_, check due, ?_⟩, fun ramps stays => ?_,
    fun ramps rests => ⟨_, settle ramps, ?_⟩⟩
  · exact congrArg Host.Outcome.next ((if_pos on).trans (if_pos spent))
  · rw [check due, holdTest_stays (mt (rest_iff _).mpr stays)]
  · rw [holdTest_rests ((rest_iff _).mp rests)]
    exact becomeEffective_stands checked running on
  · rw [settle ramps, holdTest_stays (mt (rest_iff _).mpr stays)]
  · rw [holdTest_rests ((rest_iff _).mp rests)]
    exact becomeEffective_stands settled running on

end Sys2Proof.Machine
end

section
/-! The arbiter's operations step by step (R117 to R128): who holds the link, who waits, and what the engine holds. -/

namespace Sys2Proof.Machine

/-! ### The arbiter on its own -/

section
variable {a : Arbiter} {r : Requester}

/-- R117: the requester waits for the link or holds it. -/
def Arbiter.asks (a : Arbiter) (r : Requester) : Prop := a.waiting.has r = true ∨ a.link = .held r

theorem Waiting.has_put_self (w : Waiting) (r : Requester) (b : Bool) : (w.put r b).has r = b := by cases r <;> rfl

theorem Waiting.has_put_other (w : Waiting) {r q : Requester} (other : q ≠ r) (b : Bool) : (w.put r b).has q = w.has q := by
  cases r <;> cases q <;> first | rfl | contradiction

theorem Waiting.put_has (w : Waiting) (r : Requester) : w.put r (w.has r) = w := by cases r <;> rfl

theorem granted_link (now tenure : Nat) (r : Requester) (a : Arbiter) : (a.granted now tenure r).link = .held r := by
  cases r <;> rfl
theorem granted_waiting (now tenure : Nat) (r : Requester) (a : Arbiter) :
    (a.granted now tenure r).waiting = a.waiting.put r false := by cases r <;> rfl
theorem granted_backoffBalance (now tenure : Nat) (r : Requester) (a : Arbiter) :
    (a.granted now tenure r).backoffBalance = a.backoffBalance := by cases r <;> rfl
theorem lost_link (now : Nat) (r : Requester) (b : Bool) (a : Arbiter) : (a.lost now r b).link = .changeover := by
  cases r <;> rfl
theorem lost_waiting (now : Nat) (r : Requester) (b : Bool) (a : Arbiter) : (a.lost now r b).waiting = a.waiting.put r b := by
  cases r <;> rfl
theorem lost_backoffBalance_of_ne (now : Nat) (ne : r ≠ .balance) (b : Bool) (a : Arbiter) :
    (a.lost now r b).backoffBalance = a.backoffBalance := by
  cases r <;> first | rfl | contradiction

theorem eligible_iff : a.eligible r = true ↔ a.waiting.has r = true ∧ a.backoff r = none := by
  rw [Arbiter.eligible, Bool.and_eq_true, Option.isNone_iff_eq_none]

/-- R119: the requester chosen waits, and its backoff does not run. -/
theorem waits_of_choose (chosen : a.choose = some r) : a.waiting.has r = true ∧ a.backoff r = none := by
  unfold Arbiter.choose at chosen
  split at chosen
  · contradiction
  · split at chosen
    next supply =>
      obtain rfl := Option.some.inj chosen
      exact ⟨supply, rfl⟩
    next =>
      split at chosen
      next chargeB balance =>
        split at chosen
        · obtain rfl := Option.some.inj chosen
          exact eligible_iff.mp balance
        · obtain rfl := Option.some.inj chosen
          exact eligible_iff.mp chargeB
      next chargeB _ =>
        obtain rfl := Option.some.inj chosen
        exact eligible_iff.mp chargeB
      next balance =>
        obtain rfl := Option.some.inj chosen
        exact eligible_iff.mp balance
      next => contradiction

/-- R119: SUPPLY comes before the others. -/
theorem supply_of_choose (chosen : a.choose = some r) (waits : a.waiting.supply = true) : r = .supply := by
  unfold Arbiter.choose at chosen
  rw [waits] at chosen
  split at chosen
  · contradiction
  · exact (Option.some.inj chosen).symm

theorem choose_of_locked (locked : a.faultLock = true) : a.choose = none := by
  rw [Arbiter.choose, if_pos locked]

end

/-! ### What the arbiter, the engine and the hold control have in common -/

/-- Two states agree on the arbiter, the queue, the hold control's view of the link, and what the engine goes by. -/
structure SameUsers (s t : State) : Prop where
  arb : t.arb = s.arb
  queue : t.bal.queue = s.bal.queue
  view : t.hold.view = s.hold.view
  off : t.hold.state = .off ↔ s.hold.state = .off
  hot : t.bal.dieHot = s.bal.dieHot

section
variable {s t u : State}

theorem SameUsers.refl (s : State) : SameUsers s s := ⟨rfl, rfl, rfl, Iff.rfl, rfl⟩

theorem SameUsers.trans (h : SameUsers s t) (k : SameUsers t u) : SameUsers s u :=
  ⟨k.arb.trans h.arb, k.queue.trans h.queue, k.view.trans h.view, k.off.trans h.off, k.hot.trans h.hot⟩

/-- Reactions that reach none of them leave them. -/
theorem Reacts.sameUsers {E : List Effect} (h : Reacts E s t) (arb : .arb ∉ E) (lock : .lock ∉ E) (queue : .queue ∉ E)
    (view : .view ∉ E) (hot : .hot ∉ E) : SameUsers s t :=
  ⟨h.arb_eq arb lock, h.queue_eq queue, h.view_eq view, h.holdOff_iff, h.hot_eq hot⟩

theorem linkFollow_sameUsers (s : State) : SameUsers s (linkFollow s) :=
  (linkFollow_reacts s).sameUsers (by decide) (by decide) (by decide) (by decide) (by decide)
theorem reportToB_sameUsers (b : Bool) (s : State) : SameUsers s (reportToB b s) :=
  (reportToB_reacts s b).sameUsers (by decide) (by decide) (by decide) (by decide) (by decide)
theorem trigger_sameUsers (s : State) : SameUsers s (trigger s) :=
  (trigger_reacts (E := [.pass]) s (by decide)).sameUsers (by decide) (by decide) (by decide) (by decide) (by decide)
theorem holdTest_sameUsers (s : State) : SameUsers s (holdTest s) :=
  (holdTest_reacts s).sameUsers (by decide) (by decide) (by decide) (by decide) (by decide)
theorem monitorTest_sameUsers (s : State) : SameUsers s (monitorTest s) :=
  (monitorTest_reacts (E := [.monitor]) s (by decide)).sameUsers (by decide) (by decide) (by decide) (by decide) (by decide)
theorem recordEnding_sameUsers (j : Job) (reason : EndReason) (s : State) : SameUsers s (recordEnding j reason s) :=
  (recordEnding_reacts (E := [.last, .notice]) s (by decide) (by decide) j reason).sameUsers
    (by decide) (by decide) (by decide) (by decide) (by decide)

/-- R132: the hold control takes the link state. -/
theorem reportLink_sameUsers (s : State) : SameUsers (s.setHold { s.hold with view := s.arb.link }) (trigger (reportLink s)) :=
  (holdTest_sameUsers _).trans (trigger_sameUsers _)

end

/-! ### Grants and losses (R121, R122) -/

section
variable (onBalance : State → State) (s : State)

/-- R121: the state with the link granted to r, as arbiter and hold control have it. -/
def linkGranted (r : Requester) (s : State) : State :=
  (s.setArb (s.arb.granted s.now s.settings.tenure r)).setHold { s.hold with view := .held r }

theorem grantLink_sameUsers {r : Requester} (ne : r ≠ .balance) : SameUsers (linkGranted r s) (grantLink onBalance r s) := by
  have reported (v : State) (h : SameUsers (s.setArb (s.arb.granted s.now s.settings.tenure r)) v) :
      SameUsers (linkGranted r s) (trigger (reportLink v)) := by
    refine SameUsers.trans (t := v.setHold { v.hold with view := v.arb.link }) ?_ (reportLink_sameUsers v)
    exact ⟨h.arb, h.queue, (congrArg Arbiter.link h.arb).trans (granted_link ..), h.off, h.hot⟩
  have followed := linkFollow_sameUsers (s.setArb (s.arb.granted s.now s.settings.tenure r))
  cases r with
  | supply => exact reported _ followed
  | chargeB => exact reported _ (followed.trans (reportToB_sameUsers false _))
  | balance => contradiction

/-- R122, R123: a loss up to the choice that it may be followed by at once. -/
def afterLoss (cause : LossCause) (r : Requester) (s : State) : State :=
  let s := linkFollow (s.setArb (s.arb.lost s.now r (cause != .withdrawal)))
  trigger (reportLink (match r with
    | .supply => s
    | .chargeB => reportToB true s
    | .balance => reportLossToEngine cause s))

theorem loseLink_eq (cause : LossCause) (r : Requester) : loseLink onBalance cause r s =
    if (afterLoss cause r s).linkSettledZero then endChangeover onBalance (afterLoss cause r s) else afterLoss cause r s := rfl

/-- R122: the state with the link lost by r, as arbiter and hold control have it. -/
def linkLost (cause : LossCause) (r : Requester) (s : State) : State :=
  (s.setArb (s.arb.lost s.now r (cause != .withdrawal))).setHold { s.hold with view := .changeover }

/-- R140: what the engine's report of a loss makes of the queue: a RUNNING head whose link was taken is QUEUED again. -/
def lossQueue (cause : LossCause) (now : Nat) : List Job → List Job
  | [] => []
  | j :: rest =>
    if (cause = .preemption ∨ cause = .yield) ∧ j.state = .running then j.stops now .queued :: rest else j :: rest

theorem reportLossToEngine_eq (cause : LossCause) (s : State) :
    reportLossToEngine cause s = s.setQueue (lossQueue cause s.now s.bal.queue) := by
  unfold reportLossToEngine lossQueue
  cases queue : s.bal.queue with
  | nil =>
    have same : s.setQueue [] = s := by rw [← queue]; rfl
    rw [same]
    cases cause <;> rfl
  | cons j rest =>
    have same : s.setQueue (j :: rest) = s := by rw [← queue]; rfl
    cases cause <;> by_cases running : j.state = .running <;> simp only [running] <;> simp [same] <;> rfl

theorem afterLoss_sameUsers (cause : LossCause) (r : Requester) : SameUsers
    ((linkLost cause r s).setQueue (if r = .balance then lossQueue cause s.now s.bal.queue else s.bal.queue)) (afterLoss cause r s) := by
  have reported (v : State) (q : List Job)
      (h : SameUsers ((s.setArb (s.arb.lost s.now r (cause != .withdrawal))).setQueue q) v) :
      SameUsers ((linkLost cause r s).setQueue q) (trigger (reportLink v)) := by
    refine SameUsers.trans (t := v.setHold { v.hold with view := v.arb.link }) ?_ (reportLink_sameUsers v)
    exact ⟨h.arb, h.queue, (congrArg Arbiter.link h.arb).trans (lost_link ..), h.off, h.hot⟩
  have followed := linkFollow_sameUsers (s.setArb (s.arb.lost s.now r (cause != .withdrawal)))
  cases r with
  | supply => exact reported _ s.bal.queue followed
  | chargeB => exact reported _ s.bal.queue (followed.trans (reportToB_sameUsers true _))
  | balance =>
    refine reported _ _ ?_
    rw [reportLossToEngine_eq, followed.queue, Keeps.now (linkFollow_outer _)]
    exact ⟨followed.arb, rfl, followed.view, followed.off, followed.hot⟩

end

/-! ### What the arbiter's operations keep -/

/-- R116, R117, R124, R132: the arbiter is sound, the hold control's view is the link state, and CHARGE_B is asked for exactly
where `c` holds. -/
structure Linked (c : Prop) (s : State) : Prop where
  sound : s.arb.Sound
  view : s.hold.view = s.arb.link
  chargeB : s.arb.asks .chargeB ↔ c

/-- What the engine's standing can turn on: the arbiter's part in BALANCE, the queue, the hold state and DIE_HOT. -/
structure SameBalance (s t : State) : Prop where
  held : t.arb.link = .held .balance ↔ s.arb.link = .held .balance
  waits : t.arb.waiting.balance = s.arb.waiting.balance
  backoff : t.arb.backoffBalance = s.arb.backoffBalance
  queue : t.bal.queue = s.bal.queue
  off : t.hold.state = .off ↔ s.hold.state = .off
  hot : t.bal.dieHot = s.bal.dieHot

/-- A property M of the engine's standing that a grant of BALANCE, answered by `onBalance`, keeps, and a loss that BALANCE does
not ask for. -/
structure BalanceRules (onBalance : State → State) (M : State → Prop) : Prop where
  congr : ∀ {s t}, SameBalance s t → M s → M t
  granted : ∀ {c s}, Linked c s → M s → s.arb.choose = some .balance → (s.arb.link = .free ∨ s.arb.link = .changeover) →
    Linked c (grantLink onBalance .balance s) ∧ M (grantLink onBalance .balance s)
  lost : ∀ {s cause}, M s → s.arb.link = .held .balance → cause = .preemption ∨ cause = .yield → M (afterLoss cause .balance s)

section
variable {s t u : State} {c : Prop}

theorem SameUsers.balance (h : SameUsers s t) : SameBalance s t :=
  ⟨by rw [h.arb], by rw [h.arb], by rw [h.arb], h.queue, h.off, h.hot⟩

theorem SameBalance.trans (h : SameBalance s t) (k : SameBalance t u) : SameBalance s u :=
  ⟨k.held.trans h.held, k.waits.trans h.waits, k.backoff.trans h.backoff, k.queue.trans h.queue, k.off.trans h.off,
    k.hot.trans h.hot⟩

theorem Linked.congr (h : Linked c s) (same : SameUsers s t) : Linked c t :=
  ⟨same.arb ▸ h.sound, by rw [same.view, same.arb]; exact h.view, same.arb ▸ h.chargeB⟩

/-- Nobody holds the link. -/
def Arbiter.Unheld (a : Arbiter) : Prop := a.link = .free ∨ a.link = .changeover

theorem Arbiter.Unheld.not_held {a : Arbiter} (h : a.Unheld) (r : Requester) : a.link ≠ .held r := by
  rcases h with link | link <;> rw [link] <;> nofun

/-- R117: who asks for the link, after a grant. -/
theorem granted_asks {a : Arbiter} {r : Requester} (unheld : a.Unheld) (waits : a.waiting.has r = true) (now tenure : Nat)
    (q : Requester) : (a.granted now tenure r).asks q ↔ a.asks q := by
  rw [Arbiter.asks, Arbiter.asks, granted_link, granted_waiting]
  by_cases own : q = r
  · subst own
    exact iff_of_true (.inr rfl) (.inl waits)
  · rw [Waiting.has_put_other _ own]
    have left : (LinkState.held r = .held q) ↔ a.link = .held q :=
      iff_of_false (fun same => own (LinkState.held.inj same).symm) (unheld.not_held q)
    rw [left]

/-- R116, R121, R124: a grant that follows from a choice leaves the arbiter sound. -/
theorem granted_sound {a : Arbiter} {r : Requester} (chosen : a.choose = some r) (now tenure : Nat) :
    (a.granted now tenure r).Sound := by
  refine ⟨fun q held => ?_, fun waits => ?_⟩
  · rw [granted_link] at held
    obtain rfl := LinkState.held.inj held
    rw [granted_waiting, Waiting.has_put_self]
  · rw [granted_waiting] at waits
    by_cases supply : r = .supply
    · subst supply
      contradiction
    · have waited : a.waiting.supply = true := ((a.waiting).has_put_other (Ne.symm supply) false).symm.trans waits
      exact absurd (supply_of_choose chosen waited) supply

/-- R116, R122, R124: a loss leaves the arbiter sound, whatever the waiting set. -/
theorem unheld_sound {a : Arbiter} (unheld : a.Unheld) : a.Sound := ⟨fun q held => absurd held (unheld.not_held q), fun _ => unheld⟩

/-- R117: who asks for the link, after its holder r has lost it. -/
theorem lost_asks {a : Arbiter} {r : Requester} (held : a.link = .held r) (now : Nat) (stands : Bool) (q : Requester) :
    (a.lost now r stands).asks q ↔ if q = r then stands = true else a.asks q := by
  rw [Arbiter.asks, Arbiter.asks, lost_link, lost_waiting]
  split
  next own =>
    rw [own, Waiting.has_put_self]
    exact or_iff_left nofun
  next other =>
    rw [Waiting.has_put_other _ other, held]
    exact or_congr_right (iff_of_false nofun fun same => other (LinkState.held.inj same).symm)

theorem linkGranted_linked {r : Requester} (h : Linked c s) (unheld : s.arb.Unheld) (chosen : s.arb.choose = some r) :
    Linked c (linkGranted r s) :=
  ⟨granted_sound chosen _ _, (granted_link ..).symm,
    (granted_asks unheld (waits_of_choose chosen).1 _ _ _).trans h.chargeB⟩

theorem linkGranted_sameBalance {r : Requester} (ne : r ≠ .balance) (unheld : s.arb.Unheld) :
    SameBalance s (linkGranted r s) := by
  refine ⟨?_, ?_, granted_backoffBalance .., rfl, Iff.rfl, rfl⟩
  · rw [show (linkGranted r s).arb.link = .held r from granted_link ..]
    exact iff_of_false (fun same => ne (LinkState.held.inj same)) (unheld.not_held _)
  · rw [show (linkGranted r s).arb.waiting = s.arb.waiting.put r false from granted_waiting ..]
    exact Waiting.has_put_other _ (Ne.symm ne) false

/-- R122: the arbiter and the hold control after a loss; whether the loser still asks is the cause's to say. -/
theorem afterLoss_linked {r : Requester} (held : s.arb.link = .held r) (cause : LossCause) :
    Linked (if r = .chargeB then cause ≠ .withdrawal else s.arb.asks .chargeB) (afterLoss cause r s) := by
  refine Linked.congr (s := (linkLost cause r s).setQueue _) ⟨?_, (lost_link ..).symm, ?_⟩ (afterLoss_sameUsers s cause r)
  · exact unheld_sound (.inr (lost_link ..))
  · refine (lost_asks held _ _ _).trans ?_
    rw [bne_iff_ne]
    cases r <;> simp

theorem afterLoss_unheld (cause : LossCause) (r : Requester) (s : State) : (afterLoss cause r s).arb.link = .changeover := by
  rw [(afterLoss_sameUsers s cause r).arb]
  exact lost_link ..

theorem afterLoss_sameBalance {r : Requester} (ne : r ≠ .balance) (held : s.arb.link = .held r) (cause : LossCause) :
    SameBalance s (afterLoss cause r s) := by
  refine SameBalance.trans ?_ (afterLoss_sameUsers s cause r).balance
  rw [if_neg ne]
  refine ⟨?_, ?_, lost_backoffBalance_of_ne _ ne _ _, rfl, Iff.rfl, rfl⟩
  · show (s.arb.lost _ _ _).link = _ ↔ _
    rw [lost_link, held]
    exact iff_of_false nofun fun same => ne (LinkState.held.inj same)
  · show (s.arb.lost _ _ _).waiting.balance = _
    rw [lost_waiting]
    exact Waiting.has_put_other _ (Ne.symm ne) _

end

/-- R123: the state with the link FREE after a CHANGEOVER that chose nobody. -/
def linkFreed (s : State) : State := (s.setArb { s.arb with link := .free }).setHold { s.hold with view := .free }

theorem linkFreed_sameUsers (s : State) :
    SameUsers (linkFreed s) (reportLink (s.setArb { s.arb with link := .free })) := holdTest_sameUsers (linkFreed s)

theorem linkFreed_linked {s : State} {c : Prop} (linked : Linked c s) (link : s.arb.link = .changeover) :
    Linked c (linkFreed s) := by
  refine ⟨unheld_sound (.inl rfl), rfl, Iff.trans ?_ linked.chargeB⟩
  rw [Arbiter.asks, Arbiter.asks, link]
  exact or_congr_right (iff_of_false nofun nofun)

theorem linkFreed_sameBalance {s : State} (link : s.arb.link = .changeover) : SameBalance s (linkFreed s) :=
  ⟨by rw [link]; exact iff_of_false nofun nofun, rfl, rfl, rfl, Iff.rfl, rfl⟩

/-- R117: the requester waits. -/
def asked (r : Requester) (s : State) : State := s.setArb { s.arb with waiting := s.arb.waiting.put r true }

theorem asked_asks (r : Requester) (s : State) (q : Requester) : (asked r s).arb.asks q ↔ q = r ∨ s.arb.asks q := by
  show (s.arb.waiting.put r true).has q = true ∨ s.arb.link = .held q ↔ _
  by_cases own : q = r
  · subst own
    rw [Waiting.has_put_self]
    exact iff_of_true (.inl rfl) (.inl rfl)
  · rw [Waiting.has_put_other _ own]
    exact (or_iff_right own).symm

theorem asked_sameBalance {r : Requester} (ne : r ≠ .balance) (s : State) : SameBalance s (asked r s) :=
  ⟨Iff.rfl, Waiting.has_put_other _ (Ne.symm ne) true, rfl, rfl, Iff.rfl, rfl⟩

/-- R125, R128: the requester waits no more. -/
def unasked (r : Requester) (s : State) : State :=
  s.setArb { s.arb with waiting := s.arb.waiting.put r false
                        yieldPending := if s.arb.waiting.has r then s.arb.yieldPending && r != .chargeB else s.arb.yieldPending }

theorem withdrawLink_held (f : State → State) {r : Requester} {s : State} (held : s.arb.link = .held r) :
    withdrawLink f r s = loseLink f .withdrawal r s := by
  rw [withdrawLink, if_pos held]

theorem withdrawLink_unheld (f : State → State) {r : Requester} {s : State} (unheld : s.arb.link ≠ .held r) :
    withdrawLink f r s = unasked r s := by
  rw [withdrawLink, if_neg unheld, unasked]
  split
  · rfl
  next unwaited =>
    have same : s.arb.waiting.put r false = s.arb.waiting := by
      have kept := s.arb.waiting.put_has r
      rwa [Bool.eq_false_iff.mpr unwaited] at kept
    rw [same]
    rfl

theorem unasked_asks {r : Requester} {s : State} (unheld : s.arb.link ≠ .held r) (q : Requester) :
    (unasked r s).arb.asks q ↔ q ≠ r ∧ s.arb.asks q := by
  show (s.arb.waiting.put r false).has q = true ∨ s.arb.link = .held q ↔ _
  by_cases own : q = r
  · subst own
    rw [Waiting.has_put_self]
    exact iff_of_false (not_or.mpr ⟨nofun, unheld⟩) fun h => h.1 rfl
  · rw [Waiting.has_put_other _ own]
    exact (and_iff_right own).symm

theorem unasked_sound {s : State} (sound : s.arb.Sound) (r : Requester) : (unasked r s).arb.Sound := by
  have fewer {q : Requester} (waits : (s.arb.waiting.put r false).has q = true) : s.arb.waiting.has q = true := by
    by_cases own : q = r
    · subst own
      rw [Waiting.has_put_self] at waits
      contradiction
    · rwa [Waiting.has_put_other _ own] at waits
  refine ⟨fun q held => ?_, fun supply => sound.2 (fewer (q := .supply) supply)⟩
  exact Bool.eq_false_iff.mpr fun waits => Bool.eq_false_iff.mp (sound.1 q held) (fewer waits)

theorem unasked_sameBalance {r : Requester} (ne : r ≠ .balance) (s : State) : SameBalance s (unasked r s) :=
  ⟨Iff.rfl, Waiting.has_put_other _ (Ne.symm ne) false, rfl, rfl, Iff.rfl, rfl⟩

/-! ### The arbiter's operations, with any rule of the engine's -/

namespace BalanceRules
variable {f : State → State} {M : State → Prop} (rules : BalanceRules f M) {s : State} {c : Prop}
include rules

theorem grantLink {r : Requester} (linked : Linked c s) (m : M s) (unheld : s.arb.Unheld) (chosen : s.arb.choose = some r) :
    Linked c (grantLink f r s) ∧ M (grantLink f r s) := by
  by_cases ne : r = .balance
  · subst ne
    exact rules.granted linked m chosen unheld
  · have same := grantLink_sameUsers f s ne
    exact ⟨(linkGranted_linked linked unheld chosen).congr same,
      rules.congr ((linkGranted_sameBalance ne unheld).trans same.balance) m⟩

theorem chooseFree (linked : Linked c s) (m : M s) (free : s.arb.link = .free) :
    Linked c (chooseFree f s) ∧ M (chooseFree f s) := by
  unfold Machine.chooseFree
  split
  next chosen =>
    split
    · exact rules.grantLink linked m (.inl free) chosen
    · exact ⟨linked, m⟩
  next => exact ⟨linked, m⟩

theorem endChangeover (linked : Linked c s) (m : M s) (link : s.arb.link = .changeover) :
    Linked c (endChangeover f s) ∧ M (endChangeover f s) := by
  unfold Machine.endChangeover
  split
  next chosen => exact rules.grantLink linked m (.inr link) chosen
  next => exact ⟨(linkFreed_linked linked link).congr (linkFreed_sameUsers s),
      rules.congr ((linkFreed_sameBalance link).trans (linkFreed_sameUsers s).balance) m⟩

/-- A loss that has been taken, and the choice that may follow at once. -/
theorem loseLink {r : Requester} {cause : LossCause} (linked : Linked c (afterLoss cause r s)) (m : M (afterLoss cause r s)) :
    Linked c (loseLink f cause r s) ∧ M (loseLink f cause r s) := by
  rw [loseLink_eq]
  split
  · exact rules.endChangeover linked m (afterLoss_unheld cause r s)
  · exact ⟨linked, m⟩

/-- A loss that its holder does not ask for. -/
theorem loseLink_stands {r : Requester} {cause : LossCause} (chargeB : s.arb.asks .chargeB ↔ c) (m : M s)
    (held : s.arb.link = .held r) (taken : cause = .preemption ∨ cause = .yield) :
    Linked c (Machine.loseLink f cause r s) ∧ M (Machine.loseLink f cause r s) := by
  have stands : cause ≠ .withdrawal := by rintro rfl; simp at taken
  have linked : Linked c (afterLoss cause r s) := by
    obtain ⟨sound, view, asks⟩ := afterLoss_linked held cause
    refine ⟨sound, view, asks.trans ?_⟩
    split
    next own =>
      subst own
      exact iff_of_true stands (chargeB.mp (.inr held))
    next => exact chargeB
  refine rules.loseLink linked ?_
  by_cases ne : r = .balance
  · subst ne
    exact rules.lost m held taken
  · exact rules.congr (afterLoss_sameBalance ne held cause) m

theorem startYield {r : Requester} (linked : Linked c s) (m : M s) (held : s.arb.link = .held r) :
    Linked c (startYield f r s) ∧ M (startYield f r s) := by
  cases r with
  | chargeB =>
    show Linked c (Machine.loseLink f .yield .chargeB s) ∧ M (Machine.loseLink f .yield .chargeB s)
    exact rules.loseLink_stands linked.chargeB m held (.inr rfl)
  | balance =>
    have pending : SameBalance s (s.setArb { s.arb with yieldPending := true }) := ⟨Iff.rfl, rfl, rfl, rfl, Iff.rfl, rfl⟩
    exact ⟨⟨linked.sound, linked.view, linked.chargeB⟩, rules.congr pending m⟩
  | supply => exact ⟨linked, m⟩

/-- R117: a request that neither waits nor holds the link is raised. -/
theorem raiseLink_asked {r : Requester} (linked : Linked c s) (idle : ¬ s.arb.asks r) (m : M (asked r s)) :
    Linked (r = .chargeB ∨ c) (raiseLink f r s) ∧ M (raiseLink f r s) := by
  obtain ⟨unwaited, unheld⟩ := not_or.mp idle
  have asks : (asked r s).arb.asks .chargeB ↔ r = .chargeB ∨ c := (asked_asks r s .chargeB).trans
    (or_congr eq_comm linked.chargeB)
  have raised : raiseLink f r s = match s.arb.link with
      | .free => Machine.chooseFree f (asked r s)
      | .held holder => arriveHeld f r holder (asked r s)
      | .changeover => asked r s := by
    rw [raiseLink, if_neg]
    · rfl
    · rw [Bool.or_eq_true, decide_eq_true_iff]
      exact not_or.mpr ⟨unheld, unwaited⟩
  rw [raised]
  have waits (open_ : s.arb.Unheld) : Linked (r = .chargeB ∨ c) (asked r s) := ⟨unheld_sound open_, linked.view, asks⟩
  split
  next free => exact rules.chooseFree (waits (.inl free)) m free
  next holder held =>
    have kept (ne : r ≠ .supply) : Linked (r = .chargeB ∨ c) (asked r s) := by
      refine ⟨⟨fun q own => ?_, fun supply => ?_⟩, linked.view, asks⟩
      · have other : q ≠ r := fun same => unheld (same ▸ own)
        exact (Waiting.has_put_other _ other true).trans (linked.sound.1 q own)
      · exact linked.sound.2 ((Waiting.has_put_other s.arb.waiting (Ne.symm ne) true).symm.trans supply)
    have yields (ne : r ≠ .supply) (b : Bool) : Linked (r = .chargeB ∨ c) (if b then Machine.startYield f holder (asked r s)
        else asked r s) ∧ M (if b then Machine.startYield f holder (asked r s) else asked r s) := by
      split
      · exact rules.startYield (kept ne) m held
      · exact ⟨kept ne, m⟩
    cases r with
    | supply => exact rules.loseLink_stands asks m held (.inl rfl)
    | chargeB => exact yields nofun _
    | balance => exact yields nofun _
  next link => exact ⟨waits (.inr link), m⟩

/-- R117: SUPPLY or CHARGE_B is raised. -/
theorem raiseLink {r : Requester} (ne : r ≠ .balance) (linked : Linked c s) (m : M s) :
    Linked (r = .chargeB ∨ c) (Machine.raiseLink f r s) ∧ M (Machine.raiseLink f r s) := by
  by_cases idle : s.arb.asks r
  · have stays : Machine.raiseLink f r s = s := by
      rw [Machine.raiseLink, if_pos]
      rw [Bool.or_eq_true, decide_eq_true_iff]
      exact idle.symm
    rw [stays]
    refine ⟨⟨linked.sound, linked.view, linked.chargeB.trans (iff_or_self.mpr ?_)⟩, m⟩
    rintro rfl
    exact linked.chargeB.mp idle
  · exact rules.raiseLink_asked linked idle (rules.congr (asked_sameBalance ne s) m)

/-- R125, R128: SUPPLY or CHARGE_B is withdrawn. -/
theorem withdrawLink {r : Requester} (ne : r ≠ .balance) (linked : Linked c s) (m : M s) :
    Linked (r ≠ .chargeB ∧ c) (withdrawLink f r s) ∧ M (withdrawLink f r s) := by
  by_cases held : s.arb.link = .held r
  · rw [withdrawLink_held f held]
    refine rules.loseLink ?_ (rules.congr (afterLoss_sameBalance ne held _) m)
    obtain ⟨sound, view, asks⟩ := afterLoss_linked held .withdrawal
    refine ⟨sound, view, asks.trans ?_⟩
    split
    next own => exact iff_of_false (fun ne => ne rfl) fun h => h.1 own
    next other => rw [linked.chargeB, and_iff_right other]
  · rw [withdrawLink_unheld f held]
    refine ⟨⟨unasked_sound linked.sound r, linked.view, ?_⟩, rules.congr (unasked_sameBalance ne s) m⟩
    rw [unasked_asks held, linked.chargeB, ne_comm]

end BalanceRules

end Sys2Proof.Machine
end

section
/-! The balance engine against the arbiter (R138 to R150): what the head holds, and that every operation keeps it. -/

namespace Sys2Proof.Machine

/-! ### While BALANCE cannot be granted -/

/-- BALANCE does not hold the link, waits exactly where `waits` holds, and does not wait but in its backoff; the queue is q.
`backed` tells whether the backoff is known to run. -/
structure Calm (q : List Job) (waits backed : Bool) (s : State) : Prop where
  unheld : s.arb.link ≠ .held .balance
  waiting : s.arb.waiting.balance = waits
  backoff : backed = true → s.arb.backoffBalance ≠ none
  within : waits = true → backed = true
  queue : s.bal.queue = q

/-- In calm BALANCE is not chosen, so no operation asks the engine anything. -/
theorem calmRules (f : State → State) (q : List Job) (waits backed : Bool) (off : Prop) (hot : Bool) : BalanceRules f fun s =>
    Calm q waits backed s ∧ (s.hold.state = .off ↔ off) ∧ s.bal.dieHot = hot where
  congr same m := ⟨⟨mt same.held.mp m.1.unheld, same.waits.trans m.1.waiting, fun b => same.backoff ▸ m.1.backoff b, m.1.within,
    same.queue.trans m.1.queue⟩, same.off.trans m.2.1, same.hot.trans m.2.2⟩
  granted _ m chosen _ := by
    obtain ⟨waiting, free⟩ := waits_of_choose chosen
    exact absurd free (m.1.backoff (m.1.within (m.1.waiting.symm.trans waiting)))
  lost m held _ := absurd held m.1.unheld

/-! ### The queue (R134, R135) -/

/-- R134, R135: at most 4 jobs, their fields in range and their tags distinct, and none but the head has run. -/
structure QueueSound (q : List Job) : Prop where
  length : q.length ≤ Config.queueDepth
  fresh : ∀ j ∈ q.tail, j.Fresh
  sound : ∀ j ∈ q, j.Sound
  tags : (q.map Job.tag).Nodup

theorem Balance.sound_iff (b : Balance) : b.Sound ↔ b.tagCounter < 256 ∧ QueueSound b.queue :=
  ⟨fun ⟨counter, length, fresh, sound, tags⟩ => ⟨counter, length, fresh, sound, tags⟩,
    fun ⟨counter, h⟩ => ⟨counter, h.length, h.fresh, h.sound, h.tags⟩⟩

theorem QueueSound.tail {j : Job} {rest : List Job} (h : QueueSound (j :: rest)) : QueueSound rest :=
  ⟨Nat.le_of_succ_le h.length, fun k hk => h.fresh k (List.mem_of_mem_tail hk), fun k hk => h.sound k (.tail j hk),
    (List.nodup_cons.mp h.tags).2⟩

/-- A head that another takes the place of, under its tag. -/
theorem QueueSound.head {j k : Job} {rest : List Job} (h : QueueSound (j :: rest)) (tag : k.tag = j.tag) (sound : k.Sound) :
    QueueSound (k :: rest) := by
  refine ⟨h.length, h.fresh, ?_, ?_⟩
  · intro l hl
    rcases List.mem_cons.mp hl with rfl | hl
    · exact sound
    · exact h.sound l (.tail j hl)
  · rw [List.map_cons, tag]
    exact h.tags

/-- R141: a job that does not run, QUEUED or SUSPENDED. -/
theorem Job.Sound.waits {j : Job} (h : j.Sound) (unheld : j.heldSince = none) {st : JobState} (stopped : st ≠ .running) :
    ({ j with state := st } : Job).Sound := by
  obtain ⟨tag, originator, least, most, slow, fast, tolerance, moved, residue, running, resolved, aToB, bToA⟩ := h
  exact ⟨tag, originator, least, most, slow, fast, tolerance, moved, residue,
    iff_of_false stopped (fun held => held unheld), fun runs => absurd runs stopped, aToB, bToA⟩

/-- R140, R141: a job whose run ends. -/
theorem Job.Sound.stops {j : Job} (h : j.Sound) (now : Nat) {st : JobState} (stopped : st ≠ .running) :
    (j.stops now st).Sound := by
  obtain ⟨tag, originator, least, most, slow, fast, tolerance, moved, residue, running, resolved, aToB, bToA⟩ := h
  exact ⟨tag, originator, least, most, slow, fast, tolerance, moved, residue,
    iff_of_false stopped (fun held => held rfl), fun runs => absurd runs stopped, aToB, bToA⟩

/-- R139: the direction that a job resolves to is one that it was asked for. -/
theorem Job.resolve_asked {x : Sample} {j : Job} {w : Way} (h : j.Sound) (resolves : j.resolve x = some w) :
    (w = .aToB → j.direction ≠ .bToA) ∧ (w = .bToA → j.direction ≠ .aToB) := by
  obtain ⟨-, -, -, -, -, -, -, -, -, -, -, aToB, bToA⟩ := h
  unfold Job.resolve at resolves
  cases resolved : j.resolved with
  | some v =>
    rw [resolved] at resolves
    obtain rfl := Option.some.inj resolves
    exact ⟨fun way => aToB (way ▸ resolved), fun way => bToA (way ▸ resolved)⟩
  | none =>
    rw [resolved] at resolves
    cases direction : j.direction with
    | aToB =>
      rw [direction] at resolves
      obtain rfl := Option.some.inj resolves
      exact ⟨nofun, nofun⟩
    | bToA =>
      rw [direction] at resolves
      obtain rfl := Option.some.inj resolves
      exact ⟨nofun, nofun⟩
    | towardLower => exact ⟨nofun, nofun⟩

/-- R139: a job that starts. -/
theorem Job.Sound.starts {x : Sample} {j : Job} {w : Way} (h : j.Sound) (resolves : j.resolve x = some w) (now : Nat) :
    ({ j with state := .running, resolved := some w, heldSince := some now } : Job).Sound := by
  obtain ⟨asked, other⟩ := Job.resolve_asked h resolves
  obtain ⟨tag, originator, least, most, slow, fast, tolerance, moved, residue, -, -, -, -⟩ := h
  exact ⟨tag, originator, least, most, slow, fast, tolerance, moved, residue, iff_of_true rfl nofun, fun _ => nofun,
    fun way => asked (Option.some.inj way), fun way => other (Option.some.inj way)⟩

theorem startCheck_resolves {x : Sample} {j : Job} {w : Way} (passes : j.startCheck x = .inl w) : j.resolve x = some w := by
  unfold Job.startCheck at passes
  split at passes
  · contradiction
  next resolves =>
    split at passes
    · contradiction
    · split at passes
      · contradiction
      · rwa [← Sum.inl.inj passes]

/-! ### The engine stands as it should -/

/-- R138: the head may ask for the link, as the engine was told. -/
abbrev State.Allowed (s : State) : Prop := s.hold.state = .off ∧ s.bal.dieHot = false

theorem balanceAllowed_iff (s : State) : s.balanceAllowed = true ↔ s.Allowed := by
  rw [State.balanceAllowed, Bool.and_eq_true, beq_iff_eq, Bool.not_eq_true']

/-- R134, R135, R138 to R141: the queue is sound, BALANCE is asked for exactly where a head is not SUSPENDED, and the head is
SUSPENDED exactly where it may not ask, and RUNNING exactly while BALANCE holds the link. -/
structure EngineStands (s : State) : Prop where
  queue : QueueSound s.bal.queue
  asks : (∃ j ∈ s.bal.queue.head?, j.state ≠ .suspended) ↔ s.arb.asks .balance
  suspended : ∀ j ∈ s.bal.queue.head?, (j.state = .suspended ↔ ¬ s.Allowed)
  running : ∀ j ∈ s.bal.queue.head?, (j.state = .running ↔ s.arb.link = .held .balance)

section
variable {s t : State} {c : Prop} {q : List Job} {waits backed : Bool}

theorem EngineStands.congr (h : EngineStands s) (held : t.arb.link = .held .balance ↔ s.arb.link = .held .balance)
    (waits : t.arb.waiting.balance = s.arb.waiting.balance) (queue : t.bal.queue = s.bal.queue)
    (off : t.hold.state = .off ↔ s.hold.state = .off) (hot : t.bal.dieHot = s.bal.dieHot) : EngineStands t := by
  have allowed : t.Allowed ↔ s.Allowed := by rw [State.Allowed, off, hot]
  refine ⟨queue ▸ h.queue, ?_, ?_, ?_⟩
  · rw [queue, h.asks]
    exact or_congr (by rw [Waiting.has, Waiting.has, waits]) held.symm
  · rw [queue]
    exact fun j hj => (h.suspended j hj).trans (not_congr allowed.symm)
  · rw [queue]
    exact fun j hj => (h.running j hj).trans held.symm

theorem EngineStands.same (h : EngineStands s) (same : SameUsers s t) : EngineStands t :=
  h.congr (by rw [same.arb]) (by rw [same.arb]) same.queue same.off same.hot

/-- In calm the engine stands where BALANCE waits exactly for a head that is QUEUED. -/
theorem EngineStands.of_calm (calm : Calm q waits backed s) (queue : QueueSound q) (idle : q = [] → waits = false)
    (head : ∀ j ∈ q.head?, j.state ≠ .running ∧ (j.state = .suspended ↔ ¬ s.Allowed) ∧ (j.state ≠ .suspended ↔ waits = true)) :
    EngineStands s := by
  obtain rfl := calm.queue
  have asks : s.arb.asks .balance ↔ waits = true := by
    rw [Arbiter.asks, or_iff_left calm.unheld]
    exact iff_of_eq (congrArg (· = true) calm.waiting)
  refine ⟨queue, ?_, fun j hj => (head j hj).2.1, fun j hj => iff_of_false (head j hj).1 calm.unheld⟩
  rw [asks]
  cases first : s.bal.queue.head? with
  | none =>
    rw [idle (List.head?_eq_none_iff.mp first)]
    exact iff_of_false (by nofun) nofun
  | some j =>
    rw [← (head j first).2.2]
    constructor
    · rintro ⟨k, hk, state⟩
      rwa [Option.some.inj hk]
    · exact fun state => ⟨j, rfl, state⟩

end

/-! ### The head withdraws, and the next job becomes the head (R138, R145) -/

/-- R140: a withdrawal finds the head out of RUNNING. -/
theorem lossQueue_withdrawal (now : Nat) (q : List Job) : lossQueue .withdrawal now q = q := by
  cases q with
  | nil => rfl
  | cons j rest => simp [lossQueue]

/-- R140: a head whose link is taken is QUEUED again. -/
theorem lossQueue_taken {cause : LossCause} (taken : cause = .preemption ∨ cause = .yield) {j : Job} (running : j.state = .running)
    (now : Nat) (rest : List Job) : lossQueue cause now (j :: rest) = j.stops now .queued :: rest :=
  if_pos ⟨taken, running⟩

section
variable {f : State → State} {s : State} {c : Prop} {q : List Job}

/-- R125: after BALANCE is withdrawn it neither waits nor holds the link; its backoff runs where it held it. -/
theorem withdrawBalance_calm (f : State → State) (sound : s.arb.Sound) (chargeB : s.arb.asks .chargeB ↔ c)
    (view : s.hold.view = s.arb.link ∨ s.arb.link = .held .balance) :
    Linked c (withdrawLink f .balance s)
      ∧ Calm s.bal.queue false (decide (s.arb.link = .held .balance)) (withdrawLink f .balance s)
      ∧ ((withdrawLink f .balance s).hold.state = .off ↔ s.hold.state = .off)
      ∧ (withdrawLink f .balance s).bal.dieHot = s.bal.dieHot := by
  by_cases held : s.arb.link = .held .balance
  · rw [withdrawLink_held f held, decide_eq_true held]
    have after := afterLoss_sameUsers s .withdrawal .balance
    have linked : Linked c (afterLoss .withdrawal .balance s) := by
      obtain ⟨sound, view, asks⟩ := afterLoss_linked held .withdrawal
      exact ⟨sound, view, asks.trans ((iff_of_eq (if_neg nofun)).trans chargeB)⟩
    have queue : (afterLoss .withdrawal .balance s).bal.queue = s.bal.queue := by
      rw [after.queue, if_pos rfl]
      exact lossQueue_withdrawal _ _
    have calm : Calm s.bal.queue false true (afterLoss .withdrawal .balance s) :=
      ⟨by rw [after.arb]; nofun, by rw [after.arb]; rfl, fun _ => by rw [after.arb]; nofun, nofun, queue⟩
    exact (calmRules f s.bal.queue false true (s.hold.state = .off) s.bal.dieHot).loseLink linked
      ⟨calm, after.off, after.hot⟩
  · rw [withdrawLink_unheld f held, decide_eq_false held]
    exact ⟨⟨unasked_sound sound _, view.resolve_right held, (unasked_asks held _).trans ((and_iff_right nofun).trans chargeB)⟩,
      ⟨held, rfl, nofun, nofun, rfl⟩, Iff.rfl, rfl⟩

/-- R138: a head that may ask for the link: the arbiter takes the request, and the engine stands. -/
theorem raiseBalance (rules : BalanceRules f EngineStands) (linked : Linked c s) {backed : Bool} (calm : Calm q false backed s)
    (stands : EngineStands (asked .balance s)) :
    Linked c (raiseLink f .balance s) ∧ EngineStands (raiseLink f .balance s) := by
  have raised := rules.raiseLink_asked linked (r := .balance) (not_or.mpr ⟨by rw [Waiting.has, calm.waiting]; nofun, calm.unheld⟩)
    stands
  exact ⟨⟨raised.1.sound, raised.1.view, raised.1.chargeB.trans (or_iff_right nofun)⟩, raised.2⟩

/-- R129, R138: in its backoff BALANCE is not granted, whatever the engine would answer. -/
theorem raiseBalance_backed (f : State → State) (linked : Linked c s) (calm : Calm q false true s)
    (stands : EngineStands (asked .balance s)) :
    Linked c (raiseLink f .balance s) ∧ EngineStands (raiseLink f .balance s) := by
  have waits : Calm q true true (asked .balance s) := ⟨calm.unheld, rfl, calm.backoff, fun _ => rfl, calm.queue⟩
  obtain ⟨kept, after, off, hot⟩ := (calmRules f q true true (s.hold.state = .off) s.bal.dieHot).raiseLink_asked linked
    (r := .balance) (not_or.mpr ⟨by rw [Waiting.has, calm.waiting]; nofun, calm.unheld⟩) ⟨waits, Iff.rfl, rfl⟩
  refine ⟨⟨kept.sound, kept.view, kept.chargeB.trans (or_iff_right nofun)⟩, ?_⟩
  exact stands.congr (iff_of_false after.unheld waits.unheld) (after.waiting.trans waits.waiting.symm)
    (after.queue.trans waits.queue.symm) off hot

/-- R138: the first job of a queue in which none has run becomes the head, by one of the two rules above. -/
theorem newHead_stands (linked : Linked c s) {backed : Bool} (calm : Calm q false backed s) (sound : QueueSound q)
    (fresh : ∀ j ∈ q, j.Fresh)
    (raise : ∀ u q, Linked c u → Calm q false backed u → EngineStands (asked .balance u) →
      Linked c (raiseLink f .balance u) ∧ EngineStands (raiseLink f .balance u)) :
    Linked c (newHead f s) ∧ EngineStands (newHead f s) := by
  obtain rfl := calm.queue
  unfold newHead
  cases queue : s.bal.queue with
  | nil =>
    rw [queue] at calm sound
    exact ⟨linked, .of_calm calm sound (fun _ => rfl) (by nofun)⟩
  | cons j rest =>
    rw [queue] at sound fresh
    have unrun : j.heldSince = none := (fresh j (.head rest)).2.2.2.2.1
    have placed {st : JobState} (stopped : st ≠ .running) : QueueSound ({ j with state := st } :: rest) :=
      sound.head rfl ((sound.sound j (.head rest)).waits unrun stopped)
    dsimp only
    split
    next allowed =>
      refine raise _ ({ j with state := .queued } :: rest) ⟨linked.sound, linked.view, linked.chargeB⟩
        ⟨calm.unheld, calm.waiting, calm.backoff, nofun, rfl⟩ ⟨placed nofun, ?_, ?_, ?_⟩
      · exact iff_of_true ⟨_, rfl, nofun⟩ (.inl rfl)
      · rintro _ ⟨⟩
        exact iff_of_false nofun (not_not.mpr ((balanceAllowed_iff s).mp allowed))
      · rintro _ ⟨⟩
        exact iff_of_false nofun calm.unheld
    next forbidden =>
      refine ⟨⟨linked.sound, linked.view, linked.chargeB⟩, .of_calm (q := { j with state := .suspended } :: rest)
        ⟨calm.unheld, calm.waiting, calm.backoff, calm.within, rfl⟩ (placed nofun) nofun ?_⟩
      rintro _ ⟨⟩
      exact ⟨nofun, iff_of_true rfl (mt (balanceAllowed_iff s).mpr forbidden), iff_of_false (fun h => h rfl) nofun⟩

/-- R202: the test of an emptied queue does not meet the users of the link. -/
theorem queueEmptied_sameUsers (s : State) : SameUsers s (queueEmptied s) := by
  unfold queueEmptied
  split
  · exact monitorTest_sameUsers s
  · exact .refl s

/-- R145: a head that does not ask for the link ends, and the next takes its place. -/
theorem endsCalm {j : Job} (reason : EndReason) (linked : Linked c s) {backed : Bool} (calm : Calm q false backed s)
    (sound : QueueSound q) (fresh : ∀ j ∈ q, j.Fresh)
    (raise : ∀ u q, Linked c u → Calm q false backed u → EngineStands (asked .balance u) →
      Linked c (raiseLink f .balance u) ∧ EngineStands (raiseLink f .balance u)) :
    Linked c (queueEmptied (newHead f (recordEnding j reason s)))
      ∧ EngineStands (queueEmptied (newHead f (recordEnding j reason s))) := by
  have recorded := recordEnding_sameUsers j reason s
  have after : Calm q false backed (recordEnding j reason s) :=
    ⟨recorded.arb ▸ calm.unheld, recorded.arb ▸ calm.waiting, recorded.arb ▸ calm.backoff, calm.within,
      recorded.queue.trans calm.queue⟩
  obtain ⟨kept, stands⟩ := newHead_stands (linked.congr recorded) after sound fresh raise
  exact ⟨kept.congr (queueEmptied_sameUsers _), stands.same (queueEmptied_sameUsers _)⟩

/-- R145: the head ends. One that is SUSPENDED must not ask for the link. -/
theorem endHead_stands {j : Job} {rest : List Job} (reason : EndReason) (queue : s.bal.queue = j :: rest)
    (sound : QueueSound (j :: rest)) (arb : s.arb.Sound) (chargeB : s.arb.asks .chargeB ↔ c)
    (view : s.hold.view = s.arb.link ∨ s.arb.link = .held .balance) (suspended : j.state = .suspended → ¬ s.arb.asks .balance)
    (raise : ∀ u q, Linked c u → Calm q false (decide (s.arb.link = .held .balance)) u → EngineStands (asked .balance u) →
      Linked c (raiseLink f .balance u) ∧ EngineStands (raiseLink f .balance u)) :
    Linked c (endHead f reason s) ∧ EngineStands (endHead f reason s) := by
  unfold endHead
  rw [queue]
  dsimp only
  split
  next state =>
    obtain ⟨unwaited, unheld⟩ := not_or.mp (suspended state)
    have calm : Calm rest false (decide (s.arb.link = .held .balance)) (s.setQueue rest) :=
      ⟨unheld, Bool.eq_false_iff.mpr unwaited, fun b => absurd (of_decide_eq_true b) unheld, nofun, rfl⟩
    exact endsCalm reason ⟨arb, view.resolve_right unheld, chargeB⟩ calm sound.tail sound.fresh raise
  next =>
    obtain ⟨linked, calm, -, -⟩ := withdrawBalance_calm f (s := s.setQueue rest) arb chargeB view
    exact endsCalm reason linked calm sound.tail sound.fresh raise

end

/-! ### The start checks keep the rule (R139) -/

/-- R132: once the hold control has the link state, the arbiter and its users agree. -/
theorem reported_linked {s : State} {c : Prop} (sound : s.arb.Sound) (chargeB : s.arb.asks .chargeB ↔ c) :
    Linked c (trigger (reportLink s)) :=
  Linked.congr (s := s.setHold { s.hold with view := s.arb.link }) ⟨sound, rfl, chargeB⟩ (reportLink_sameUsers s)

/-- R132: the report of the link state does not meet the engine. -/
theorem reported_stands {s : State} (stands : EngineStands s) : EngineStands (trigger (reportLink s)) :=
  EngineStands.same (s := s.setHold { s.hold with view := s.arb.link })
    (stands.congr Iff.rfl rfl rfl Iff.rfl rfl) (reportLink_sameUsers s)

/-- R139: the engine's answer to a grant: the head runs, or ends and the link goes back. -/
theorem startChecks_stands {s : State} {c : Prop} {j : Job} {rest : List Job} (queue : s.bal.queue = j :: rest)
    (queued : j.state = .queued) (queueSound : QueueSound (j :: rest)) (held : s.arb.link = .held .balance)
    (allowed : s.Allowed) (sound : s.arb.Sound) (chargeB : s.arb.asks .chargeB ↔ c) :
    (startChecks s).arb.Sound ∧ ((startChecks s).arb.asks .chargeB ↔ c) ∧ EngineStands (startChecks s) := by
  unfold startChecks
  rw [queue]
  dsimp only
  rw [if_pos queued]
  split
  next w passes =>
    let runs : Job := { j with state := .running, resolved := some w, heldSince := some s.now }
    have followed := linkFollow_sameUsers (s.setQueue (runs :: rest))
    have resolves := startCheck_resolves passes
    refine ⟨followed.arb ▸ sound, followed.arb ▸ chargeB, EngineStands.same (s := s.setQueue (runs :: rest)) ⟨?_, ?_, ?_, ?_⟩ followed⟩
    · exact queueSound.head rfl ((queueSound.sound j (.head rest)).starts resolves s.now)
    · exact iff_of_true ⟨runs, rfl, nofun⟩ (.inr held)
    · rintro _ ⟨⟩
      exact iff_of_false nofun (not_not.mpr allowed)
    · rintro _ ⟨⟩
      exact iff_of_true rfl held
  next reason _ =>
    have backed : decide (s.arb.link = .held .balance) = true := decide_eq_true held
    obtain ⟨linked, stands⟩ := endHead_stands (f := id) reason queue queueSound sound chargeB (.inr held)
      (fun suspended => by rw [queued] at suspended; contradiction)
      (fun u q linked calm => raiseBalance_backed id linked (backed ▸ calm))
    exact ⟨linked.sound, linked.chargeB, stands⟩

/-- R139, R140: a grant that the engine answers with its start checks, and a loss, leave the engine standing. -/
theorem engineRules : BalanceRules startChecks EngineStands where
  congr same m := m.congr same.held same.waits same.queue same.off same.hot
  granted := by
    intro c s linked stands chosen unheld
    obtain ⟨waiting, -⟩ := waits_of_choose chosen
    obtain ⟨j, head, state⟩ := stands.asks.mpr (.inl waiting)
    have idle : j.state ≠ .running := mt (stands.running j head).mp (Arbiter.Unheld.not_held unheld _)
    have queued : j.state = .queued := by cases h : j.state <;> simp_all
    obtain ⟨rest, queue⟩ := List.head?_eq_some_iff.mp head
    have allowed : s.Allowed := not_not.mp (mt (stands.suspended j head).mpr state)
    have followed := linkFollow_sameUsers (s.setArb (s.arb.granted s.now s.settings.tenure .balance))
    have granted := linkGranted_linked linked unheld chosen
    obtain ⟨sound, chargeB, stands⟩ := startChecks_stands (c := c) (s := linkFollow (s.setArb (s.arb.granted s.now s.settings.tenure .balance)))
      (followed.queue.trans queue) queued (queue ▸ stands.queue) (by rw [followed.arb]; rfl)
      ⟨followed.off.mpr allowed.1, followed.hot.trans allowed.2⟩ (by rw [followed.arb]; exact granted.sound)
      (by rw [followed.arb]; exact granted.chargeB)
    exact ⟨reported_linked sound chargeB, reported_stands stands⟩
  lost := by
    intro s cause stands held taken
    have after := afterLoss_sameUsers s cause .balance
    obtain ⟨j, head, state⟩ := stands.asks.mpr (.inr held)
    have running : j.state = .running := (stands.running j head).mpr held
    obtain ⟨rest, queue⟩ := List.head?_eq_some_iff.mp head
    have allowed : s.Allowed := not_not.mp (mt (stands.suspended j head).mpr state)
    have sound : QueueSound (j :: rest) := queue ▸ stands.queue
    have waits : (cause != .withdrawal) = true := by rcases taken with rfl | rfl <;> rfl
    rw [if_pos rfl, queue, lossQueue_taken taken running] at after
    refine EngineStands.same ⟨?_, ?_, ?_, ?_⟩ after
    · exact sound.head rfl ((sound.sound j (.head rest)).stops s.now nofun)
    · exact iff_of_true ⟨_, rfl, nofun⟩ (.inl waits)
    · rintro _ ⟨⟩
      exact iff_of_false nofun (not_not.mpr allowed)
    · rintro _ ⟨⟩
      exact iff_of_false nofun nofun

end Sys2Proof.Machine
end

section
/-! The engine's own operations (R138 to R150): each leaves the arbiter and the engine standing. -/

namespace Sys2Proof.Machine

/-- What stands of the engine while it has not been told of the hold or of DIE_HOT: all but that the head is SUSPENDED where it
should be. -/
structure EngineAsks (s : State) : Prop where
  queue : QueueSound s.bal.queue
  asks : (∃ j ∈ s.bal.queue.head?, j.state ≠ .suspended) ↔ s.arb.asks .balance
  running : ∀ j ∈ s.bal.queue.head?, (j.state = .running ↔ s.arb.link = .held .balance)

/-- The engine stands, but that a SUSPENDED head may still be to be released. -/
structure EngineLags (s : State) : Prop extends EngineAsks s where
  forbidden : ¬ s.Allowed → ∀ j ∈ s.bal.queue.head?, j.state = .suspended

/-- The arbiter and the engine stand, CHARGE_B asked for exactly where `c` holds. -/
abbrev Stand (c : Prop) (s : State) : Prop := Linked c s ∧ EngineStands s

section
variable {s t : State} {c : Prop}

theorem EngineStands.engineAsks (h : EngineStands s) : EngineAsks s := ⟨h.queue, h.asks, h.running⟩

theorem EngineStands.lags (h : EngineStands s) : EngineLags s :=
  ⟨h.engineAsks, fun forbidden j hj => (h.suspended j hj).mpr forbidden⟩

theorem EngineAsks.stands (h : EngineAsks s) (suspended : ∀ j ∈ s.bal.queue.head?, (j.state = .suspended ↔ ¬ s.Allowed)) :
    EngineStands s := ⟨h.queue, h.asks, suspended, h.running⟩

theorem EngineAsks.congr (h : EngineAsks s) (held : t.arb.link = .held .balance ↔ s.arb.link = .held .balance)
    (waits : t.arb.waiting.balance = s.arb.waiting.balance) (queue : t.bal.queue = s.bal.queue) : EngineAsks t := by
  refine ⟨queue ▸ h.queue, ?_, ?_⟩
  · rw [queue, h.asks]
    exact or_congr (by rw [Waiting.has, Waiting.has, waits]) held.symm
  · rw [queue]
    exact fun j hj => (h.running j hj).trans held.symm

theorem EngineAsks.same (h : EngineAsks s) (same : SameUsers s t) : EngineAsks t :=
  h.congr (by rw [same.arb]) (by rw [same.arb]) same.queue

theorem EngineLags.congr (h : EngineLags s) (same : SameBalance s t) : EngineLags t := by
  refine ⟨h.toEngineAsks.congr same.held same.waits same.queue, ?_⟩
  rw [same.queue, State.Allowed, same.off, same.hot]
  exact h.forbidden

/-- A head that asks for the link is not one to be released. -/
theorem EngineLags.stands_of_asks (h : EngineLags s) (asks : s.arb.asks .balance) : EngineStands s := by
  obtain ⟨j, head, state⟩ := h.asks.mpr asks
  refine h.toEngineAsks.stands fun k hk => ?_
  obtain rfl := Option.mem_unique hk head
  exact iff_of_false state (not_not.mpr (not_not.mp (mt (h.forbidden · k head) state)))

/-- The rule of the engine, also while a head is still to be released. -/
theorem lagRules : BalanceRules startChecks EngineLags where
  congr same m := m.congr same
  granted linked m chosen unheld := by
    have kept := engineRules.granted linked (m.stands_of_asks (.inl (waits_of_choose chosen).1)) chosen unheld
    exact ⟨kept.1, kept.2.lags⟩
  lost m held taken := (engineRules.lost (m.stands_of_asks (.inr held)) held taken).lags

/-! ### The arbiter's operations with the start checks in place -/

theorem raiseReq_stand {r : Requester} (ne : r ≠ .balance) (h : Stand c s) : Stand (r = .chargeB ∨ c) (raiseReq r s) :=
  engineRules.raiseLink ne h.1 h.2

theorem withdrawReq_stand {r : Requester} (ne : r ≠ .balance) (h : Stand c s) : Stand (r ≠ .chargeB ∧ c) (withdrawReq r s) :=
  engineRules.withdrawLink ne h.1 h.2

/-- R138, R145: from calm, the next job becomes the head. -/
theorem newHead_stand {q : List Job} {backed : Bool} (linked : Linked c s) (calm : Calm q false backed s) (sound : QueueSound q)
    (fresh : ∀ j ∈ q, j.Fresh) : Stand c (newHead startChecks s) :=
  newHead_stands linked calm sound fresh fun _ _ linked calm => raiseBalance engineRules linked calm

/-- R145: the head ends, whether or not it was RUNNING where it should. -/
theorem finishHead_stand_of {j : Job} {rest : List Job} (reason : EndReason) (queue : s.bal.queue = j :: rest)
    (sound : QueueSound (j :: rest)) (linked : Linked c s) (suspended : j.state = .suspended → ¬ s.arb.asks .balance) :
    Stand c (finishHead reason s) :=
  endHead_stands reason queue sound linked.sound linked.chargeB (.inl linked.view) suspended
    fun _ _ linked calm => raiseBalance engineRules linked calm

theorem EngineAsks.not_asks_of_suspended (h : EngineAsks s) {j : Job} (head : j ∈ s.bal.queue.head?) (state : j.state = .suspended) :
    ¬ s.arb.asks .balance := by
  rw [← h.asks]
  rintro ⟨k, hk, other⟩
  obtain rfl := Option.mem_unique hk head
  exact other state

theorem finishHead_stand (reason : EndReason) (h : Stand c s) : Stand c (finishHead reason s) := by
  cases queue : s.bal.queue with
  | nil =>
    have stays : finishHead reason s = s := by rw [finishHead, endHead, queue]
    rwa [stays]
  | cons j rest =>
    exact finishHead_stand_of reason queue (queue ▸ h.2.queue) h.1
      (h.2.engineAsks.not_asks_of_suspended (by rw [queue]; rfl))

theorem endAll_stand (n : Nat) : ∀ {s : State}, Stand c s → Stand c (endAll n s) := by
  induction n with
  | zero => exact id
  | succ n ih => exact fun h => ih (finishHead_stand .fault h)

theorem linkFaultToEngine_stand (h : Stand c s) : Stand c (linkFaultToEngine s) := by
  unfold linkFaultToEngine
  split
  · exact h
  · split
    · exact finishHead_stand .fault h
    · exact h

/-! ### Suspension and release (R141) -/

/-- R141: a head that may no longer ask for the link withdraws and is SUSPENDED. -/
theorem suspendHead_stand (linked : Linked c s) (asks : EngineAsks s) (forbidden : ¬ s.Allowed) : Stand c (suspendHead s) := by
  have withdrawn {k : Job} {rest : List Job} {u : State} (same : SameUsers (s.setQueue (k :: rest)) u)
      (suspended : k.state = .suspended) (sound : QueueSound (k :: rest)) : Stand c (withdrawReq .balance u) := by
    obtain ⟨after, calm, off, hot⟩ := withdrawBalance_calm startChecks (s := u) (c := c) (same.arb ▸ linked.sound)
      (same.arb ▸ linked.chargeB) (.inl (by rw [same.view, same.arb]; exact linked.view))
    have still : ¬ (withdrawLink startChecks .balance u).Allowed := by
      rw [State.Allowed, off, same.off, hot, same.hot]
      exact forbidden
    refine ⟨after, .of_calm (same.queue ▸ calm) sound nofun ?_⟩
    rintro _ ⟨⟩
    exact ⟨by rw [suspended]; nofun, iff_of_true suspended still, iff_of_false (fun h => h suspended) nofun⟩
  unfold suspendHead
  cases queue : s.bal.queue with
  | nil =>
    refine ⟨linked, asks.stands ?_⟩
    rw [queue]
    nofun
  | cons j rest =>
    have sound : QueueSound (j :: rest) := queue ▸ asks.queue
    have head : j ∈ s.bal.queue.head? := by rw [queue]; rfl
    dsimp only
    split
    next state =>
      refine ⟨linked, asks.stands fun k hk => ?_⟩
      obtain rfl := Option.mem_unique hk head
      exact iff_of_true state forbidden
    next state =>
      have unrun : j.heldSince = none := by
        obtain ⟨-, -, -, -, -, -, -, -, -, running, -⟩ := sound.sound j (.head rest)
        exact not_not.mp (mt running.mpr (by rw [state]; nofun))
      exact withdrawn (.refl _) rfl (sound.head rfl ((sound.sound j (.head rest)).waits unrun nofun))
    next state =>
      exact withdrawn (linkFollow_sameUsers _) rfl (sound.head rfl ((sound.sound j (.head rest)).stops s.now nofun))

/-- R141: a SUSPENDED head that may ask for the link again is released. -/
theorem releaseHead_stand (linked : Linked c s) (lags : EngineLags s) : Stand c (releaseHead s) := by
  unfold releaseHead
  cases queue : s.bal.queue with
  | nil =>
    refine ⟨linked, lags.stands ?_⟩
    rw [queue]
    nofun
  | cons j rest =>
    have head : j ∈ s.bal.queue.head? := by rw [queue]; rfl
    have sound : QueueSound (j :: rest) := queue ▸ lags.queue
    dsimp only
    split
    next release =>
      rw [Bool.and_eq_true, decide_eq_true_iff, balanceAllowed_iff] at release
      obtain ⟨state, allowed⟩ := release
      obtain ⟨unwaited, unheld⟩ := not_or.mp (lags.not_asks_of_suspended head state)
      have unrun : j.heldSince = none := by
        obtain ⟨-, -, -, -, -, -, -, -, -, running, -⟩ := sound.sound j (.head rest)
        exact not_not.mp (mt running.mpr (by rw [state]; nofun))
      have calm : Calm ({ j with state := .queued } :: rest) false false (s.setQueue ({ j with state := .queued } :: rest)) :=
        ⟨unheld, Bool.eq_false_iff.mpr unwaited, nofun, nofun, rfl⟩
      refine raiseBalance engineRules ⟨linked.sound, linked.view, linked.chargeB⟩ calm ⟨?_, ?_, ?_, ?_⟩
      · exact sound.head rfl ((sound.sound j (.head rest)).waits unrun nofun)
      · exact iff_of_true ⟨_, rfl, nofun⟩ (.inl rfl)
      · rintro _ ⟨⟩
        exact iff_of_false nofun (not_not.mpr allowed)
      · rintro _ ⟨⟩
        exact iff_of_false nofun unheld
    next stays =>
      rw [Bool.and_eq_true, decide_eq_true_iff, balanceAllowed_iff, not_and] at stays
      refine ⟨linked, lags.stands fun k hk => ?_⟩
      obtain rfl := Option.mem_unique hk head
      exact ⟨stays, (lags.forbidden · k head)⟩

end

/-! ### Credits (R142 to R144) -/

/-- R135, R143: a credited job stays in its ranges. -/
theorem Job.Sound.credited {j : Job} (h : j.Sound) (credit stop : Nat) : (j.credited credit stop).Sound := by
  obtain ⟨tag, originator, least, most, slow, fast, tolerance, -, -, running, resolved, aToB, bToA⟩ := h
  exact ⟨tag, originator, least, most, slow, fast, tolerance, min_le_left _ _, Nat.mod_lt _ (by decide), running, resolved, aToB,
    bToA⟩

section
variable {s t : State} {c : Prop}

/-- A head that another of the same state takes the place of. -/
theorem Stand.setHead {j k : Job} {rest : List Job} (h : Stand c s) (queue : s.bal.queue = j :: rest) (tag : k.tag = j.tag)
    (state : k.state = j.state) (sound : k.Sound) : Stand c (s.setQueue (k :: rest)) := by
  obtain ⟨linked, stands⟩ := h
  have head : j ∈ s.bal.queue.head? := by rw [queue]; rfl
  refine ⟨⟨linked.sound, linked.view, linked.chargeB⟩, (queue ▸ stands.queue).head tag sound, ?_, ?_, ?_⟩
  · refine Iff.trans ⟨?_, ?_⟩ stands.asks
    · rintro ⟨_, ⟨⟩, other⟩
      exact ⟨j, head, state ▸ other⟩
    · rintro ⟨l, hl, other⟩
      obtain rfl := Option.mem_unique hl head
      exact ⟨k, rfl, state ▸ other⟩
  · rintro _ ⟨⟩
    rw [state]
    exact stands.suspended j head
  · rintro _ ⟨⟩
    rw [state]
    exact stands.running j head

theorem lossOf_stand {r : Requester} {cause : LossCause} (h : Stand c s) (held : s.arb.link = .held r)
    (taken : cause = .preemption ∨ cause = .yield) : Stand c (lossOf cause r s) :=
  engineRules.loseLink_stands h.1.chargeB h.2 held taken

theorem quantumReport_stand (h : Stand c s) : Stand c (quantumReport s) := by
  unfold quantumReport
  split
  next yields =>
    rw [Bool.and_eq_true, beq_iff_eq] at yields
    exact lossOf_stand h yields.2 (.inr rfl)
  · exact h

theorem engineSample_stand (h : Stand c s) : Stand c (engineSample s) := by
  unfold engineSample
  cases queue : s.bal.queue with
  | nil => exact h
  | cons j rest =>
    have sound : j.Sound := h.2.queue.sound j (by rw [queue]; exact .head rest)
    have credited (credit stop : Nat) (b : Bool) : Stand c (if b then quantumReport (s.setQueue (j.credited credit stop :: rest))
        else s.setQueue (j.credited credit stop :: rest)) := by
      have placed : Stand c (s.setQueue (j.credited credit stop :: rest)) := h.setHead queue rfl rfl (sound.credited credit stop)
      split
      · exact quantumReport_stand placed
      · exact placed
    dsimp only
    split
    · exact finishHead_stand _ (credited _ _ _)
    · exact credited _ _ _

/-! ### The fault lock (R130, R131, R140, R148) -/

/-- R131: the fault lock is the arbiter's own. -/
theorem Stand.lock (h : Stand c s) (b : Bool) : Stand c (s.setArb { s.arb with faultLock := b }) :=
  ⟨⟨h.1.sound, h.1.view, h.1.chargeB⟩, h.2.congr Iff.rfl rfl rfl Iff.rfl rfl⟩

theorem choiceFree_stand (h : Stand c s) (free : s.arb.link = .free) : Stand c (choiceFree s) :=
  engineRules.chooseFree h.1 h.2 free

theorem unlockLink_stand (h : Stand c s) : Stand c (unlockLink s) := by
  unfold unlockLink
  dsimp only
  split
  next free => exact choiceFree_stand (h.lock false) free
  · exact h.lock false
  · exact h.lock false

/-- R140, R148: BALANCE loses the link to LINK_FAULT and waits; its head, RUNNING still, ends. -/
theorem linkFault_balance (h : Stand c s) (held : s.arb.link = .held .balance) :
    Stand c (linkFaultToEngine (lossOf .linkFault .balance s)) := by
  have after := afterLoss_sameUsers s .linkFault .balance
  obtain ⟨j, head, -⟩ := h.2.asks.mpr (.inr held)
  have running : j.state = .running := (h.2.running j head).mpr held
  obtain ⟨rest, queue⟩ := List.head?_eq_some_iff.mp head
  have kept : lossQueue .linkFault s.now s.bal.queue = s.bal.queue := by
    rw [queue]
    simp [lossQueue]
  rw [if_pos rfl, kept] at after
  have linked : Linked c (afterLoss .linkFault .balance s) := by
    obtain ⟨sound, view, asks⟩ := afterLoss_linked held .linkFault
    exact ⟨sound, view, asks.trans ((iff_of_eq (if_neg nofun)).trans h.1.chargeB)⟩
  have calm : Calm s.bal.queue true true (afterLoss .linkFault .balance s) :=
    ⟨by rw [after.arb]; nofun, by rw [after.arb]; rfl, fun _ => by rw [after.arb]; nofun, fun _ => rfl, after.queue⟩
  obtain ⟨lost, waits, -, -⟩ := (calmRules startChecks s.bal.queue true true (s.hold.state = .off) s.bal.dieHot).loseLink linked
    ⟨calm, after.off, after.hot⟩
  have left : (lossOf .linkFault .balance s).bal.queue = j :: rest := waits.queue.trans queue
  rw [linkFaultToEngine, left]
  dsimp only
  rw [if_pos running]
  exact finishHead_stand_of .fault left (queue ▸ h.2.queue) lost (by rw [running]; nofun)

theorem lockLink_stand (h : Stand c s) : Stand c (lockLink s) := by
  unfold lockLink
  dsimp only
  have locked := h.lock true
  split
  next r held =>
    by_cases ne : r = .balance
    · subst ne
      exact linkFault_balance locked held
    · have kept := engineRules.congr (afterLoss_sameBalance ne held .linkFault) locked.2
      refine linkFaultToEngine_stand (engineRules.loseLink ?_ kept)
      · obtain ⟨sound, view, asks⟩ := afterLoss_linked held .linkFault
        refine ⟨sound, view, asks.trans ?_⟩
        split
        next own =>
          subst own
          exact iff_of_true nofun (locked.1.chargeB.mp (.inr held))
        next => exact locked.1.chargeB
  · exact locked
  · exact locked

/-! ### Jobs placed and taken away (R136, R137, R146, R150) -/

theorem QueueSound.sublist {q r : List Job} (h : QueueSound q) (sub : r.Sublist q) (fresh : ∀ j ∈ r.tail, j.Fresh) : QueueSound r :=
  ⟨sub.length_le.trans h.length, fresh, fun j hj => h.sound j (sub.subset hj), (sub.map Job.tag).nodup h.tags⟩

/-- R150: the jobs behind the head, filtered, have not run. -/
theorem fresh_filter {rest : List Job} (fresh : ∀ j ∈ rest, j.Fresh) (keep : Job → Bool) : ∀ j ∈ rest.filter keep, j.Fresh :=
  fun j hj => fresh j (List.mem_of_mem_filter hj)

/-- R150: the head stays, and jobs behind it go. -/
theorem Stand.keepHead {j : Job} {rest kept : List Job} (h : Stand c s) (queue : s.bal.queue = j :: rest)
    (sub : kept.Sublist rest) (fresh : ∀ k ∈ kept, k.Fresh) : Stand c (s.setQueue (j :: kept)) := by
  obtain ⟨linked, stands⟩ := h
  have same : (j :: kept).head? = s.bal.queue.head? := by rw [queue]; rfl
  refine ⟨⟨linked.sound, linked.view, linked.chargeB⟩, ?_, ?_, ?_, ?_⟩
  · exact (queue ▸ stands.queue : QueueSound (j :: rest)).sublist (sub.cons_cons j) fresh
  · show (∃ k ∈ (j :: kept).head?, _) ↔ _
    rw [same]
    exact stands.asks
  · show ∀ k ∈ (j :: kept).head?, _
    rw [same]
    exact stands.suspended
  · show ∀ k ∈ (j :: kept).head?, _
    rw [same]
    exact stands.running

/-- R150: the jobs that a PORT_RESET of port p leaves, and its last result. -/
def jobsKept (p : Port) (s : State) : State := s.setBal { s.bal with
  queue := s.bal.queue.filter (fun k => k.originator != p), last := s.bal.last.set p (resetResult p s.bal.queue) }

theorem jobsKept_sameUsers (p : Port) (s : State) :
    SameUsers (s.setQueue (s.bal.queue.filter (fun k => k.originator != p))) (jobsKept p s) := ⟨rfl, rfl, rfl, Iff.rfl, rfl⟩

theorem enginePortReset_empty (p : Port) (empty : s.bal.queue = []) : enginePortReset p s = jobsKept p s := by
  rw [enginePortReset, jobsKept, empty]

theorem enginePortReset_head (p : Port) {j : Job} {rest : List Job} (queue : s.bal.queue = j :: rest) : enginePortReset p s =
    if j.originator = p then
      queueEmptied (newHead startChecks (if j.state = .suspended then jobsKept p s else withdrawReq .balance (jobsKept p s)))
    else jobsKept p s := by
  rw [enginePortReset, jobsKept, queue]

/-- R150: the engine's share of a PORT_RESET. -/
theorem enginePortReset_stand (p : Port) (h : Stand c s) : Stand c (enginePortReset p s) := by
  obtain ⟨linked, stands⟩ := h
  have same := jobsKept_sameUsers p s
  have keptLinked : Linked c (jobsKept p s) := ⟨linked.sound, linked.view, linked.chargeB⟩
  cases queue : s.bal.queue with
  | nil =>
    rw [enginePortReset_empty p queue]
    refine ⟨keptLinked, stands.congr Iff.rfl rfl ?_ Iff.rfl rfl⟩
    rw [same.queue, queue]
    rfl
  | cons j rest =>
    have sound : QueueSound (j :: rest) := queue ▸ stands.queue
    have head : j ∈ s.bal.queue.head? := by rw [queue]; rfl
    have behind := fresh_filter sound.fresh (fun k => k.originator != p)
    rw [enginePortReset_head p queue]
    rw [queue] at same
    split
    next own =>
      have gone : (j :: rest).filter (fun k => k.originator != p) = rest.filter (fun k => k.originator != p) :=
        List.filter_cons_of_neg (by rw [own]; simp)
      rw [gone] at same
      have left := sound.tail.sublist List.filter_sublist fun k hk => behind k (List.mem_of_mem_tail hk)
      have emptied (u : State) (h : Stand c u) : Stand c (queueEmptied u) :=
        ⟨h.1.congr (queueEmptied_sameUsers _), h.2.same (queueEmptied_sameUsers _)⟩
      refine emptied _ ?_
      split
      next state =>
        obtain ⟨unwaited, unheld⟩ := not_or.mp (stands.engineAsks.not_asks_of_suspended head state)
        exact newHead_stand (backed := false) keptLinked
          ⟨unheld, Bool.eq_false_iff.mpr unwaited, nofun, nofun, same.queue⟩ left behind
      next =>
        obtain ⟨withdrawn, calm, -, -⟩ := withdrawBalance_calm startChecks keptLinked.sound keptLinked.chargeB (.inl keptLinked.view)
        exact newHead_stand withdrawn (same.queue ▸ calm) left behind
    next other =>
      have stays : (j :: rest).filter (fun k => k.originator != p) = j :: rest.filter (fun k => k.originator != p) :=
        List.filter_cons_of_pos (bne_iff_ne.mpr other)
      rw [stays] at same
      have kept := Stand.keepHead ⟨linked, stands⟩ queue List.filter_sublist behind
      exact ⟨keptLinked, kept.2.same same⟩

/-- R137: a job that none holds the tag of joins the back; in an empty queue it becomes the head. -/
theorem placeJob_stand {j : Job} (h : Stand c s) (room : s.bal.queue.length < Config.queueDepth) (fresh : j.Fresh)
    (sound : j.Sound) (tag : j.tag ∉ s.bal.queue.map Job.tag) : Stand c (placeJob j s) := by
  obtain ⟨linked, stands⟩ := h
  have placed : QueueSound (s.bal.queue ++ [j]) := by
    refine ⟨?_, fun k hk => ?_, fun k hk => ?_, ?_⟩
    · rw [List.length_append]
      exact room
    · cases queue : s.bal.queue with
      | nil => rw [queue] at hk; contradiction
      | cons l rest =>
        rw [queue] at hk
        rcases List.mem_append.mp hk with hk | hk
        · exact stands.queue.fresh k (by rw [queue]; exact hk)
        · rwa [List.mem_singleton.mp hk]
    · rcases List.mem_append.mp hk with hk | hk
      · exact stands.queue.sound k hk
      · rwa [List.mem_singleton.mp hk]
    · rw [List.map_append, List.nodup_append]
      refine ⟨stands.queue.tags, List.nodup_singleton _, ?_⟩
      rintro a ha b hb rfl
      exact tag (List.mem_singleton.mp hb ▸ ha)
  unfold placeJob
  dsimp only
  cases queue : s.bal.queue with
  | nil =>
    have unasked : ¬ s.arb.asks .balance := by
      rw [← stands.asks, queue]
      nofun
    obtain ⟨unwaited, unheld⟩ := not_or.mp unasked
    rw [queue] at placed
    have alone : ∀ k ∈ [j], k.Fresh := fun k hk => by rwa [List.mem_singleton.mp hk]
    exact newHead_stand (s := s.setBal { s.bal with queue := [j], tagCounter := nextTag j.tag }) (backed := false)
      ⟨linked.sound, linked.view, linked.chargeB⟩ ⟨unheld, Bool.eq_false_iff.mpr unwaited, nofun, nofun, rfl⟩ placed alone
  | cons l rest =>
    have same : ((l :: rest) ++ [j]).head? = s.bal.queue.head? := by rw [queue]; rfl
    refine ⟨⟨linked.sound, linked.view, linked.chargeB⟩, by rwa [queue] at placed, ?_, ?_, ?_⟩
    · show (∃ k ∈ ((l :: rest) ++ [j]).head?, _) ↔ _
      rw [same]
      exact stands.asks
    · show ∀ k ∈ ((l :: rest) ++ [j]).head?, _
      rw [same]
      exact stands.suspended
    · show ∀ k ∈ ((l :: rest) ++ [j]).head?, _
      rw [same]
      exact stands.running

/-- R146: a job of the queue is cancelled. -/
theorem cancelJob_stand {j : Job} (queued : j ∈ s.bal.queue) (h : Stand c s) : Stand c (cancelJob j s) := by
  unfold cancelJob
  split
  · exact finishHead_stand _ h
  next behind =>
    have recorded := recordEnding_sameUsers j .cancelled (s.setQueue (s.bal.queue.filter (fun k => k.tag != j.tag)))
    suffices left : Stand c (s.setQueue (s.bal.queue.filter (fun k => k.tag != j.tag))) from
      ⟨left.1.congr recorded, left.2.same recorded⟩
    cases queue : s.bal.queue with
    | nil => rw [queue] at queued; contradiction
    | cons k rest =>
      have sound : QueueSound (k :: rest) := queue ▸ h.2.queue
      have other : k.tag ≠ j.tag := by
        intro same
        refine behind ?_
        rw [queue] at queued ⊢
        exact congrArg some (List.inj_on_of_nodup_map sound.tags (.head rest) queued same)
      have stays : (k :: rest).filter (fun k => k.tag != j.tag) = k :: rest.filter (fun k => k.tag != j.tag) :=
        List.filter_cons_of_pos (bne_iff_ne.mpr other)
      rw [stays]
      exact h.keepHead queue List.filter_sublist (fresh_filter sound.fresh _)

end

end Sys2Proof.Machine
end

section
/-! An event of a channel in the part (R94, R98, R99, R105): what it makes of the channels, the arbiter and the engine. -/

namespace Sys2Proof.Machine

/-! ### What becomes of the channels -/

section
variable {s t : State}

theorem Reacts.request_eq {E : List Effect} (h : Reacts E s t) (ne : .chB ∉ E) : t.chB.request = s.chB.request :=
  (congrArg Channel.request (h.chB_linkless ne) :)

/-- R99: whether channel B wants the link turns on nothing that a report of the link changes, nor on its request. -/
theorem Channel.wantsLink_congr {ch x : Channel} {b : Bool} (same : ch.linkless = { x.linkless with request := b })
    (profile : List StepRecord) : ch.wantsLink profile = x.wantsLink profile :=
  (congrArg (Channel.wantsLink profile) same :)

/-- R99: channel B's request is as it wants. -/
theorem syncChargeB_chB (s : State) :
    (syncChargeB s).chB.linkless = { s.chB.linkless with request := s.chB.wantsLink s.profile } := by
  unfold syncChargeB
  dsimp only
  split
  next same => rw [same]; rfl
  next =>
    split
    · exact (raiseReq_reacts _ _).chB_linkless (by decide)
    · exact (withdrawReq_reacts _ _).chB_linkless (by decide)

end

section
variable (c : Cell) (y : Change) (s : State)

/-- R105, R106: the channel's change with its notices. -/
def toldChange (c : Cell) (y : Change) (s : State) : State :=
  raiseIf y.ended (raiseMainHub .chEnd) (raiseIf y.entered (raiseMainHub .chStep) (s.setChannel c y.ch))

/-- What follows a change of a channel once its stage and its request have: the MONITOR test and the trigger. -/
def settleChange (y : Change) (was : ChannelState) (u : State) : State :=
  let u := if was = .active && y.ch.state != .active then monitorTest u else u
  if y.trigger then trigger u else u

theorem commit_eq : commit c y s = settleChange y (s.channel c).state (handPresented c (toldChange c y s)) := rfl

theorem toldChange_reacts : Reacts [.notice] (s.setChannel c y.ch) (toldChange c y s) :=
  (raiseIf_reacts _ _ fun v => raiseMainHub_reacts v (by decide) _).trans
    (raiseIf_reacts _ _ fun v => raiseMainHub_reacts v (by decide) _)

omit c s in
theorem settleChange_reacts (was : ChannelState) (u : State) : Reacts [.monitor, .pass] u (settleChange y was u) := by
  have tested : Reacts [.monitor, .pass] u (if was = .active && y.ch.state != .active then monitorTest u else u) :=
    .ite (monitorTest_reacts u (by decide)) (.refl u)
  exact .ite (tested.trans (trigger_reacts _ (by decide))) tested

/-- An event of channel A changes that channel, and its stage follows. -/
theorem commit_a_reacts : Reacts (.monitor :: chargeEffects) (s.setChannel .a y.ch) (commit .a y s) :=
  (((toldChange_reacts .a y s).mono (by decide)).trans ((takeCharge_reacts _ _).mono (by decide))).trans
    ((settleChange_reacts y _ _).mono (by decide))

theorem commit_a_chA : { (commit .a y s).chA with stale := false } = { y.ch with stale := false } :=
  (commit_a_reacts y s).chA_fresh (by decide)

theorem commit_a_chB : { (commit .a y s).chB with stale := false } = { s.chB with stale := false } :=
  (commit_a_reacts y s).chB_fresh (by decide) (by decide)

/-- An event of channel B before its request is brought in line: the change, its notices, and the link's new target. -/
def changedB (y : Change) (s : State) : State := linkFollow (toldChange .b y s)

theorem commit_b_eq : commit .b y s = settleChange y s.chB.state (syncChargeB (changedB y s)) := rfl

theorem changedB_reacts : Reacts followEffects (s.setChannel .b y.ch) (changedB y s) :=
  ((toldChange_reacts .b y s).mono (by decide)).trans (linkFollow_reacts _)

theorem changedB_chB : { (changedB y s).chB with stale := false } = { y.ch with stale := false } :=
  (changedB_reacts y s).chB_fresh (by decide) (by decide)

theorem changedB_profile : (changedB y s).profile = s.profile :=
  (Keeps.profile (changedB_reacts y s).keeps).trans rfl

/-- R94, R98, R99: channel B after an event, but for what the link's reports change. -/
theorem commit_b_chB : (commit .b y s).chB.linkless = { y.ch.linkless with request := y.ch.wantsLink s.profile } := by
  have changed : (changedB y s).chB.linkless = y.ch.linkless := (congrArg Channel.linkless (changedB_chB y s) :)
  have wants : (changedB y s).chB.wantsLink s.profile = y.ch.wantsLink s.profile :=
    Channel.wantsLink_congr (b := y.ch.request) (changed.trans rfl) s.profile
  rw [commit_b_eq, (settleChange_reacts y _ _).chB_linkless (by decide), syncChargeB_chB, changedB_profile, changed, wants]

theorem commit_b_chA : { (commit .b y s).chA with stale := false } = { s.chA with stale := false } :=
  ((commit_reacts s .b y).mono (F := .chB :: engineEffects) (by decide)).chA_fresh (by decide)

end

/-! ### What a change of a channel keeps -/

/-- A change that keeps the channel's request, which is channel B's to bring in line, and leaves a channel in ACTIVE without HOLD
only where `free` holds. -/
structure Change.Holds (free : Prop) (ch : Channel) (y : Change) : Prop where
  request : y.ch.request = ch.request
  hold : ¬ free → y.ch.state = .active → y.ch.reasons.hold = true

section
variable {free : Prop} {ch : Channel} (c : Cell) (profile : List StepRecord) (x : Sample)

theorem Change.holds_nothing (held : ¬ free → ch.state = .active → ch.reasons.hold = true) :
    (Change.nothing ch).Holds free ch := ⟨rfl, held⟩

/-- R106, R107: a walk keeps HOLD as it found it. -/
theorem Channel.walk_holds (k : Nat) : ∀ (n : Nat) (ch : Channel),
    (Channel.walk c profile x k n ch).request = ch.request
      ∧ ((Channel.walk c profile x k n ch).state = .active → (Channel.walk c profile x k n ch).reasons.hold = ch.reasons.hold) := by
  induction k with
  | zero => exact fun n ch => ⟨rfl, nofun⟩
  | succ k ih =>
    intro n ch
    rw [Channel.walk]
    split
    · exact ⟨rfl, nofun⟩
    · dsimp only
      split
      · obtain ⟨request, hold⟩ := ih (recordAt profile n).next (ch.enter c profile x n)
        exact ⟨request, hold⟩
      · exact ⟨rfl, fun _ => rfl⟩

theorem Change.holds_walk (n : Nat) (held : ¬ free → ch.reasons.hold = true) : (Change.walk c profile x n ch).Holds free ch := by
  obtain ⟨request, hold⟩ := Channel.walk_holds c profile x Config.walkLimit n ch
  exact ⟨request, fun on active => (hold active).trans (held on)⟩

theorem Change.holds_start (n : Nat) {causes : Reasons} (held : ¬ free → causes.hold = true) :
    (Change.start c profile x n causes ch).Holds free ch := by
  obtain ⟨request, hold⟩ := Change.holds_walk (free := free) c profile x n (ch := { ch with
    state := .active, slot := none, code := .none, reasons := causes, timer := 0, run := 0
    published := if ch.stale then 0 else ch.published }) held
  exact ⟨request, hold⟩

theorem Change.holds_fail (code : ChannelFault) : (Change.fail ch code).Holds free ch := ⟨rfl, fun _ => nofun⟩

theorem Change.holds_withReasons {r : Reasons} (held : ¬ free → ch.state = .active → r.hold = true) :
    (Change.withReasons c profile r ch).Holds free ch := by
  unfold Change.withReasons
  split
  · exact ⟨rfl, held⟩
  next resting => exact ⟨rfl, fun _ active => absurd active resting⟩

theorem Change.holds_stop (held : ¬ free → ch.state = .active → ch.reasons.hold = true) : (Change.stop ch).Holds free ch := by
  unfold Change.stop
  split
  · exact holds_nothing held
  · exact ⟨rfl, fun _ => nofun⟩
  · exact ⟨rfl, fun _ => nofun⟩
  · exact ⟨rfl, fun _ => nofun⟩

theorem Change.holds_cellFault (held : ¬ free → ch.state = .active → ch.reasons.hold = true) :
    (Change.cellFault ch).Holds free ch := by
  unfold Change.cellFault
  split
  · exact holds_fail .cellFault
  · exact holds_nothing held

theorem Change.holds_publication (setpoint : Nat) (starved noInput deficit : Bool)
    (held : ¬ free → ch.state = .active → ch.reasons.hold = true) :
    (Change.publication c profile setpoint starved noInput deficit ch).Holds free ch := by
  refine ⟨rfl, fun on active => ?_⟩
  have state : ch.state = .active := active
  unfold Change.publication
  rw [if_pos state]
  exact held on state

/-- R100: what a channel observes of a sample keeps HOLD and its request. -/
theorem Channel.observe_keeps (ch : Channel) : (ch.observe c profile x).request = ch.request
    ∧ (ch.observe c profile x).reasons.hold = ch.reasons.hold := by
  unfold Channel.observe Channel.countRun
  split <;> exact ⟨rfl, rfl⟩

theorem Change.holds_sample (held : ¬ free → ch.state = .active → ch.reasons.hold = true) :
    (Change.sample c profile x ch).Holds free ch := by
  unfold Change.sample
  split
  next active =>
    obtain ⟨request, hold⟩ := Channel.observe_keeps c profile x ch
    have seen : ¬ free → (ch.observe c profile x).reasons.hold = true := fun on => hold.trans (held on active)
    dsimp only
    split
    · obtain ⟨kept, walked⟩ := Change.holds_walk c profile x (ch.step profile).next seen
      exact ⟨kept.trans request, walked⟩
    · split
      · exact ⟨request, fun _ => nofun⟩
      · exact ⟨request, fun on _ => seen on⟩
  · exact holds_nothing held

end

/-! ### The arbiter and the engine across an event of a channel -/

section
variable {M : State → Prop} (rules : BalanceRules startChecks M) {s t : State}

/-- The arbiter stands, CHARGE_B asked for exactly where channel B requests it, and the engine as M says. -/
abbrev Full (M : State → Prop) (s : State) : Prop := Linked (s.chB.request = true) s ∧ M s

include rules

theorem Full.same (h : Full M s) (same : SameUsers s t) (request : t.chB.request = s.chB.request) : Full M t := by
  refine ⟨?_, rules.congr same.balance h.2⟩
  rw [request]
  exact h.1.congr same

theorem syncChargeB_full (h : Full M s) : Full M (syncChargeB s) := by
  have request : (syncChargeB s).chB.request = s.chB.wantsLink s.profile := (congrArg Channel.request (syncChargeB_chB s) :)
  rw [Full, request]
  unfold syncChargeB
  dsimp only
  split
  next same =>
    rw [same]
    exact h
  next changed =>
    obtain ⟨linked, m⟩ := h
    have same (b : Bool) : SameBalance s { s with chB := { s.chB with request := b } } := ⟨Iff.rfl, rfl, rfl, rfl, Iff.rfl, rfl⟩
    have set (b : Bool) : M { s with chB := { s.chB with request := b } } := rules.congr (same b) m
    have kept (b : Bool) : Linked (s.chB.request = true) { s with chB := { s.chB with request := b } } :=
      ⟨linked.sound, linked.view, linked.chargeB⟩
    split
    next wants =>
      obtain ⟨raised, m⟩ := rules.raiseLink (r := .chargeB) nofun (kept _) (set _)
      exact ⟨⟨raised.sound, raised.view, raised.chargeB.trans (iff_of_true (.inl rfl) wants)⟩, m⟩
    next rests =>
      obtain ⟨withdrawn, m⟩ := rules.withdrawLink (r := .chargeB) nofun (kept _) (set _)
      exact ⟨⟨withdrawn.sound, withdrawn.view, withdrawn.chargeB.trans (iff_of_false (fun h => h.1 rfl) rests)⟩, m⟩

theorem commit_full (c : Cell) {y : Change} (h : Full M s) (request : y.ch.request = (s.channel c).request) :
    Full M (commit c y s) := by
  cases c with
  | a =>
    have chB : (commit .a y s).chB.request = s.chB.request := (congrArg Channel.request (commit_a_chB y s) :)
    exact h.same rules ((commit_reacts s .a y).sameUsers (by decide) (by decide) (by decide) (by decide) (by decide)) chB
  | b =>
    have set : Full M (s.setChannel .b y.ch) := h.same rules ⟨rfl, rfl, rfl, Iff.rfl, rfl⟩ request
    have changed := (changedB_reacts y s).sameUsers (by decide) (by decide) (by decide) (by decide) (by decide)
    have synced := syncChargeB_full rules (set.same rules changed ((changedB_reacts y s).request_eq (by decide)))
    exact synced.same rules ((settleChange_reacts y _ _).sameUsers (by decide) (by decide) (by decide) (by decide) (by decide))
      ((settleChange_reacts y _ _).request_eq (by decide))

end

/-! ### HOLD in the channels (R153, R158) -/

section
variable {s t : State}

/-- R158: reactions that change no channel but for NO_LINK keep what stands under a hold. -/
theorem State.HoldSound.reacts {E : List Effect} (h : s.HoldSound) (reacts : Reacts E s t) (chA : .chA ∉ E) (chB : .chB ∉ E) :
    t.HoldSound := by
  have fresh := reacts.chA_fresh chA
  have linkless := reacts.chB_linkless chB
  intro on
  obtain ⟨request, holdA, holdB⟩ := h (mt reacts.holdOff_iff.mpr on)
  have stateA : t.chA.state = s.chA.state := (congrArg Channel.state fresh :)
  have reasonsA : t.chA.reasons = s.chA.reasons := (congrArg Channel.reasons fresh :)
  have stateB : t.chB.state = s.chB.state := (congrArg Channel.state linkless :)
  have reasonsB : t.chB.reasons.hold = s.chB.reasons.hold := (congrArg (fun c => c.reasons.hold) linkless :)
  rw [stateA, reasonsA, stateB, reasonsB, reacts.request_eq chB]
  exact ⟨request, holdA, holdB⟩

theorem commit_holdOff_iff (c : Cell) (y : Change) (s : State) : (commit c y s).hold.state = .off ↔ s.hold.state = .off :=
  (commit_reacts s c y).holdOff_iff

/-- R153, R158: a channel that holds HOLD asks for no link. -/
theorem wantsLink_of_hold {ch : Channel} (held : ch.state = .active → ch.reasons.hold = true) (profile : List StepRecord) :
    ch.wantsLink profile = false := by
  unfold Channel.wantsLink Reasons.stopsRequest
  cases state : ch.state with
  | active => rw [held state]; simp
  | idle => rfl
  | done => rfl
  | fault => rfl

theorem commit_holdSound (c : Cell) {y : Change} (h : s.HoldSound) (holds : y.Holds (s.hold.state = .off) (s.channel c)) :
    (commit c y s).HoldSound := by
  intro on
  have was : s.hold.state ≠ .off := mt (commit_holdOff_iff c y s).mpr on
  obtain ⟨request, holdA, holdB⟩ := h was
  cases c with
  | a =>
    have stateA : (commit .a y s).chA.state = y.ch.state := (congrArg Channel.state (commit_a_chA y s) :)
    have reasonsA : (commit .a y s).chA.reasons = y.ch.reasons := (congrArg Channel.reasons (commit_a_chA y s) :)
    have stateB : (commit .a y s).chB.state = s.chB.state := (congrArg Channel.state (commit_a_chB y s) :)
    have reasonsB : (commit .a y s).chB.reasons = s.chB.reasons := (congrArg Channel.reasons (commit_a_chB y s) :)
    have requestB : (commit .a y s).chB.request = s.chB.request := (congrArg Channel.request (commit_a_chB y s) :)
    rw [stateA, reasonsA, stateB, reasonsB, requestB]
    exact ⟨request, holds.hold was, holdB⟩
  | b =>
    have stateA : (commit .b y s).chA.state = s.chA.state := (congrArg Channel.state (commit_b_chA y s) :)
    have reasonsA : (commit .b y s).chA.reasons = s.chA.reasons := (congrArg Channel.reasons (commit_b_chA y s) :)
    have stateB : (commit .b y s).chB.state = y.ch.state := (congrArg Channel.state (commit_b_chB y s) :)
    have reasonsB : (commit .b y s).chB.reasons.hold = y.ch.reasons.hold :=
      (congrArg (fun c => c.reasons.hold) (commit_b_chB y s) :)
    have requestB : (commit .b y s).chB.request = y.ch.wantsLink s.profile := (congrArg Channel.request (commit_b_chB y s) :)
    rw [stateA, reasonsA, stateB, reasonsB, requestB]
    exact ⟨wantsLink_of_hold (holds.hold was) _, holdA, holds.hold was⟩

end

end Sys2Proof.Machine
end

section
/-! Every command against an invariant of the blocks behind the channels and the link: what stands apart from them, and the
commands that reach them, for any invariant (O58, O59). -/

namespace Sys2Proof.Machine

/-- The holder set is empty as long as no port joins or leaves it. -/
theorem holdEmpty_of_keeps {s t : State} (h : Keeps s t) : t.hold.empty = s.hold.empty := by
  have joined (p : Port) : (t.holder p).joined = (s.holder p).joined := (congrArg Holder.joined (h.holder p) :)
  unfold HoldCtl.empty
  rw [show t.hold.holders.main.joined = _ from joined .main, show t.hold.holders.hub.joined = _ from joined .hub,
    show t.hold.holders.input.joined = _ from joined .input]
  rfl

/-- R1: a stage that takes a setpoint is RAMPING exactly while its output is not its target. -/
theorem Stage.take_ramping_iff {α : Type} [DecidableEq α] {x : Stage α} (h : x.ramping = true ↔ x.output ≠ x.target)
    (out new : α) : (x.take out new).1.ramping = true ↔ (x.take out new).1.output ≠ (x.take out new).1.target := by
  unfold Stage.take
  split
  · exact h
  · split
    · exact iff_of_false nofun fun moved => moved rfl
    next moved => exact iff_of_true rfl (Ne.symm moved)

/-! ### What stands apart from the channels, the link and their users -/

/-- R1, R4: the input stage is RAMPING exactly while its output is not its target, and its output is zero while VBUS is absent. -/
def State.InputStands (s : State) : Prop :=
  (s.inputStage.ramping = true ↔ s.inputStage.output ≠ s.inputStage.target) ∧ (s.present = false → s.inputStage.output = 0)

/-- Between s and t neither the channels nor the arbiter, the engine, the hold and the stages that follow them change, but for
stale marks, the holders' timers and checks, and the ramps of the input stage. -/
structure Apart (s t : State) : Prop where
  arb : t.arb = s.arb
  bal : t.bal = s.bal
  off : t.hold.state = .off ↔ s.hold.state = .off
  view : t.hold.view = s.hold.view
  empty : t.hold.empty = s.hold.empty
  chA : { t.chA with stale := false } = { s.chA with stale := false }
  chB : { t.chB with stale := false } = { s.chB with stale := false }
  hot : t.prot.device.dieHot = s.prot.device.dieHot
  phase : t.power.phase = s.power.phase
  profile : t.profile = s.profile
  present : t.present = s.present
  record : t.alloc.record = s.alloc.record
  pathA : t.pathA.stage = s.pathA.stage
  linkStage : t.linkStage = s.linkStage
  input : s.InputStands → t.InputStands

namespace Apart
variable {s t u : State}

theorem refl (s : State) : Apart s s :=
  ⟨rfl, rfl, Iff.rfl, rfl, rfl, rfl, rfl, rfl, rfl, rfl, rfl, rfl, rfl, rfl, id⟩

theorem trans (h : Apart s t) (k : Apart t u) : Apart s u :=
  ⟨k.arb.trans h.arb, k.bal.trans h.bal, k.off.trans h.off, k.view.trans h.view, k.empty.trans h.empty, k.chA.trans h.chA,
    k.chB.trans h.chB, k.hot.trans h.hot, k.phase.trans h.phase, k.profile.trans h.profile, k.present.trans h.present,
    k.record.trans h.record, k.pathA.trans h.pathA, k.linkStage.trans h.linkStage, k.input ∘ h.input⟩

theorem of_fields (arb : t.arb = s.arb) (bal : t.bal = s.bal) (hold : t.hold = s.hold) (chA : t.chA = s.chA)
    (chB : t.chB = s.chB) (hot : t.prot.device.dieHot = s.prot.device.dieHot) (phase : t.power.phase = s.power.phase)
    (profile : t.profile = s.profile) (present : t.present = s.present) (record : t.alloc.record = s.alloc.record)
    (pathA : t.pathA.stage = s.pathA.stage) (linkStage : t.linkStage = s.linkStage) (input : t.inputStage = s.inputStage) :
    Apart s t :=
  ⟨arb, bal, by rw [hold], by rw [hold], by rw [hold], by rw [chA], by rw [chB], hot, phase, profile, present, record, pathA,
    linkStage, fun h => by rwa [State.InputStands, input, present]⟩

theorem setPort (s : State) (p : Port) (x : PortState) : Apart s (s.setPort p x) :=
  of_fields rfl rfl rfl rfl rfl rfl rfl rfl rfl rfl rfl rfl rfl

theorem ports (s : State) (x : PerPort PortState) : Apart s { s with ports := x } :=
  of_fields rfl rfl rfl rfl rfl rfl rfl rfl rfl rfl rfl rfl rfl

theorem setTable (s : State) (x : ClaimTable) : Apart s (s.setTable x) :=
  of_fields rfl rfl rfl rfl rfl rfl rfl rfl rfl rfl rfl rfl rfl

theorem setCeilings (s : State) (x : List Ceiling) : Apart s { s with ceilings := x } :=
  of_fields rfl rfl rfl rfl rfl rfl rfl rfl rfl rfl rfl rfl rfl

theorem setInput (s : State) (x : InputCtl) : Apart s (s.setInput x) :=
  of_fields rfl rfl rfl rfl rfl rfl rfl rfl rfl rfl rfl rfl rfl

theorem reach (time : Nat) (s : State) : Apart s (reach time s) := of_fields rfl rfl rfl rfl rfl rfl rfl rfl rfl rfl rfl rfl rfl

theorem setPower (s : State) {x : PowerCtl} (phase : x.phase = s.power.phase) : Apart s (s.setPower x) :=
  of_fields rfl rfl rfl rfl rfl rfl phase rfl rfl rfl rfl rfl rfl

theorem handReply (p : Port) (code : ReplyCode) (l : List Byte) (h : Apart s t) : Apart s (handReply p code l t) :=
  h.trans (setPort t p _)

/-- R156, R184, R202: notices, tests and triggers stand apart. -/
theorem of_reacts (h : Reacts (.monitor :: restEffects) s t) : Apart s t :=
  ⟨h.arb_eq (by decide) (by decide), h.bal_eq (by decide) (by decide) (by decide), h.holdOff_iff, h.view_eq (by decide),
    holdEmpty_of_keeps h.keeps, h.chA_fresh (by decide), h.chB_fresh (by decide) (by decide), by rw [Keeps.prot h.keeps],
    Keeps.phase h.keeps, Keeps.profile h.keeps, Keeps.present h.keeps, Keeps.record h.keeps, by rw [h.pathA_eq (by decide)],
    h.linkStage_eq (by decide), fun stands => by rwa [State.InputStands, Keeps.inputStage h.keeps, Keeps.present h.keeps]⟩

theorem raiseNotice (k : Notice) (p : Port) (s : State) : Apart s (raiseNotice k p s) := setPort s p _

theorem raiseMainHub (k : Notice) (s : State) : Apart s (raiseMainHub k s) := (raiseNotice k .main s).trans (raiseNotice k .hub _)

theorem raiseIf {f : State → State} (b : Bool) (h : ∀ u, Apart u (f u)) (s : State) : Apart s (raiseIf b f s) := by
  cases b
  · exact refl s
  · exact h s

theorem trigger (s : State) : Apart s (trigger s) := of_reacts (trigger_reacts s (by decide))

theorem monitorTest (s : State) : Apart s (monitorTest s) := of_reacts (monitorTest_reacts s (by decide))

theorem holdTest (s : State) : Apart s (holdTest s) := of_reacts ((holdTest_reacts s).mono (by decide))

theorem leaveMonitor (s : State) : Apart s (leaveMonitor s) := by
  unfold Machine.leaveMonitor
  split
  · exact of_fields rfl rfl rfl rfl rfl rfl rfl rfl rfl rfl rfl rfl rfl
  · exact refl s

/-- R1, R4: taking a limit keeps the input stage as it should stand. -/
theorem takeInput (limit : Nat) (s : State) : Apart s (takeInput limit s) := by
  rw [takeInput_eq]
  refine ⟨rfl, rfl, Iff.rfl, rfl, rfl, rfl, rfl, rfl, rfl, rfl, rfl, rfl, rfl, rfl, fun stands => ?_⟩
  unfold State.InputStands
  dsimp only
  unfold Machine.takeInput
  split
  · exact stands
  next moved =>
    refine ⟨Stage.take_ramping_iff stands.1 s.inputOutput limit, fun absent => ?_⟩
    have zero : s.inputOutput = 0 := by rw [State.inputOutput, show s.present = false from absent]; rfl
    show ((s.inputStage.take s.inputOutput limit).1).output = 0
    rw [zero]
    unfold Stage.take
    rw [if_neg moved]
    split
    next settles => exact settles
    next => rfl

theorem handLimit (s : State) : Apart s (handLimit s) := by
  unfold Machine.handLimit
  split
  · exact refl s
  · exact takeInput _ s

/-! ### Requests that stand apart -/

theorem refuse (p : Port) (code : ReplyCode) (s : State) : Apart s (refuse p code s) := setPort s p _

theorem takeClaim (p : Port) (cls requested floor : Nat) (s : State) : Apart s (takeClaim p cls requested floor s) := by
  unfold Machine.takeClaim
  split
  · exact refuse p _ s
  · split
    · exact refuse p _ s
    · split
      · exact refuse p _ s
      · exact ((setTable s _).trans (trigger _)).handReply p _ _

theorem takeAmend (p : Port) (id requested floor : Nat) (s : State) : Apart s (takeAmend p id requested floor s) := by
  unfold Machine.takeAmend
  split
  · exact refuse p _ s
  · split
    · exact refuse p _ s
    · split
      · unfold judgeAmend
        split
        · exact refuse p _ s
        · split
          · exact refuse p _ s
          · exact ((setTable s _).trans (trigger _)).handReply p _ _
      · exact refuse p _ s

theorem takeRelease (p : Port) (id : Nat) (s : State) : Apart s (takeRelease p id s) := by
  unfold Machine.takeRelease
  split
  · exact refuse p _ s
  · split
    · exact refuse p _ s
    · split
      · exact ((setTable s _).trans (trigger _)).handReply p _ _
      · exact refuse p _ s

theorem takeClaimRead (p : Port) (id : Nat) (s : State) : Apart s (takeClaimRead p id s) := by
  unfold Machine.takeClaimRead
  split
  · exact refuse p _ s
  · split
    · exact refuse p _ s
    · exact setPort s p _

theorem takeCeilPush (p : Port) (ceiling : Nat) (s : State) : Apart s (takeCeilPush p ceiling s) := by
  unfold Machine.takeCeilPush
  split
  · exact refuse p _ s
  · exact ((setCeilings s _).trans (trigger _)).handReply p _ _

theorem takeCeilPop (p : Port) (s : State) : Apart s (takeCeilPop p s) := by
  unfold Machine.takeCeilPop
  split
  · exact refuse p _ s
  · exact ((setCeilings s _).trans (trigger _)).handReply p _ _

theorem takeStepRead (p : Port) (slot : Nat) (s : State) : Apart s (takeStepRead p slot s) := by
  unfold Machine.takeStepRead
  split
  · exact refuse p _ s
  · exact setPort s p _

/-- R45: a contract that takes force. -/
theorem contractForced (c : Contract) (s : State) :
    Apart s (Machine.trigger (Machine.handLimit (Machine.raiseMainHub .contract (s.setInput (s.input.inForceNow c))))) :=
  (((setInput s _).trans (raiseMainHub _ _)).trans (handLimit _)).trans (trigger _)

theorem takeContractSet (p : Port) (voltage current : Nat) (s : State) : Apart s (takeContractSet p voltage current s) := by
  unfold Machine.takeContractSet
  split
  · exact refuse p _ s
  · unfold acceptContract
    split
    · exact refuse p _ s
    · exact (contractForced _ s).handReply p _ _
    · exact (contractForced _ s).handReply p _ _
    · exact (setInput s _).handReply p _ _
    · exact (setInput s _).handReply p _ _

theorem released (s : State) : Apart s (released s) := by
  rw [released_eq]
  exact of_fields rfl rfl rfl rfl rfl rfl rfl rfl rfl rfl rfl rfl rfl

theorem takeInputRelease (p : Port) (s : State) : Apart s (takeInputRelease p s) := by
  have begun : Apart s (beginRelease p s) := by
    have atOnce (u : State) : Apart u (releaseAtOnce u) := by
      unfold releaseAtOnce
      split
      · exact released u
      · exact refl u
    exact (((setInput s _).trans (handLimit _)).trans (atOnce _)).trans (trigger _)
  unfold Machine.takeInputRelease
  split
  · exact refuse p _ s
  · exact begun.handReply p _ _
  · exact begun.handReply p _ _
  · exact refuse p _ s
  · exact refuse p _ s

theorem takeInputResume (p : Port) (s : State) : Apart s (takeInputResume p s) := by
  have resumed : Apart s (resumeInput s) :=
    (((raiseIf _ (raiseMainHub .contract) s).trans (setInput _ _)).trans (handLimit _)).trans (trigger _)
  unfold Machine.takeInputResume
  split
  · exact refuse p _ s
  · exact refuse p _ s
  · exact refuse p _ s
  · exact resumed.handReply p _ _
  · exact resumed.handReply p _ _

/-! ### Events that stand apart -/

theorem takeDroop (s : State) : Apart s (takeDroop s) := by
  have told := ((setInput s { s.input with droopLimit := s.input.drooped, recovery := some (s.now + Config.recoveryMs) }).trans
    (raiseNotice .droop .input _)).trans (raiseNotice .droop .main _)
  unfold Machine.takeDroop
  dsimp only
  split
  · exact told
  · exact (told.trans (handLimit _)).trans (trigger _)

theorem inputSample (s : State) : Apart s (inputSample s) := by
  unfold Machine.inputSample
  dsimp only
  split
  · exact (setInput s _).trans (takeDroop _)
  · exact setInput s _

theorem recoveryExpires (s : State) : Apart s (recoveryExpires s) := by
  unfold Machine.recoveryExpires
  split
  · exact refl s
  next due _ =>
    dsimp only
    split
    · exact (reach due s).trans (setInput _ _)
    · exact (((reach due s).trans (setInput _ _)).trans (handLimit _)).trans (trigger _)

theorem dormancyExpires (p : Port) (s : State) : Apart s (dormancyExpires p s) := by
  unfold Machine.dormancyExpires
  split
  · exact refl s
  next due _ =>
    exact ((((reach due s).trans (setPort _ p _)).trans (setTable _ _)).trans (trigger _)).trans (monitorTest _)

theorem holdOffExpires (s : State) : Apart s (holdOffExpires s) := by
  unfold Machine.holdOffExpires
  split
  · exact refl s
  next due _ => exact ((reach due s).trans (setPower _ (x := { s.power with holdOff := none }) rfl)).trans (monitorTest _)

/-- R168: but for the fault sets themselves, their entry stands apart. -/
theorem enterFaults_rest (new : Protection) (s : State) : Apart (s.setProt new) (enterFaults new s) := by
  have ended (u : State) : Apart u (endAllowance u) := of_fields rfl rfl rfl rfl rfl rfl rfl rfl rfl rfl rfl rfl rfl
  have raised (u : State) : Apart u (tellRaise u) :=
    (((raiseMainHub .fault u).trans (raiseNotice .fault .input _)).trans (leaveMonitor _)).trans (setPower _ rfl)
  exact (raiseIf _ ended _).trans (raiseIf _ raised _)

/-- R173: an over-voltage report does not touch DIE_HOT. -/
theorem enterFaults {new : Protection} {s : State} (hot : new.device.dieHot = s.prot.device.dieHot) :
    Apart s (enterFaults new s) :=
  trans (t := s.setProt new) (of_fields rfl rfl rfl rfl rfl hot rfl rfl rfl rfl rfl rfl rfl) (enterFaults_rest new s)

theorem deliverReport (s : State) : Apart s (deliverReport s) := by
  unfold Machine.deliverReport
  split
  · exact refl s
  next high rest _ =>
    unfold inputOvReport
    split
    · exact setInput s _
    · have hot : (s.prot.testInputOv high).device.dieHot = s.prot.device.dieHot := by
        unfold Protection.testInputOv Protection.take
        split <;> rfl
      exact ((setInput s { s.input with reports := rest }).trans (enterFaults hot)).trans (trigger _)

theorem inputStageSettles (s : State) : Apart s (inputStageSettles s) := by
  unfold Machine.inputStageSettles
  split
  next settles =>
    have settled : Apart s { s with inputStage := s.inputStage.settle } := by
      refine ⟨rfl, rfl, Iff.rfl, rfl, rfl, rfl, rfl, rfl, rfl, rfl, rfl, rfl, rfl, rfl, fun stands => ⟨?_, fun absent => ?_⟩⟩
      · exact iff_of_false nofun fun moved => moved rfl
      · have absent : s.present = false := absent
        rw [absent] at settles
        have zero : s.inputStage.target = 0 := by simpa using (Bool.and_eq_true_iff.mp settles).2
        exact zero
    refine settled.trans ?_
    unfold inputSettled
    split
    · exact ((released _).trans (handLimit _)).trans (trigger _)
    · exact refl _
  · exact refl s

/-- R155, R182: what does not change who has joined the hold. -/
theorem setHolder (s : State) (p : Port) {x : Holder} (joined : x.joined = (s.holder p).joined) : Apart s (s.setHolder p x) := by
  refine ⟨rfl, rfl, Iff.rfl, rfl, ?_, rfl, rfl, rfl, rfl, rfl, rfl, rfl, rfl, rfl, id⟩
  cases p
  all_goals
    show HoldCtl.empty _ = HoldCtl.empty _
    unfold HoldCtl.empty
    simp only [State.setHolder, State.setHold, PerPort.set]
    rw [joined]
    rfl

theorem placeReply (p : Port) (s : State) : Apart s (placeReply p s) := by
  unfold Machine.placeReply
  dsimp only
  split
  · exact (setPort s p _).trans (setHolder _ p rfl)
  · exact refl s

theorem entryCheck (p : Port) (s : State) : Apart s (entryCheck p s) := by
  unfold Machine.entryCheck
  split
  · exact refl s
  · refine Apart.trans ?_ (holdTest _)
    exact setHolder s p rfl

theorem recordSample (m : RawSample) (s : State) : Apart s (recordSample m s) :=
  of_fields rfl rfl rfl rfl rfl rfl rfl rfl rfl rfl rfl rfl rfl

end Apart

end Sys2Proof.Machine
end

section
/-! What a command must keep of the blocks behind the channels and the link, and that every step then keeps it. -/

namespace Sys2Proof.Machine

/-- A property of the channels, the link and their users that every operation keeps that reaches them. -/
structure StepRules (P : State → Prop) : Prop where
  apart : ∀ {s t}, Apart s t → P s → P t
  joins : ∀ {s}, P s → ∀ p, P (joinHold p s)
  leaves : ∀ {s}, P s → ∀ p order own, P (leaveHold p order own s)
  portReset : ∀ {s}, P s → ∀ p, P (enginePortReset p s)
  starts : ∀ {s}, P s → s.power.phase = .running → ∀ c n, P (startChannel c n s)
  stops : ∀ {s}, P s → ∀ c, P (commit c (Change.stop (s.channel c)) s)
  fails : ∀ {s}, P s → ∀ c, (s.channel c).state = .active → P (commit c (Change.fail (s.channel c) .stepTimeout) s)
  walks : ∀ {s}, P s → ∀ c, (s.channel c).state = .active →
    P (commit c (Change.walk c s.profile s.sample ((s.channel c).step s.profile).next (s.channel c)) s)
  writes : ∀ {s}, P s → ∀ n r, s.chA.uses n = false → s.chB.uses n = false → P { s with profile := s.profile.set n r }
  places : ∀ {s}, P s → ∀ {j : Job}, s.bal.queue.length < Config.queueDepth → j.Fresh → (s.bal.tagCounter < 256 → j.Sound) →
    j.tag = freshTag s.bal.queue Config.queueDepth s.bal.tagCounter → P (placeJob j s)
  cancels : ∀ {s}, P s → ∀ j, (∃ tag, s.bal.queue.find? (fun k => k.tag == tag) = some j) → P (cancelJob j s)
  clears : ∀ {s}, P s → ∀ target, P (reportClear target (s.setProt (s.prot.cleared target)))
  ships : ∀ {s}, P s → P (enterShip s)
  resets : ∀ {s}, P s → P (resetDevice s)
  powers : ∀ level s, P (resetPowerOn level s)
  attaches : ∀ {s}, P s → P (attachVbus s)
  detaches : ∀ {s}, P s → P (detachVbus s)
  copies : ∀ {s}, P s → s.power.phase = .loading → P (finishCopy s)
  loads : ∀ {s}, P s → s.loaded = true → P (endLoading s)
  senses : ∀ {s}, P s → ∀ order, P (monitorSample order s)
  observes : ∀ {s}, P s → ∀ c, P (channelSample c s)
  credits : ∀ {s}, P s → P (engineSample s)
  publishes : ∀ {s}, P s → ∀ x order, P (publish x order s)
  tenure : ∀ {s}, P s → P (tenureExpires s)
  backoff : ∀ {s}, P s → ∀ r, P (backoffExpires r s)
  pathSettles : ∀ {s}, P s → P (cellAPathSettles s)
  linkSettles : ∀ {s}, P s → ∀ holdFirst, P (linkSettles holdFirst s)

/-! ### A job of BAL_QUEUE (R136, R137) -/

/-- R137: an accepted job is within its ranges, and has not run. -/
theorem newJob_fresh (tag : Nat) (p : Port) (d : Direction) (m : Mode) (count rate tolerance : Nat) :
    (newJob tag p d m count rate tolerance).Fresh := ⟨rfl, rfl, rfl, rfl, rfl, rfl⟩

theorem newJob_sound {tag count : Nat} {p : Port} (byte : tag < 256) (asks : p ≠ .input) (least : 1 ≤ count) (most : count ≤ 4095)
    (d : Direction) (m : Mode) (rate tolerance : Nat) : (newJob tag p d m count rate tolerance).Sound := by
  have rates : 100 ≤ judgeRate rate ∧ judgeRate rate ≤ 2000 := by
    unfold judgeRate clampNat Config.rateMin Config.rateMax
    omega
  refine ⟨byte, asks, least, most, rates.1, rates.2, ?_, Nat.zero_le _, Nat.zero_lt_succ _, iff_of_false nofun (fun h => h rfl), nofun, nofun,
    nofun⟩
  show if m = .untilLevel ∨ d = .towardLower then 5 ≤ (judgeTolerance d m tolerance).getD 0
    ∧ (judgeTolerance d m tolerance).getD 0 ≤ 200 else judgeTolerance d m tolerance = none
  unfold judgeTolerance
  simp only [Bool.or_eq_true, decide_eq_true_eq]
  split
  · show 5 ≤ clampNat Config.toleranceMin Config.toleranceMax tolerance ∧ clampNat Config.toleranceMin Config.toleranceMax tolerance ≤ 200
    unfold clampNat Config.toleranceMin Config.toleranceMax
    omega
  · rfl

theorem freshTag_lt (q : List Job) (k : Nat) : ∀ {n : Nat}, n < 256 → freshTag q k n < 256 := by
  induction k with
  | zero => exact id
  | succ k ih =>
    intro n byte
    rw [freshTag]
    split
    · exact ih (Nat.mod_lt _ (by decide))
    · exact byte

/-- R136: a tag that is held after k values are passed over is the last of k + 1 that are. -/
theorem held_of_freshTag (q : List Job) (k : Nat) : ∀ {n : Nat}, n < 256 → freshTag q k n ∈ q.map Job.tag →
    ∀ i ≤ k, (n + i) % 256 ∈ q.map Job.tag := by
  induction k with
  | zero =>
    intro n byte held i within
    rw [Nat.le_zero.mp within, Nat.add_zero, Nat.mod_eq_of_lt byte]
    exact held
  | succ k ih =>
    intro n byte held i within
    rw [freshTag] at held
    split at held
    next taken =>
      cases i with
      | zero =>
        obtain ⟨j, hj, same⟩ := List.any_eq_true.mp taken
        rw [Nat.add_zero, Nat.mod_eq_of_lt byte]
        exact List.mem_map.mpr ⟨j, hj, beq_iff_eq.mp same⟩
      | succ i =>
        have next := ih (Nat.mod_lt _ (by decide)) held i (Nat.le_of_succ_le_succ within)
        have same : ((n + 1) % 256 + i) % 256 = (n + (i + 1)) % 256 := by omega
        exact same ▸ next
    next free =>
      obtain ⟨j, hj, same⟩ := List.mem_map.mp held
      exact (free (List.any_eq_true.mpr ⟨j, hj, beq_iff_eq.mpr same⟩)).elim

/-- R136: with a place free in the queue, the tag is one that no job holds. -/
theorem freshTag_free {q : List Job} (room : q.length < Config.queueDepth) {n : Nat} (byte : n < 256) :
    freshTag q Config.queueDepth n ∉ q.map Job.tag := by
  intro held
  have all := held_of_freshTag q Config.queueDepth byte held
  have distinct : ((List.range Config.queueDepth).map (fun i => (n + i) % 256)).Nodup := by
    refine List.Nodup.map_on (fun i hi j hj same => ?_) List.nodup_range
    rw [List.mem_range, Config.queueDepth] at hi hj
    omega
  have sub : (List.range Config.queueDepth).map (fun i => (n + i) % 256) ⊆ q.map Job.tag := by
    intro tag hm
    obtain ⟨i, hi, rfl⟩ := List.mem_map.mp hm
    exact all i (List.mem_range.mp hi).le
  have most := (List.subperm_of_subset distinct sub).length_le
  rw [List.length_map, List.length_map, List.length_range] at most
  exact absurd room (Nat.not_lt.mpr most)

/-! ### The commands -/

namespace StepRules
variable {P : State → Prop} (rules : StepRules P) {s : State}
include rules

theorem portBlind : PortBlind P where
  ports s x h := rules.apart (.ports s x) h
  wake s _ h := rules.apart (.setTable s _) h
  trigger s h := rules.apart (.trigger s) h
  leave s h := rules.apart (.leaveMonitor s) h

theorem takeHold (h : P s) (p : Port) : P (takeHold p s) := by
  unfold Machine.takeHold
  split
  · exact rules.portBlind.handReply p _ _ h
  · exact rules.joins h p

theorem takeUnhold (h : P s) (p : Port) (order : Nat) : P (takeUnhold p order s) := by
  unfold Machine.takeUnhold
  split
  · exact rules.portBlind.handReply p _ _ (rules.leaves h p order true)
  · exact rules.portBlind.handReply p _ _ h

theorem holderExpires (h : P s) (p : Port) (order : Nat) : P (holderExpires p order s) := by
  unfold Machine.holderExpires
  split
  · exact h
  next due _ => exact rules.leaves (rules.portBlind.raiseNotice .holdExpired p (rules.apart (.reach due s) h)) p order true

theorem resetPort (h : P s) (p : Port) (order : Nat) : P (resetPort p order s) := by
  have share (x : Share) (u : State) (hu : P u) : P (takeShare p (order / 24) x u) := by
    cases x with
    | claims => exact rules.apart (.setTable u _) hu
    | ceilings => exact rules.apart (.setCeilings u _) hu
    | engine => exact rules.portReset hu p
    | hold =>
      show P (if (u.holder p).joined then leaveHold p (order / 24) false u else u)
      split
      · exact rules.leaves hu p _ false
      · exact hu
  have shared := foldl_preserves (P := P) (fun s x => takeShare p (order / 24) x s)
    (arrange order [Share.claims, .ceilings, .engine, .hold]) (fun x _ u hu => share x u hu) s h
  exact rules.portBlind.handReply p _ _ (rules.portBlind.trigger _ (rules.portBlind.ports _ _ shared))

theorem takeChStart (h : P s) (running : s.power.phase = .running) (p : Port) (cell slot : Nat) : P (takeChStart p cell slot s) := by
  have refused (code : ReplyCode) : P (refuse p code s) := rules.portBlind.handReply p code [] h
  unfold Machine.takeChStart
  split
  · exact refused _
  · split
    · exact refused _
    · unfold judgeStart
      split
      · exact refused _
      · split
        · exact refused _
        · exact rules.portBlind.handReply p _ _ (rules.starts h running _ slot)

theorem takeChStop (h : P s) (p : Port) (cell : Nat) : P (takeChStop p cell s) := by
  unfold Machine.takeChStop
  split
  · exact rules.portBlind.handReply p _ _ h
  · exact rules.portBlind.handReply p _ _ (rules.stops h _)

theorem takeStepWrite (h : P s) (p : Port) (slot : Nat) (r : RawStep) : P (takeStepWrite p slot r s) := by
  have refused (code : ReplyCode) : P (refuse p code s) := rules.portBlind.handReply p code [] h
  unfold Machine.takeStepWrite
  split
  · exact refused _
  · split
    · exact refused _
    next unused =>
      obtain ⟨a, b⟩ := Bool.or_eq_false_iff.mp (Bool.eq_false_iff.mpr unused)
      split
      · exact refused _
      · exact rules.portBlind.handReply p _ _ (rules.writes h slot _ a b)

theorem takeBalQueue (h : P s) {p : Port} (asks : p ≠ .input)
    (direction mode count rate tolerance : Nat) : P (takeBalQueue p direction mode count rate tolerance s) := by
  have refused (code : ReplyCode) : P (refuse p code s) := rules.portBlind.handReply p code [] h
  unfold Machine.takeBalQueue
  split
  · split
    · exact refused _
    next counted =>
      rw [Bool.or_eq_true, decide_eq_true_iff, decide_eq_true_iff, not_or] at counted
      unfold judgeQueue
      split
      · exact refused _
      next room =>
        split
        · exact refused _
        · exact rules.portBlind.handReply p _ _ (rules.places h (Nat.lt_of_not_le room) (newJob_fresh ..)
            (fun byte => newJob_sound (freshTag_lt _ _ byte) asks (Nat.pos_of_ne_zero counted.1) (Nat.not_lt.mp counted.2) ..) rfl)
  · exact refused _
  · exact refused _

theorem takeBalCancel (h : P s) (p : Port) (tag : Nat) : P (takeBalCancel p tag s) := by
  have refused (code : ReplyCode) : P (refuse p code s) := rules.portBlind.handReply p code [] h
  unfold Machine.takeBalCancel
  split
  · exact refused _
  next j found =>
    split
    · exact rules.portBlind.handReply p _ _ (rules.cancels h j ⟨tag, found⟩)
    · exact refused _

theorem takeFaultClear (h : P s) (p : Port) (target : Nat) : P (takeFaultClear p target s) := by
  unfold Machine.takeFaultClear
  split
  · exact rules.portBlind.handReply p _ _ h
  · split
    · exact rules.portBlind.handReply p _ _ h
    · split
      · exact rules.portBlind.handReply p _ _ h
      · exact rules.portBlind.handReply p _ _ (rules.portBlind.trigger _ (rules.clears h _))

theorem takeShipEnter (h : P s) (p : Port) : P (takeShipEnter p s) := by
  unfold Machine.takeShipEnter
  split
  · exact rules.ships h
  · exact rules.portBlind.handReply p _ _ h

/-- R179: what the owning block makes of a request of port p, which the table admits. -/
theorem ownPart {i : Instr} {p : Port} {r : Request} {fr : Framing} (spells : requestOf i = some (p, r, fr))
    (allowed : r.ports.allows p = true) (was : PowerState) (h : P s) (running : s.power.phase = .running) :
    P (ownPart was i s) := by
  have reply (code : ReplyCode) (l : List Byte) : P (handReply p code l s) := rules.portBlind.handReply p code l h
  cases i
  all_goals cases spells
  case statusRead => exact reply _ _
  case noticeRead => exact rules.portBlind.handReply p _ _ (rules.portBlind.ports s _ h)
  case noticeMask => exact rules.portBlind.handReply p _ _ (rules.portBlind.ports s _ h)
  case portReset order => exact rules.resetPort h p order
  case claim cls requested floor => exact rules.apart (.takeClaim p cls requested floor s) h
  case amend id requested floor => exact rules.apart (.takeAmend p id requested floor s) h
  case release id => exact rules.apart (.takeRelease p id s) h
  case claimRead id => exact rules.apart (.takeClaimRead p id s) h
  case ceilPush ceiling => exact rules.apart (.takeCeilPush p ceiling s) h
  case ceilPop => exact rules.apart (.takeCeilPop p s) h
  case hold => exact rules.takeHold h p
  case unhold order => exact rules.takeUnhold h p order
  case chStart cell slot => exact rules.takeChStart h running p cell slot
  case chStop cell => exact rules.takeChStop h p cell
  case stepWrite slot r => exact rules.takeStepWrite h p slot r
  case stepRead slot => exact rules.apart (.takeStepRead p slot s) h
  case balQueue direction mode count rate tolerance =>
    have asks : p ≠ .input := by
      rintro rfl
      exact absurd allowed (by decide)
    exact rules.takeBalQueue h asks direction mode count rate tolerance
  case balCancel tag => exact rules.takeBalCancel h p tag
  case contractSet voltage current => exact rules.apart (.takeContractSet p voltage current s) h
  case inputRelease => exact rules.apart (.takeInputRelease p s) h
  case inputResume => exact rules.apart (.takeInputResume p s) h
  case faultClear target => exact rules.takeFaultClear h p target
  case shipEnter => exact rules.takeShipEnter h p
  case deviceReset => exact rules.resets h

/-- R180, R181: a frame that the table refuses reaches no block. -/
theorem takeFrame {i : Instr} {p : Port} {r : Request} {fr : Framing} (spells : requestOf i = some (p, r, fr)) (was : PowerState)
    (h : P s) : P (takeRequest p r fr i (Machine.ownPart was i) s) := by
  by_cases allowed : r.ports.allows p = true
  · exact rules.portBlind.takeFrame p i _ _ (fun u hu running _ => rules.ownPart spells allowed was hu running) h
  · have refused : ∃ code, judgeFrame p r fr = some code := by
      unfold judgeFrame
      split
      · exact ⟨_, rfl⟩
      · rw [Bool.eq_false_iff.mpr allowed]
        exact ⟨.notPermitted, rfl⟩
    obtain ⟨code, judged⟩ := refused
    rw [takeRequest, judged]
    exact rules.portBlind.takeFrame p i (some code) id (fun u hu _ _ => hu) h

theorem endLoadingTest (h : P s) : P (endLoadingTest s) := by
  unfold Machine.endLoadingTest
  split
  next loaded => exact rules.loads h loaded
  · exact h

theorem setLine (h : P s) (low : Bool) : P (setLine low s) := rules.apart (.setPower s rfl) h

theorem arriveSample (h : P s) (m : RawSample) (order : Nat) : P (arriveSample m order s) := by
  refine foldl_preserves (P := P) (fun s x => receive (order / 5040) x s) (arrange order everyReceiver) (fun x _ u hu => ?_)
    (recordSample m s) (rules.apart (.recordSample m s) h)
  cases x with
  | monitor => exact rules.senses hu _
  | input => exact rules.apart (.inputSample u) hu
  | channelA => exact rules.observes hu .a
  | channelB => exact rules.observes hu .b
  | engine => exact rules.credits hu
  | allocator => exact rules.apart (.trigger u) hu
  | startUp => exact rules.endLoadingTest hu

theorem stepTimesOut (h : P s) (c : Cell) : P (stepTimesOut c s) := by
  unfold Machine.stepTimesOut
  split
  next timedOut =>
    rw [Channel.timedOut, Bool.and_eq_true, Bool.and_eq_true, beq_iff_eq] at timedOut
    exact rules.fails h c timedOut.1.1
  · exact h

theorem stepRunsOut (h : P s) (c : Cell) : P (stepRunsOut c s) := by
  unfold Machine.stepRunsOut
  dsimp only
  split
  next runs =>
    rw [Channel.durationOver, Bool.and_eq_true, Bool.and_eq_true, beq_iff_eq] at runs
    exact rules.walks h c runs.1.1
  · exact h

omit rules in
/-- An event that needs a part at work. -/
theorem atWork {b : Bool} {t : State} (h : P s) (kept : b = true → P t) : P (if b then t else s) := by
  split
  next on => exact kept on
  · exact h

/-- Every event of the part keeps the property. -/
theorem event (h : P s) {i : Instr} (unspelled : requestOf i = none) {t : State} (ran : Machine.exec i s = .next t) : P t := by
  cases i
  all_goals cases unspelled
  all_goals cases ran
  case unknownRequestFrame p bytes =>
    split
    · exact h
    · exact rules.portBlind.takeFrame p _ _ _ (fun u hu _ _ => hu) h
  case frameTurnedAway w => exact atWork h fun _ => rules.portBlind.ports s _ h
  case powerOnReset level => exact rules.powers level s
  case rstnAssert =>
    split
    · exact h
    · split
      · exact rules.resets (rules.setLine h true)
      · exact rules.setLine h true
  case rstnRelease =>
    split
    · exact rules.endLoadingTest (rules.setLine h false)
    · exact rules.setLine h false
  case attach level =>
    split
    · exact h
    · split
      · exact rules.powers level s
      · split
        · exact h
        · exact rules.attaches h
  case detach => exact atWork h fun _ => rules.detaches h
  case wakePress level => exact atWork h fun _ => rules.powers level s
  case sampleArrival measured order => exact atWork h fun _ => rules.arriveSample h measured order
  case recoveryTimerExpiry => exact atWork h fun _ => rules.apart (.recoveryExpires s) h
  case dormancyExpiry p => exact atWork h fun _ => rules.apart (.dormancyExpires p s) h
  case tenureExpiry => exact atWork h fun _ => rules.tenure h
  case backoffExpiry r => exact atWork h fun _ => rules.backoff h r
  case holdExpiry p order => exact atWork h fun _ => rules.holderExpires h p order
  case monitorHoldOffExpiry => exact atWork h fun _ => rules.apart (.holdOffExpires s) h
  case stepTimeout c => exact atWork h fun _ => rules.stepTimesOut h c
  case stepDurationEnd c => exact atWork h fun _ => rules.stepRunsOut h c
  case inputStageSettled => exact atWork h fun _ => rules.apart (.inputStageSettles s) h
  case cellAPathSettled => exact atWork h fun _ => rules.pathSettles h
  case hingeLinkSettled holdFirst => exact atWork h fun _ => rules.linkSettles h holdFirst
  case publication order =>
    refine atWork h fun _ => ?_
    split
    · exact rules.publishes h _ order
    · exact h
  case copyComplete =>
    refine atWork h fun copying => rules.endLoadingTest (rules.copies h ?_)
    rw [Bool.and_eq_true, Bool.and_eq_true, decide_eq_true_iff] at copying
    exact copying.1.2
  case holdEntryCheck p => exact atWork h fun _ => rules.apart (.entryCheck p s) h
  case inputOvReport => exact atWork h fun _ => rules.apart (.deliverReport s) h
  case ownSupplyLoss => exact rules.apart (.setPower s rfl) h
  case replyPlaced p => exact atWork h fun _ => rules.apart (.placeReply p s) h

/-- Every command keeps the property. -/
theorem exec (h : P s) (i : Instr) {t : State} (ran : Machine.exec i s = .next t) : P t := by
  cases spells : requestOf i with
  | some x =>
    obtain ⟨p, r, fr⟩ := x
    rw [exec_request spells] at ran
    rw [← Host.Outcome.next.inj ran]
    exact rules.takeFrame spells s.power.state h
  | none => exact rules.event h spells ran

/-- Every step keeps the property: the front command, or the passing of a millisecond. -/
theorem step (h : P s) {t : State} (stepped : Machine.step s = .next t) : P t := by
  unfold Machine.step at stepped
  split at stepped
  · cases stepped
    have idled : Apart s (idle s) := .of_fields rfl rfl rfl rfl rfl rfl rfl rfl rfl rfl rfl rfl rfl
    exact rules.apart idled h
  next i rest _ =>
    have queued : Apart s { s with pending := rest } := .of_fields rfl rfl rfl rfl rfl rfl rfl rfl rfl rfl rfl rfl rfl
    exact rules.exec (rules.apart queued h) i stepped

end StepRules

end Sys2Proof.Machine
end

section
/-! The link's users keep as the manual says (O58): the balance queue, the hold, the arbiter and channel B's request. -/

namespace Sys2Proof.Machine

/-- The link's users stand, but for what the engine has yet to be told of DIE_HOT. -/
structure UsersStand (s : State) : Prop where
  counter : s.bal.tagCounter < 256
  hold : s.hold.Sound
  full : Full EngineStands s
  holds : s.HoldSound

theorem linkUsersSound_iff (s : State) : s.LinkUsersSound ↔ UsersStand s ∧ s.bal.dieHot = s.prot.device.dieHot := by
  have allowed (hot : s.bal.dieHot = s.prot.device.dieHot) :
      ¬ s.Allowed ↔ s.hold.state ≠ .off ∨ s.prot.device.dieHot = true := by
    rw [State.Allowed, hot, not_and_or, Bool.not_eq_false]
  constructor
  · rintro ⟨bal, hold, arb, ⟨view, hot, chargeB, asks, head⟩, holds⟩
    obtain ⟨counter, queue⟩ := (Balance.sound_iff _).mp bal
    refine ⟨⟨counter, hold, ⟨⟨arb, view, chargeB.symm⟩, queue, asks, fun j hj => ?_, fun j hj => (head j hj).2⟩, holds⟩, hot⟩
    rw [allowed hot]
    exact (head j hj).1
  · rintro ⟨⟨counter, hold, ⟨linked, stands⟩, holds⟩, hot⟩
    refine ⟨(Balance.sound_iff _).mpr ⟨counter, stands.queue⟩, hold, linked.sound, ⟨linked.view, hot, linked.chargeB.symm, stands.asks,
      fun j hj => ⟨?_, stands.running j hj⟩⟩, holds⟩
    rw [← allowed hot]
    exact stands.suspended j hj

namespace UsersStand
variable {s t : State}

/-! ### What keeps the users -/

theorem apart (h : UsersStand s) (apart : Apart s t) : UsersStand t := by
  have request : t.chB.request = s.chB.request := (congrArg Channel.request apart.chB :)
  have stateA : t.chA.state = s.chA.state := (congrArg Channel.state apart.chA :)
  have reasonsA : t.chA.reasons = s.chA.reasons := (congrArg Channel.reasons apart.chA :)
  have stateB : t.chB.state = s.chB.state := (congrArg Channel.state apart.chB :)
  have reasonsB : t.chB.reasons = s.chB.reasons := (congrArg Channel.reasons apart.chB :)
  have same : SameUsers s t := ⟨apart.arb, by rw [apart.bal], apart.view, apart.off, by rw [apart.bal]⟩
  refine ⟨by rw [apart.bal]; exact h.counter, ?_, h.full.same engineRules same request, ?_⟩
  · rw [HoldCtl.Sound, apart.off, apart.empty]
    exact h.hold
  · rw [State.HoldSound, Ne, apart.off, request, stateA, reasonsA, stateB, reasonsB]
    exact h.holds

/-- Reactions that change no channel but for NO_LINK, and leave arbiter and engine standing. -/
theorem reacts {E : List Effect} (h : UsersStand s) (reacts : Reacts E s t) (chA : .chA ∉ E) (chB : .chB ∉ E)
    (stand : ∀ c, Stand c s → Stand c t) : UsersStand t := by
  refine ⟨reacts.tagCounter_eq ▸ h.counter, ?_, ?_, h.holds.reacts reacts chA chB⟩
  · rw [HoldCtl.Sound, reacts.holdOff_iff, holdEmpty_of_keeps reacts.keeps]
    exact h.hold
  · rw [Full, reacts.request_eq chB]
    exact stand _ h.full

/-- Reactions that reach neither the channels nor the users. -/
theorem aside {E : List Effect} (h : UsersStand s) (reacts : Reacts E s t) (chA : .chA ∉ E) (chB : .chB ∉ E)
    (arb : .arb ∉ E) (lock : .lock ∉ E) (queue : .queue ∉ E) (view : .view ∉ E) (hot : .hot ∉ E) : UsersStand t :=
  h.reacts reacts chA chB fun _ stand =>
    ⟨stand.1.congr (reacts.sameUsers arb lock queue view hot), stand.2.same (reacts.sameUsers arb lock queue view hot)⟩

theorem commit (h : UsersStand s) (c : Cell) {y : Change} (holds : y.Holds (s.hold.state = .off) (s.channel c)) :
    UsersStand (commit c y s) := by
  have reacts := commit_reacts s c y
  refine ⟨reacts.tagCounter_eq ▸ h.counter, ?_, commit_full engineRules c h.full holds.request, commit_holdSound c h.holds holds⟩
  rw [HoldCtl.Sound, reacts.holdOff_iff, holdEmpty_of_keeps reacts.keeps]
  exact h.hold

/-- R158: a channel under a hold. -/
theorem held (h : UsersStand s) (c : Cell) :
    ¬ s.hold.state = .off → (s.channel c).state = .active → (s.channel c).reasons.hold = true := by
  intro on
  obtain ⟨-, a, b⟩ := h.holds on
  cases c
  · exact a
  · exact b

theorem startChannel (h : UsersStand s) (c : Cell) (n : Nat) : UsersStand (startChannel c n s) :=
  h.commit c (Change.holds_start _ _ _ n fun on => bne_iff_ne.mpr on)

theorem channelReasons (h : UsersStand s) (c : Cell) {f : Reasons → Reasons} (keeps : ∀ r, r.hold = true → (f r).hold = true) :
    UsersStand (channelReasons c f s) :=
  h.commit c (Change.holds_withReasons _ _ fun on active => keeps _ (h.held c on active))

/-! ### DIE_HOT and the faults (R168 to R174) -/

theorem takeReport (h : UsersStand s) (x : FaultReport) : UsersStand (takeReport x s) := by
  match x with
  | .cellToChannel c => exact h.commit c (Change.holds_cellFault (h.held c))
  | .cellToEngine => exact h.reacts (endAll_reacts _ s) (by decide) (by decide) fun _ => endAll_stand _
  | .dieHot true (.channel c) => exact h.channelReasons c (f := fun r => { r with dieHot := true }) fun _ => id
  | .dieHot false (.channel c) => exact h.channelReasons c (f := fun r => { r with dieHot := false }) fun _ => id
  | .dieHot true .engine =>
    refine h.reacts (E := .hot :: engineEffects) (.trans ((Touches.hot true s).reacts (by decide))
      ((suspendHead_reacts _).mono (by decide))) (by decide) (by decide) fun c stand => ?_
    exact suspendHead_stand ⟨stand.1.sound, stand.1.view, stand.1.chargeB⟩
      (stand.2.engineAsks.congr Iff.rfl rfl rfl) fun allowed => nomatch allowed.2
  | .dieHot false .engine =>
    refine h.reacts (E := .hot :: engineEffects) (.trans ((Touches.hot false s).reacts (by decide))
      ((releaseHead_reacts _).mono (by decide))) (by decide) (by decide) fun c stand => ?_
    refine releaseHead_stand ⟨stand.1.sound, stand.1.view, stand.1.chargeB⟩
      ⟨stand.2.engineAsks.congr Iff.rfl rfl rfl, fun forbidden j hj => ?_⟩
    exact (stand.2.suspended j hj).mpr fun allowed => forbidden ⟨allowed.1, rfl⟩
  | .linkToArbiter => exact h.reacts (lockLink_reacts s) (by decide) (by decide) fun _ => lockLink_stand
  | .linkToEngine => exact h.reacts (linkFaultToEngine_reacts s) (by decide) (by decide) fun _ => linkFaultToEngine_stand

/-- R168: the fault sets change before any block takes a report; nothing of the users does. -/
theorem enterFaults (h : UsersStand s) (new : Protection) : UsersStand (enterFaults new s) := by
  have set : UsersStand (s.setProt new) := ⟨h.counter, h.hold, h.full.same engineRules ⟨rfl, rfl, rfl, Iff.rfl, rfl⟩ rfl, h.holds⟩
  exact set.apart (Apart.enterFaults_rest new s)

theorem takeReports (h : UsersStand s) (l : List FaultReport) : UsersStand (l.foldl (fun s x => Machine.takeReport x s) s) :=
  foldl_preserves (P := UsersStand) (fun s x => Machine.takeReport x s) l (fun x _ _ hu => hu.takeReport x) s h

/-! ### The hold begins (R153, R154) -/

/-- R158: an ACTIVE channel A holds HOLD. -/
def HoldsA (s : State) : Prop := s.chA.state = .active → s.chA.reasons.hold = true

/-- R158: an ACTIVE channel B holds HOLD, and channel B asks for no link. -/
def HoldsB (s : State) : Prop := s.chB.request = false ∧ (s.chB.state = .active → s.chB.reasons.hold = true)

omit s t in
theorem HoldsA.reacts {s t : State} {E : List Effect} (h : HoldsA s) (reacts : Reacts E s t) (chA : .chA ∉ E) : HoldsA t := by
  have fresh := reacts.chA_fresh chA
  have state : t.chA.state = s.chA.state := (congrArg Channel.state fresh :)
  have reasons : t.chA.reasons = s.chA.reasons := (congrArg Channel.reasons fresh :)
  rw [HoldsA, state, reasons]
  exact h

omit s t in
theorem HoldsB.reacts {s t : State} {E : List Effect} (h : HoldsB s) (reacts : Reacts E s t) (chB : .chB ∉ E) : HoldsB t := by
  have linkless := reacts.chB_linkless chB
  have state : t.chB.state = s.chB.state := (congrArg Channel.state linkless :)
  have hold : t.chB.reasons.hold = s.chB.reasons.hold := (congrArg (fun c => c.reasons.hold) linkless :)
  rw [HoldsB, reacts.request_eq chB, state, hold]
  exact h

/-- R94: a channel that is told of the hold. -/
theorem told_holds (c : Cell) (profile : List StepRecord) (ch : Channel) :
    (Change.withReasons c profile { ch.reasons with hold := true } ch).Holds False ch :=
  Change.holds_withReasons c profile fun _ _ => rfl

theorem holdBegan_a_holds (s : State) : HoldsA (holdBegan (.channel .a) s) := by
  have fresh := commit_a_chA (Change.withReasons .a s.profile { s.chA.reasons with hold := true } s.chA) s
  have told := (told_holds .a s.profile s.chA).hold id
  intro active
  have state : (holdBegan (.channel .a) s).chA.state = _ := (congrArg Channel.state fresh :)
  have reasons : (holdBegan (.channel .a) s).chA.reasons = _ := (congrArg Channel.reasons fresh :)
  rw [reasons]
  exact told (state.symm.trans active)

theorem holdBegan_b_holds (s : State) : HoldsB (holdBegan (.channel .b) s) := by
  have linkless := commit_b_chB (Change.withReasons .b s.profile { s.chB.reasons with hold := true } s.chB) s
  have told := (told_holds .b s.profile s.chB).hold id
  have request : (holdBegan (.channel .b) s).chB.request = _ := (congrArg Channel.request linkless :)
  have state : (holdBegan (.channel .b) s).chB.state = _ := (congrArg Channel.state linkless :)
  have hold : (holdBegan (.channel .b) s).chB.reasons.hold = _ := (congrArg (fun c => c.reasons.hold) linkless :)
  refine ⟨request.trans (wantsLink_of_hold told _), fun active => hold.trans (told (state.symm.trans active))⟩

/-- R99: a channel B that wants no link withdraws its request; BALANCE, which holds the link, keeps it. -/
theorem syncChargeB_heldBalance (linked : Linked (s.chB.request = true) s) (asks : EngineAsks s)
    (held : s.arb.link = .held .balance) (rests : s.chB.wantsLink s.profile = false) :
    Linked False (syncChargeB s) ∧ EngineAsks (syncChargeB s) := by
  unfold syncChargeB
  rw [rests]
  dsimp only
  split
  next same =>
    refine ⟨⟨linked.sound, linked.view, linked.chargeB.trans ?_⟩, asks⟩
    rw [← same]
    exact iff_of_false nofun id
  next =>
    rw [if_neg nofun, withdrawReq, withdrawLink_unheld startChecks (by show s.arb.link ≠ _; rw [held]; nofun)]
    refine ⟨⟨unasked_sound linked.sound .chargeB, linked.view, ?_⟩, asks.congr Iff.rfl rfl rfl⟩
    refine (unasked_asks (by show s.arb.link ≠ _; rw [held]; nofun) .chargeB).trans ?_
    exact iff_of_false (fun h => h.1 rfl) id

/-- R153: as the hold leaves OFF while BALANCE holds the link, channel B withdraws what it asks for, and the engine still holds
the link. -/
theorem holdBegan_b_heldBalance (linked : Linked (s.chB.request = true) s) (asks : EngineAsks s)
    (held : s.arb.link = .held .balance) :
    Linked False (holdBegan (.channel .b) s) ∧ EngineAsks (holdBegan (.channel .b) s) := by
  let y := Change.withReasons .b s.profile { s.chB.reasons with hold := true } s.chB
  have told := told_holds .b s.profile s.chB
  have changed : SameUsers s (changedB y s) := SameUsers.trans (t := s.setChannel .b y.ch) ⟨rfl, rfl, rfl, Iff.rfl, rfl⟩
    ((changedB_reacts y s).sameUsers (by decide) (by decide) (by decide) (by decide) (by decide))
  have chB := changedB_chB y s
  have request : (changedB y s).chB.request = s.chB.request := (congrArg Channel.request chB :).trans told.request
  have wants : (changedB y s).chB.wantsLink (changedB y s).profile = false := by
    have state : (changedB y s).chB.state = y.ch.state := (congrArg Channel.state chB :)
    have reasons : (changedB y s).chB.reasons = y.ch.reasons := (congrArg Channel.reasons chB :)
    refine wantsLink_of_hold (fun active => ?_) _
    rw [reasons]
    exact told.hold id (state.symm.trans active)
  have before : Linked ((changedB y s).chB.request = true) (changedB y s) := by
    rw [request]
    exact linked.congr changed
  obtain ⟨after, stands⟩ := syncChargeB_heldBalance before (asks.same changed) (changed.arb ▸ held) wants
  have settled := (settleChange_reacts y s.chB.state (syncChargeB (changedB y s))).sameUsers
    (by decide) (by decide) (by decide) (by decide) (by decide)
  exact ⟨after.congr settled, stands.same settled⟩

/-- R154: the hold leaves OFF, with a port in the holder set. -/
theorem beginHold (counter : s.bal.tagCounter < 256) (empty : s.hold.empty = false) (full : Full EngineStands s) :
    UsersStand (beginHold s) := by
  let w := s.setHold { s.hold with state := .pending }
  have reacted := reportHoldBegan_reacts w
  have on : w.hold.state ≠ .off := nofun
  have linked : Linked (w.chB.request = true) w := ⟨full.1.sound, full.1.view, full.1.chargeB⟩
  have asks : EngineAsks w := full.2.engineAsks.congr Iff.rfl rfl rfl
  let a := holdBegan (.channel .a) w
  have toldA : SameUsers w a := (commit_reacts w .a _).sameUsers (by decide) (by decide) (by decide) (by decide) (by decide)
  have requestA : a.chB.request = w.chB.request := (congrArg Channel.request (commit_a_chB _ w) :)
  have linkedA : Linked (a.chB.request = true) a := requestA ▸ linked.congr toldA
  have asksA : EngineAsks a := asks.congr (by rw [toldA.arb]) (by rw [toldA.arb]) toldA.queue
  have onA : a.hold.state ≠ .off := mt toldA.off.mp on
  have holdsA : HoldsA a := holdBegan_a_holds w
  have done : (Full EngineStands (reportHoldBegan w)) ∧ HoldsA (reportHoldBegan w) ∧ HoldsB (reportHoldBegan w) := by
    unfold reportHoldBegan
    split
    next held =>
      let b := holdBegan (.channel .b) a
      have reactsB : Reacts (.chB :: engineEffects) a b := commit_reacts a .b _
      have suspended := suspendHead_reacts b
      obtain ⟨linkedB, asksB⟩ := holdBegan_b_heldBalance linkedA asksA (by rw [toldA.arb]; exact held)
      have holdsB : HoldsB b := holdBegan_b_holds a
      have stand := suspendHead_stand linkedB asksB fun allowed => onA (reactsB.holdOff_iff.mp allowed.1)
      refine ⟨?_, (holdsA.reacts reactsB (by decide)).reacts suspended (by decide), holdsB.reacts suspended (by decide)⟩
      have request : (suspendHead b).chB.request = false := (holdsB.reacts suspended (by decide)).1
      refine ⟨⟨stand.1.sound, stand.1.view, stand.1.chargeB.trans ?_⟩, stand.2⟩
      show False ↔ (suspendHead b).chB.request = true
      rw [request]
      exact iff_of_false id nofun
    next =>
      have suspended := suspendHead_reacts a
      have stand := suspendHead_stand linkedA asksA fun allowed => onA allowed.1
      have requestE : (suspendHead a).chB.request = a.chB.request := suspended.request_eq (by decide)
      have fullE : Full EngineStands (suspendHead a) := by
        rw [Full, requestE]
        exact stand
      have toldB : Reacts (.chB :: engineEffects) (suspendHead a) (holdBegan (.channel .b) (suspendHead a)) := commit_reacts _ .b _
      refine ⟨commit_full engineRules .b fullE (told_holds .b _ _).request,
        (holdsA.reacts suspended (by decide)).reacts toldB (by decide), holdBegan_b_holds _⟩
  obtain ⟨fullW, aHolds, bHolds⟩ := done
  have told : UsersStand (reportHoldBegan w) := by
    refine ⟨reacted.tagCounter_eq ▸ counter, ?_, fullW, fun _ => ⟨bHolds.1, aHolds, bHolds.2⟩⟩
    rw [HoldCtl.Sound, reacted.holdOff_iff, holdEmpty_of_keeps reacted.keeps]
    exact iff_of_false on (by show ¬ s.hold.empty = true; rw [empty]; nofun)
  exact told.apart (.trigger _)

theorem joinHold (h : UsersStand s) (p : Port) : UsersStand (joinHold p s) := by
  have filled (x : Holder) (joined : x.joined = true) : (s.setHolder p x).hold.empty = false := by
    cases p <;> simp [HoldCtl.empty, State.setHolder, State.setHold, PerPort.set, joined]
  have entered (x : Holder) (joined : x.joined = true) (on : s.hold.state ≠ .off) : UsersStand (s.setHolder p x) := by
    refine ⟨h.counter, ?_, h.full.same engineRules ⟨rfl, rfl, rfl, Iff.rfl, rfl⟩ rfl, h.holds⟩
    rw [HoldCtl.Sound, filled x joined]
    exact iff_of_false on nofun
  unfold Machine.joinHold
  split
  · refine UsersStand.apart ?_ (.setPort _ p _)
    exact beginHold (s := s.setHolder p { s.holder p with joined := true, expiry := none, unanswered := true }) h.counter
      (filled _ rfl) (h.full.same engineRules ⟨rfl, rfl, rfl, Iff.rfl, rfl⟩ rfl)
  next pending => exact (entered _ rfl (by rw [pending]; nofun)).apart (.setPort _ p _)
  next effective => exact (entered _ rfl (by rw [effective]; nofun)).apart (.setPort _ p _)

/-! ### The hold ends (R161) -/

/-- A block takes the report that the hold has ended; the engine may lag until it takes its own. -/
theorem holdEnded_lags (l : Listener) (h : Full EngineLags s) :
    Full EngineLags (holdEnded l s) ∧ (l = .engine ∨ EngineStands s → EngineStands (holdEnded l s)) := by
  cases l with
  | channel c =>
    have request := (Change.holds_withReasons (free := True) (ch := s.channel c) c s.profile
      (r := { (s.channel c).reasons with hold := false }) (fun no => absurd trivial no)).request
    refine ⟨commit_full lagRules c h request, ?_⟩
    rintro (same | stands)
    · contradiction
    · exact (commit_full engineRules c ⟨h.1, stands⟩ request).2
  | engine =>
    have stand := releaseHead_stand h.1 h.2
    have full : Full EngineStands (releaseHead s) := by
      rw [Full, (releaseHead_reacts s).request_eq (by decide)]
      exact stand
    exact ⟨⟨full.1, full.2.lags⟩, fun _ => full.2⟩

/-- Once the engine has had its turn it stands. -/
theorem holdEndeds_stand (l : List Listener) : ∀ {s : State}, Full EngineLags s → .engine ∈ l ∨ EngineStands s →
    Full EngineStands (l.foldl (fun s l => holdEnded l s) s) := by
  induction l with
  | nil => exact fun h stands => ⟨h.1, stands.resolve_left nofun⟩
  | cons x l ih =>
    intro s h stands
    obtain ⟨lags, told⟩ := holdEnded_lags x h
    refine ih lags ?_
    rcases stands with member | stands
    · rcases List.mem_cons.mp member with own | later
      · exact .inr (told (.inl own.symm))
      · exact .inl later
    · exact .inr (told (.inr stands))

theorem leaveHold (h : UsersStand s) (p : Port) (order : Nat) (own : Bool) : UsersStand (leaveHold p order own s) := by
  have left : Full EngineStands (s.setHolder p { s.holder p with joined := false, expiry := none }) :=
    h.full.same engineRules ⟨rfl, rfl, rfl, Iff.rfl, rfl⟩ rfl
  unfold Machine.leaveHold
  dsimp only
  split
  next empty =>
    let w := (s.setHolder p { s.holder p with joined := false, expiry := none }).setHold
      { (s.setHolder p { s.holder p with joined := false, expiry := none }).hold with state := .off }
    have lags : Full EngineLags w := by
      refine ⟨⟨left.1.sound, left.1.view, left.1.chargeB⟩, left.2.engineAsks.congr Iff.rfl rfl rfl, fun forbidden j hj => ?_⟩
      exact (left.2.suspended j hj).mpr fun allowed => forbidden ⟨rfl, allowed.2⟩
    have reacted := holdEndeds_reacts (arrange order everyListener) w
    have off : ((arrange order everyListener).foldl (fun s l => holdEnded l s) w).hold.state = .off := reacted.holdOff_iff.mpr rfl
    have told : UsersStand ((arrange order everyListener).foldl (fun s l => holdEnded l s) w) := by
      refine ⟨reacted.tagCounter_eq ▸ h.counter, ?_, holdEndeds_stand _ lags (.inl ?_), fun on => absurd off on⟩
      · rw [HoldCtl.Sound, holdEmpty_of_keeps reacted.keeps]
        exact iff_of_true off empty
      · exact (arrange_perm order everyListener).mem_iff.mpr (by decide)
    unfold endHold
    refine UsersStand.apart ?_ (.monitorTest _)
    cases own
    · exact told
    · exact told.apart (.trigger _)
  next joined =>
    refine ⟨h.counter, ?_, left, h.holds⟩
    have before : s.hold.state ≠ .off := by
      intro off
      refine joined ?_
      have all := h.hold.mp off
      cases p <;> simp_all [HoldCtl.empty, State.setHolder, State.setHold, PerPort.set]
    exact iff_of_false before joined

end UsersStand

end Sys2Proof.Machine
end

section
/-! Every command keeps the link's users as the manual says (O58). -/

namespace Sys2Proof.Machine

/-! ### What the engine is told of DIE_HOT (R148, R172) -/

/-- R148: what the engine was told of DIE_HOT is what the monitor holds. -/
def State.HotTold (s : State) : Prop := s.bal.dieHot = s.prot.device.dieHot

theorem State.HotTold.reacts {E : List Effect} {s t : State} (h : s.HotTold) (reacts : Reacts E s t) (hot : .hot ∉ E) :
    t.HotTold := by
  rw [State.HotTold, reacts.hot_eq hot, Keeps.prot reacts.keeps]
  exact h

theorem State.HotTold.apart {s t : State} (h : s.HotTold) (apart : Apart s t) : t.HotTold := by
  rw [State.HotTold, apart.bal, apart.hot]
  exact h

/-- The engine is told of DIE_HOT by the report to it, and by nothing else. -/
theorem takeReport_told (x : FaultReport) (s : State) :
    (∃ b, x = .dieHot b .engine ∧ (takeReport x s).bal.dieHot = b) ∨ (takeReport x s).bal.dieHot = s.bal.dieHot := by
  match x with
  | .cellToChannel .a => exact .inr ((cellFaultToChannel_reacts s .a).hot_eq (by decide))
  | .cellToChannel .b => exact .inr ((cellFaultToChannel_reacts s .b).hot_eq (by decide))
  | .cellToEngine => exact .inr ((endAll_reacts _ s).hot_eq (by decide))
  | .dieHot true (.channel .a) => exact .inr ((channelReasons_reacts s .a _).hot_eq (by decide))
  | .dieHot true (.channel .b) => exact .inr ((channelReasons_reacts s .b _).hot_eq (by decide))
  | .dieHot false (.channel .a) => exact .inr ((channelReasons_reacts s .a _).hot_eq (by decide))
  | .dieHot false (.channel .b) => exact .inr ((channelReasons_reacts s .b _).hot_eq (by decide))
  | .dieHot true .engine => exact .inl ⟨true, rfl, (suspendHead_reacts _).hot_eq (by decide)⟩
  | .dieHot false .engine => exact .inl ⟨false, rfl, (releaseHead_reacts _).hot_eq (by decide)⟩
  | .linkToArbiter => exact .inr ((lockLink_reacts s).hot_eq (by decide))
  | .linkToEngine => exact .inr ((linkFaultToEngine_reacts s).hot_eq (by decide))

/-- A fold of reports that tell the engine nothing but `b` leaves it at `b`, where one tells it or it holds that already. -/
theorem takeReports_told {b : Bool} (l : List FaultReport) : ∀ {s : State}, (∀ d, .dieHot d .engine ∈ l → d = b) →
    .dieHot b .engine ∈ l ∨ s.bal.dieHot = b → (l.foldl (fun s x => takeReport x s) s).bal.dieHot = b := by
  induction l with
  | nil => exact fun _ told => told.resolve_left nofun
  | cons x l ih =>
    intro s agree told
    refine ih (fun d hd => agree d (List.mem_cons_of_mem _ hd)) ?_
    rcases takeReport_told x s with ⟨d, rfl, now⟩ | kept
    · exact .inr (now.trans (agree d (List.mem_cons_self ..)))
    · rcases told with member | was
      · rcases List.mem_cons.mp member with rfl | later
        · rcases b.eq_false_or_eq_true with rfl | rfl
          · exact .inr ((suspendHead_reacts _).hot_eq (by decide))
          · exact .inr ((releaseHead_reacts _).hot_eq (by decide))
        · exact .inl later
      · exact .inr (kept.trans was)

/-- R172: the reports of a change tell the engine what the monitor holds, where that changes. -/
theorem reportsOf_told (old new : Protection) : (∀ d, .dieHot d .engine ∈ reportsOf old new → d = new.device.dieHot)
    ∧ (.dieHot new.device.dieHot .engine ∈ reportsOf old new ∨ old.device.dieHot = new.device.dieHot) := by
  refine ⟨fun d hd => ?_, ?_⟩
  · simp only [reportsOf, everyListener, List.mem_append] at hd
    rcases hd with ((hd | hd) | hd) | hd
    all_goals split at hd
    all_goals simp at hd
    exact hd
  · by_cases same : old.device.dieHot = new.device.dieHot
    · exact .inr same
    · refine .inl ?_
      simp [reportsOf, everyListener, same]

/-- R168, R172: after a sample's reports the engine holds what the monitor does. -/
theorem monitorSample_told {s : State} (h : s.HotTold) (order : Nat) : (monitorSample order s).HotTold := by
  unfold monitorSample
  dsimp only
  split
  · exact h
  let new := s.prot.judged s.sample
  let reports := arrange order (reportsOf s.prot new)
  obtain ⟨agree, told⟩ := reportsOf_told s.prot new
  have entered := Apart.enterFaults_rest new s
  have kept : (enterFaults new s).bal.dieHot = s.prot.device.dieHot := by
    rw [entered.bal]
    exact h
  have same := (arrange_perm order (reportsOf s.prot new)).mem_iff (a := .dieHot new.device.dieHot .engine)
  have after : (reports.foldl (fun s x => takeReport x s) (enterFaults new s)).bal.dieHot = new.device.dieHot :=
    takeReports_told reports (fun d hd => agree d ((arrange_perm order _).mem_iff.mp hd)) (told.imp same.mpr kept.trans)
  refine State.HotTold.apart ?_ (.trigger _)
  rw [State.HotTold, after, Keeps.prot (takeReports_reacts _ _).keeps, entered.hot]
  rfl

/-! ### The commands that reach the users -/

theorem Apart.raiseAll (k : Notice) (s : State) : Apart s (raiseAll k s) := (Apart.raiseMainHub k s).trans (.raiseNotice k .input _)

/-- R32, R86: the claim table's part of a publication, its notices, and the end of the pass stand apart. -/
theorem Apart.publishGrants (grants : List GrantOut) (s : State) : Apart s (publishGrants grants s) := by
  refine foldl_preserves (P := Apart s) _ _ (fun c _ u hu => hu.trans ?_) _ (.setTable s _)
  cases c.owner with
  | internal => exact .refl u
  | port p => exact .raiseNotice .grant p u

theorem Apart.publishNotices (old : Publication) (s : State) : Apart s (publishNotices old s) :=
  (Apart.raiseIf _ (.raiseMainHub .deficit) s).trans (.raiseIf _ (.raiseMainHub .shortfall) _)

theorem Apart.endPass (s : State) : Apart s (endPass s) := by
  unfold Machine.endPass
  split
  · exact ⟨rfl, rfl, Iff.rfl, rfl, rfl, rfl, rfl, rfl, rfl, rfl, rfl, rfl, rfl, rfl, id⟩
  · exact .of_fields rfl rfl rfl rfl rfl rfl rfl rfl rfl rfl rfl rfl rfl

theorem yieldAtExpiry_reacts (s : State) : Reacts engineEffects s (yieldAtExpiry s) := by
  unfold yieldAtExpiry
  split
  · exact .ite (yieldOf_reacts s _) (.refl s)
  · exact .refl s
  · exact .refl s

/-- R137: once the job is at the back of the queue, only a new head reacts. -/
theorem placeJob_reacts (j : Job) (s : State) : Reacts engineEffects
    (s.setBal { s.bal with queue := s.bal.queue ++ [j], tagCounter := nextTag j.tag }) (placeJob j s) :=
  .ite (newHead_reacts startChecks_reacts _) (.refl _)

namespace UsersStand
variable {s t : State}

theorem of_fields (h : UsersStand s) (arb : t.arb = s.arb) (bal : t.bal = s.bal) (hold : t.hold = s.hold) (chA : t.chA = s.chA)
    (chB : t.chB = s.chB) : UsersStand t := by
  refine ⟨bal ▸ h.counter, hold ▸ h.hold, h.full.same engineRules ⟨arb, by rw [bal], by rw [hold], by rw [hold], by rw [bal]⟩
    (by rw [chB]), ?_⟩
  rw [State.HoldSound, hold, chA, chB]
  exact h.holds

theorem clears (h : UsersStand s) (target : ClearTarget) : UsersStand (reportClear target (s.setProt (s.prot.cleared target))) := by
  have cleared : UsersStand (s.setProt (s.prot.cleared target)) := h.of_fields rfl rfl rfl rfl rfl
  cases target with
  | cell c => exact cleared
  | link => exact cleared.reacts (unlockLink_reacts _) (by decide) (by decide) fun _ => unlockLink_stand

theorem monitorSample (h : UsersStand s) (order : Nat) : UsersStand (monitorSample order s) := by
  unfold Machine.monitorSample
  dsimp only
  split
  · exact h
  · exact ((h.enterFaults _).takeReports _).apart (.trigger _)

/-- R137: the accepted job. -/
theorem placeJob (h : UsersStand s) {j : Job} (room : s.bal.queue.length < Config.queueDepth) (fresh : j.Fresh) (sound : j.Sound)
    (tag : j.tag ∉ s.bal.queue.map Job.tag) : UsersStand (placeJob j s) := by
  have reacts := placeJob_reacts j s
  have holds : State.HoldSound (s.setBal { s.bal with queue := s.bal.queue ++ [j], tagCounter := nextTag j.tag }) := h.holds
  refine ⟨?_, ?_, ?_, holds.reacts reacts (by decide) (by decide)⟩
  · rw [reacts.tagCounter_eq]
    exact Nat.mod_lt _ (by decide)
  · rw [HoldCtl.Sound, reacts.holdOff_iff, holdEmpty_of_keeps reacts.keeps]
    exact h.hold
  · have request : (Machine.placeJob j s).chB.request = s.chB.request := reacts.request_eq (by decide)
    rw [Full, request]
    exact placeJob_stand h.full room fresh sound tag

/-- R204: SHIP leaves no user of the link. -/
theorem enterShip (h : UsersStand s) : UsersStand (enterShip s) := by
  refine ⟨h.counter, iff_of_true rfl rfl, ⟨⟨⟨nofun, nofun⟩, rfl, iff_of_false ?_ nofun⟩, ?_⟩, fun on => absurd rfl on⟩
  · rintro (waits | held)
    · exact nomatch waits
    · exact nomatch held
  · refine ⟨⟨Nat.zero_le _, nofun, nofun, List.nodup_nil⟩, iff_of_false ?_ ?_, nofun, nofun⟩
    · rintro ⟨j, hj, -⟩
      exact nomatch hj
    · rintro (waits | held)
      · exact nomatch waits
      · exact nomatch held

/-- R200: the end of LOADING, with the starts of the channels. -/
theorem endLoading (h : UsersStand s) : UsersStand (endLoading s) := by
  have timed (p : Port) (u : State) (hu : UsersStand u) : UsersStand (startDormancy p u) := hu.apart (.setPort u p _)
  have auto (c : Cell) (n : Nat) (u : State) (hu : UsersStand u) : UsersStand (autoStart c n u) := by
    unfold autoStart
    split
    · exact hu
    · exact hu.startChannel c n
  have autoAll (u : State) (hu : UsersStand u) : UsersStand (autoStartAll u) := by
    unfold autoStartAll
    split
    · exact auto .b _ _ (auto .a _ _ hu)
    · exact hu
  have began := autoAll _ (timed .input _ (timed .hub _ (timed .main _ (h.apart (.takeInput s.input.limit s)))))
  unfold Machine.endLoading
  refine UsersStand.apart (UsersStand.apart ?_ (.raiseAll .ready _)) (.trigger _)
  exact began.of_fields rfl rfl rfl rfl rfl

/-- R42, R43: the stages that an attach and a detach hand their setpoints are no users of the link. -/
theorem charges (h : UsersStand s) (n : Nat) : UsersStand (takeCharge n s) :=
  h.aside (takeCharge_reacts s n) (by decide) (by decide) (by decide) (by decide) (by decide) (by decide) (by decide)

theorem follows (h : UsersStand s) : UsersStand (linkFollow s) :=
  h.aside (linkFollow_reacts s) (by decide) (by decide) (by decide) (by decide) (by decide) (by decide) (by decide)

theorem attachVbus (h : UsersStand s) : UsersStand (attachVbus s) := by
  have present : UsersStand { s with present := true, input := s.input.attached } := h.of_fields rfl rfl rfl rfl rfl
  exact ((present.apart (((Apart.leaveMonitor _).trans (.handLimit _)).trans (.trigger _))).charges _).follows

theorem detachVbus (h : UsersStand s) : UsersStand (detachVbus s) := by
  have absent : UsersStand { s with present := false, input := s.input.detached, inputStage := s.inputStage.cut } :=
    h.of_fields rfl rfl rfl rfl rfl
  have told := absent.apart (((Apart.raiseIf s.input.held.isSome (.raiseMainHub .contract) _).trans (.handLimit _)).trans (.trigger _))
  have bridged : UsersStand (takeBridge (takeCharge 0 (trigger (handLimit (raiseIf s.input.held.isSome (raiseMainHub .contract)
      { s with present := false, input := s.input.detached, inputStage := s.inputStage.cut }))))) :=
    (told.charges 0).of_fields rfl rfl rfl rfl rfl
  exact bridged.follows.apart (.monitorTest _)

/-- R81, R84: SUPPLY is raised or withdrawn. -/
theorem publishSupply (h : UsersStand s) : UsersStand (publishSupply s) := by
  refine h.reacts (publishSupply_reacts s) (by decide) (by decide) fun c stand => ?_
  unfold Machine.publishSupply
  split
  · have raised := raiseReq_stand (r := .supply) nofun stand
    rwa [show (Requester.supply = .chargeB ∨ c) = c by simp] at raised
  · have withdrawn := withdrawReq_stand (r := .supply) nofun stand
    rwa [show (Requester.supply ≠ .chargeB ∧ c) = c by simp] at withdrawn

theorem publishTo (h : UsersStand s) (old : Publication) (grants : List GrantOut) (x : Recipient) :
    UsersStand (publishTo old grants x s) := by
  cases x with
  | table => exact h.apart (.publishGrants grants s)
  | channelA => exact h.commit .a (Change.holds_publication _ _ _ _ _ _ (h.held .a))
  | channelB => exact h.commit .b (Change.holds_publication _ _ _ _ _ _ (h.held .b))
  | path => exact h.of_fields rfl rfl rfl rfl rfl
  | supply => exact h.publishSupply
  | link => exact h.follows
  | notices => exact h.apart (.publishNotices old s)

theorem publish (h : UsersStand s) (x : Snapshot) (order : Nat) : UsersStand (publish x order s) := by
  have recorded : UsersStand (s.setAlloc { s.alloc with record := x.figures (nextCount s.alloc.record.count), published := true }) :=
    h.of_fields rfl rfl rfl rfl rfl
  have told := foldl_preserves (P := UsersStand) (fun s' r => Machine.publishTo s.alloc.record x.grants r s') (arrange order everyRecipient)
    (fun r _ u hu => hu.publishTo _ _ r) _ recorded
  exact told.apart (.endPass _)

/-- The arbiter's timers and marks are its own. -/
theorem retimed (h : UsersStand s) {a : Arbiter} (link : a.link = s.arb.link) (waiting : a.waiting = s.arb.waiting) :
    UsersStand (s.setArb a) := by
  have asks (r : Requester) : a.asks r ↔ s.arb.asks r := by rw [Arbiter.asks, link, waiting]; rfl
  refine ⟨h.counter, h.hold, ⟨⟨?_, h.full.1.view.trans link.symm, (asks .chargeB).trans h.full.1.chargeB⟩, ?_⟩, h.holds⟩
  · show a.Sound
    rw [Arbiter.Sound, link, waiting]
    exact h.full.1.sound
  · exact h.full.2.congr (by show a.link = _ ↔ _; rw [link]) (congrArg Waiting.balance waiting) rfl Iff.rfl rfl

/-- R126: at the expiry of the tenure a yield may start. -/
theorem tenureExpires (h : UsersStand s) : UsersStand (tenureExpires s) := by
  unfold Machine.tenureExpires
  split
  · exact h
  next due _ =>
    have expired : UsersStand ((reach due s).setArb { s.arb with tenure := none, tenureExpired := true }) :=
      (h.apart (.reach due s)).retimed rfl rfl
    refine expired.reacts (yieldAtExpiry_reacts _) (by decide) (by decide) fun c stand => ?_
    unfold yieldAtExpiry
    split
    next held =>
      split
      · exact engineRules.startYield stand.1 stand.2 held
      · exact stand
    · exact stand
    · exact stand

/-- R119, R129: at the expiry of a backoff a choice may be made. -/
theorem backoffExpires (h : UsersStand s) (r : Requester) : UsersStand (backoffExpires r s) := by
  unfold Machine.backoffExpires
  split
  · exact h
  next due _ =>
    have expired : UsersStand ((reach due s).setArb (s.arb.setBackoff r none)) := by
      refine (h.apart (.reach due s)).retimed ?_ ?_ <;> cases r <;> rfl
    dsimp only
    split
    next free => exact expired.reacts (choiceFree_reacts _) (by decide) (by decide) fun c stand => choiceFree_stand stand free
    · exact expired
    · exact expired

/-- R123: the arbiter takes the link's settled event. -/
theorem arbiterSettled (h : UsersStand s) : UsersStand (arbiterSettled s) := by
  refine h.reacts (arbiterSettled_reacts s) (by decide) (by decide) fun c stand => ?_
  unfold Machine.arbiterSettled
  split
  next link => exact engineRules.endChangeover stand.1 stand.2 link
  next free => exact choiceFree_stand stand free
  · exact stand

theorem linkSettles (h : UsersStand s) (holdFirst : Bool) : UsersStand (linkSettles holdFirst s) := by
  have settled : UsersStand { s with linkStage := s.linkStage.settle } := h.of_fields rfl rfl rfl rfl rfl
  unfold Machine.linkSettles
  dsimp only
  split
  · split
    · exact (settled.apart (.holdTest _)).arbiterSettled
    · exact settled.arbiterSettled.apart (.holdTest _)
  · exact h

theorem cellAPathSettles (h : UsersStand s) : UsersStand (cellAPathSettles s) := by
  have settled : UsersStand (s.setPathA { s.pathA with stage := s.pathA.stage.settle }) := h.of_fields rfl rfl rfl rfl rfl
  unfold Machine.cellAPathSettles
  split
  · exact settled.apart (.holdTest _)
  · exact h

end UsersStand

end Sys2Proof.Machine
end

section
/-! Every step keeps the link's users sound (O58). -/

namespace Sys2Proof.Machine

namespace State.HotTold
variable {s t : State}

theorem of_fields (h : s.HotTold) (hot : t.bal.dieHot = s.bal.dieHot) (prot : t.prot.device.dieHot = s.prot.device.dieHot) :
    t.HotTold := by
  rw [State.HotTold, hot, prot]
  exact h

theorem commit (h : s.HotTold) (c : Cell) (y : Change) : (commit c y s).HotTold :=
  h.reacts (commit_reacts s c y) (by cases c <;> decide)

theorem joinHold (h : s.HotTold) (p : Port) : (joinHold p s).HotTold := by
  unfold Machine.joinHold
  split
  · refine State.HotTold.apart ?_ (.setPort _ p _)
    unfold Machine.beginHold
    refine State.HotTold.apart (State.HotTold.reacts ?_ (reportHoldBegan_reacts _) (by decide)) (.trigger _)
    exact h
  · exact h
  · exact h

theorem leaveHold (h : s.HotTold) (p : Port) (order : Nat) (own : Bool) : (leaveHold p order own s).HotTold := by
  unfold Machine.leaveHold
  dsimp only
  split
  · unfold endHold
    refine State.HotTold.apart ?_ (.monitorTest _)
    have ended (l : List Listener) (u : State) (hu : u.HotTold) : (l.foldl (fun s l => holdEnded l s) u).HotTold :=
      hu.reacts (holdEndeds_reacts l u) (by decide)
    cases own
    · exact ended _ _ h
    · refine State.HotTold.apart ?_ (.trigger _)
      exact ended _ _ h
  · exact h

theorem clears (h : s.HotTold) (target : ClearTarget) : (reportClear target (s.setProt (s.prot.cleared target))).HotTold := by
  cases target with
  | cell c => cases c <;> exact h
  | link => exact State.HotTold.reacts (s := s.setProt (s.prot.cleared .link)) h (unlockLink_reacts _) (by decide)

theorem placeJob (h : s.HotTold) (j : Job) : (placeJob j s).HotTold :=
  State.HotTold.reacts (s := s.setBal { s.bal with queue := s.bal.queue ++ [j], tagCounter := nextTag j.tag }) h
    (placeJob_reacts j s) (by decide)

/-- The reset of the blocks leaves the engine told of the DIE_HOT that it keeps (R178, log 34). -/
theorem resetBlocks (h : s.HotTold) : (resetBlocks s).bal = { State.reset.bal with dieHot := (resetBlocks s).prot.device.dieHot } :=
  congrArg (fun b => { State.reset.bal with dieHot := b }) h

theorem endLoading (h : s.HotTold) : (endLoading s).HotTold := by
  have timed (p : Port) (u : State) (hu : u.HotTold) : (startDormancy p u).HotTold := hu
  have auto (c : Cell) (n : Nat) (u : State) (hu : u.HotTold) : (autoStart c n u).HotTold := by
    unfold autoStart
    split
    · exact hu
    · exact hu.commit c _
  have autoAll (u : State) (hu : u.HotTold) : (autoStartAll u).HotTold := by
    unfold autoStartAll
    split
    · exact auto .b _ _ (auto .a _ _ hu)
    · exact hu
  have began := autoAll _ (timed .input _ (timed .hub _ (timed .main _ (h.apart (.takeInput s.input.limit s)))))
  unfold Machine.endLoading
  refine State.HotTold.apart (State.HotTold.apart ?_ (.raiseAll .ready _)) (.trigger _)
  exact began.of_fields rfl rfl

theorem attachVbus (h : s.HotTold) : (attachVbus s).HotTold := by
  have present : State.HotTold { s with present := true, input := s.input.attached } := h
  have told := present.apart (((Apart.leaveMonitor _).trans (.handLimit _)).trans (.trigger _))
  exact (told.reacts (takeCharge_reacts _ _) (by decide)).reacts (linkFollow_reacts _) (by decide)

theorem detachVbus (h : s.HotTold) : (detachVbus s).HotTold := by
  have absent : State.HotTold { s with present := false, input := s.input.detached, inputStage := s.inputStage.cut } := h
  have told := absent.apart (((Apart.raiseIf s.input.held.isSome (.raiseMainHub .contract) _).trans (.handLimit _)).trans (.trigger _))
  have charged := told.reacts (takeCharge_reacts _ 0) (by decide)
  refine State.HotTold.apart (State.HotTold.reacts (E := followEffects) ?_ (linkFollow_reacts _) (by decide)) (.monitorTest _)
  exact charged.of_fields rfl rfl

theorem publish (h : s.HotTold) (x : Snapshot) (order : Nat) : (publish x order s).HotTold := by
  have one (r : Recipient) (u : State) (hu : u.HotTold) : (publishTo s.alloc.record x.grants r u).HotTold := by
    cases r with
    | table => exact hu.apart (.publishGrants _ u)
    | channelA => exact hu.commit .a _
    | channelB => exact hu.commit .b _
    | path => exact hu
    | supply => exact hu.reacts (publishSupply_reacts u) (by decide)
    | link => exact hu.reacts (linkFollow_reacts u) (by decide)
    | notices => exact hu.apart (.publishNotices _ u)
  have told := foldl_preserves (P := State.HotTold) (fun s' r => publishTo s.alloc.record x.grants r s')
    (arrange order everyRecipient) (fun r _ u hu => one r u hu)
    (s.setAlloc { s.alloc with record := x.figures (nextCount s.alloc.record.count), published := true }) h
  exact told.apart (.endPass _)

theorem tenureExpires (h : s.HotTold) : (tenureExpires s).HotTold := by
  unfold Machine.tenureExpires
  split
  · exact h
  next due _ =>
    exact State.HotTold.reacts (s := (reach due s).setArb { s.arb with tenure := none, tenureExpired := true }) h
      (yieldAtExpiry_reacts _) (by decide)

theorem backoffExpires (h : s.HotTold) (r : Requester) : (backoffExpires r s).HotTold := by
  unfold Machine.backoffExpires
  split
  · exact h
  · dsimp only
    split
    · exact State.HotTold.reacts (E := engineEffects) (by exact h) (choiceFree_reacts _) (by decide)
    · exact h
    · exact h

theorem linkSettles (h : s.HotTold) (holdFirst : Bool) : (linkSettles holdFirst s).HotTold := by
  have settled : State.HotTold { s with linkStage := s.linkStage.settle } := h
  unfold Machine.linkSettles
  dsimp only
  split
  · split
    · exact (settled.apart (.holdTest _)).reacts (arbiterSettled_reacts _) (by decide)
    · exact (settled.reacts (arbiterSettled_reacts _) (by decide)).apart (.holdTest _)
  · exact h

theorem cellAPathSettles (h : s.HotTold) : (cellAPathSettles s).HotTold := by
  unfold Machine.cellAPathSettles
  split
  · exact State.HotTold.apart (s := s.setPathA { s.pathA with stage := s.pathA.stage.settle }) h (.holdTest _)
  · exact h

end State.HotTold

theorem cancelJob_reacts (j : Job) (s : State) : Reacts engineEffects s (cancelJob j s) :=
  .ite (finishHead_reacts s _)
    (Reacts.trans ((Touches.queue (s.bal.queue.filter (fun k => k.tag != j.tag)) s fun none => by rw [none]; rfl).reacts (by decide))
      (recordEnding_reacts _ (by decide) (by decide) j _))

/-- R116 to R165: every command keeps the users of the link as the manual says. -/
theorem linkUsersRules : StepRules fun s => UsersStand s ∧ s.HotTold where
  apart keeps h := ⟨h.1.apart keeps, h.2.apart keeps⟩
  joins h p := ⟨h.1.joinHold p, h.2.joinHold p⟩
  leaves h p order own := ⟨h.1.leaveHold p order own, h.2.leaveHold p order own⟩
  portReset h p := ⟨h.1.reacts (enginePortReset_reacts _ p) (by decide) (by decide) fun _ => enginePortReset_stand p,
    h.2.reacts (enginePortReset_reacts _ p) (by decide)⟩
  starts h _ c n := ⟨h.1.startChannel c n, h.2.commit c _⟩
  stops h c := ⟨h.1.commit c (Change.holds_stop (h.1.held c)), h.2.commit c _⟩
  fails h c _ := ⟨h.1.commit c (Change.holds_fail _), h.2.commit c _⟩
  walks h c active := ⟨h.1.commit c (Change.holds_walk _ _ _ _ fun on => h.1.held c on active), h.2.commit c _⟩
  writes h _ _ _ _ := ⟨h.1.of_fields rfl rfl rfl rfl rfl, h.2⟩
  places {s} h j room fresh sound tag := ⟨h.1.placeJob room fresh (sound h.1.counter) (tag ▸ freshTag_free room h.1.counter),
    h.2.placeJob j⟩
  cancels {s} h j first := by
    obtain ⟨_, found⟩ := first
    have queued := List.mem_of_find?_eq_some found
    have reacts := cancelJob_reacts j s
    exact ⟨h.1.reacts reacts (by decide) (by decide) fun _ => cancelJob_stand queued, h.2.reacts reacts (by decide)⟩
  clears h target := ⟨h.1.clears target, h.2.clears target⟩
  ships h := ⟨h.1.enterShip, h.2⟩
  resets {s} h := by
    rw [resetDevice]
    obtain ⟨x, y, z, -, -, -, reset⟩ := resetStages_eq (s := resetBlocks (leaveMonitor s)) rfl rfl
    have told := (h.2.apart (.leaveMonitor s)).resetBlocks
    rw [reset]
    exact (linkUsersSound_iff _).mp (linkUsersSound_of_reset rfl rfl told rfl)
  powers level s := (linkUsersSound_iff _).mp (resetPowerOn_linkUsersSound level s)
  attaches h := ⟨h.1.attachVbus, h.2.attachVbus⟩
  detaches h := ⟨h.1.detachVbus, h.2.detachVbus⟩
  copies h _ := ⟨h.1.of_fields rfl rfl rfl rfl rfl, h.2⟩
  loads h _ := ⟨h.1.endLoading, h.2.endLoading⟩
  senses h order := ⟨h.1.monitorSample order, monitorSample_told h.2 order⟩
  observes h c := ⟨h.1.commit c (Change.holds_sample _ _ _ (h.1.held c)), h.2.commit c _⟩
  credits h := ⟨h.1.reacts (engineSample_reacts _) (by decide) (by decide) fun _ => engineSample_stand,
    h.2.reacts (engineSample_reacts _) (by decide)⟩
  publishes h x order := ⟨h.1.publish x order, h.2.publish x order⟩
  tenure h := ⟨h.1.tenureExpires, h.2.tenureExpires⟩
  backoff h r := ⟨h.1.backoffExpires r, h.2.backoffExpires r⟩
  pathSettles h := ⟨h.1.cellAPathSettles, h.2.cellAPathSettles⟩
  linkSettles h holdFirst := ⟨h.1.linkSettles holdFirst, h.2.linkSettles holdFirst⟩

/-- Settles O58: each command keeps the users of the link standing, and what the engine was told of DIE_HOT. -/
theorem linkUsersStaySound : Obligations.LinkUsersStaySound := by
  unfold Obligations.LinkUsersStaySound
  intro s t sound stepped
  exact (linkUsersSound_iff t).mpr (linkUsersRules.step ((linkUsersSound_iff s).mp sound) stepped)

end Sys2Proof.Machine
end

section
/-! Channel B and the hinge link (R4, R8, R9, R94, R98): what each operation of the arbiter and the engine keeps of them. -/

namespace Sys2Proof.Machine

/-- R1, R95, R98: channel B presents the smaller of its setpoint and its demand and holds no reason outside ACTIVE, and the link
is RAMPING exactly while it is not at its target. -/
structure LinkRuns (s : State) : Prop where
  ramps : s.linkStage.ramping = true ↔ s.linkStage.output ≠ s.linkStage.target
  presents : s.chB.Presents .b s.profile
  rests : s.chB.Rests

/-- R8, R94: channel B's NO_LINK stands exactly where CHARGE_B does not hold the link, and where `follows` holds, the link's target
is what its holder asks for. -/
structure LinkStands (follows : Prop) (s : State) : Prop extends LinkRuns s where
  noLink : s.chB.state = .active → (s.chB.reasons.noLink = true ↔ s.arb.link ≠ .held .chargeB)
  follow : follows → s.linkStage.target = s.linkTarget

/-- R8, R9: what the link's target turns on. -/
theorem linkTarget_congr {s t : State} (link : t.arb.link = s.arb.link) (record : t.alloc.record = s.alloc.record)
    (present : t.present = s.present) (presented : t.chB.presented = s.chB.presented)
    (flow : s.arb.link = .held .balance → t.bal.flow = s.bal.flow) : t.linkTarget = s.linkTarget := by
  unfold State.linkTarget
  rw [link, record, present, presented]
  split
  · rfl
  · rfl
  · rfl
  · rfl
  next held => exact flow held

/-- R8: a queue whose head does not run asks for no flow. -/
theorem flow_zero {b : Balance} (stops : ∀ j ∈ b.queue.head?, j.state ≠ .running) : b.flow = Flow.zero := by
  unfold Balance.flow
  cases queue : b.queue with
  | nil => rfl
  | cons j rest => exact if_neg (stops j (by rw [queue]; rfl))

theorem LinkRuns.congr {s t : State} (h : LinkRuns s) (chB : { t.chB with stale := false } = { s.chB with stale := false })
    (linkStage : t.linkStage = s.linkStage) (profile : t.profile = s.profile) : LinkRuns t := by
  have state : t.chB.state = s.chB.state := (congrArg Channel.state chB :)
  have reasons : t.chB.reasons = s.chB.reasons := (congrArg Channel.reasons chB :)
  have presented : t.chB.presented = s.chB.presented := (congrArg Channel.presented chB :)
  have published : t.chB.published = s.chB.published := (congrArg Channel.published chB :)
  have demand : t.chB.demand .b t.profile = s.chB.demand .b s.profile := by
    rw [profile]
    exact (congrArg (Channel.demand .b s.profile) chB :)
  refine ⟨by rw [linkStage]; exact h.ramps, ?_, ?_⟩
  · rw [Channel.Presents, presented, published, demand]
    exact h.presents
  · rw [Channel.Rests, state, reasons]
    exact h.rests

namespace LinkStands
variable {b : Prop} {s t : State}

theorem loose (h : LinkStands b s) : LinkStands False s := ⟨h.toLinkRuns, h.noLink, False.elim⟩

theorem weaken (h : LinkStands True s) (b : Prop) : LinkStands b s := ⟨h.toLinkRuns, h.noLink, fun _ => h.follow trivial⟩

theorem congr (h : LinkStands b s) (chB : { t.chB with stale := false } = { s.chB with stale := false })
    (held : t.arb.link = .held .chargeB ↔ s.arb.link = .held .chargeB) (linkStage : t.linkStage = s.linkStage)
    (profile : t.profile = s.profile) (target : b → t.linkTarget = s.linkTarget) : LinkStands b t := by
  have state : t.chB.state = s.chB.state := (congrArg Channel.state chB :)
  have reasons : t.chB.reasons = s.chB.reasons := (congrArg Channel.reasons chB :)
  refine ⟨h.toLinkRuns.congr chB linkStage profile, ?_, fun hb => by rw [linkStage, target hb]; exact h.follow hb⟩
  rw [state, reasons, Ne, held]
  exact h.noLink

/-- Reactions that reach neither the arbiter nor channel B, the queue or the link. -/
theorem reacts {E : List Effect} (h : LinkStands b s) (reacts : Reacts E s t) (arb : .arb ∉ E) (lock : .lock ∉ E)
    (chB : .chB ∉ E) (linkB : .linkB ∉ E) (link : .link ∉ E) (queue : .queue ∉ E) : LinkStands b t := by
  have fresh := reacts.chB_fresh chB linkB
  have sameQueue := reacts.queue_eq queue
  have sameArb := reacts.arb_eq arb lock
  refine h.congr fresh (by rw [sameArb]) (reacts.linkStage_eq link) (Keeps.profile reacts.keeps) fun _ => ?_
  exact linkTarget_congr (by rw [sameArb]) (Keeps.record reacts.keeps) (Keeps.present reacts.keeps)
    (congrArg Channel.presented fresh :) fun _ => by rw [Balance.flow, Balance.flow, sameQueue]

/-- The arbiter's own sets and timers, the link state kept. -/
theorem setArb (h : LinkStands b s) {a : Arbiter} (link : a.link = s.arb.link) : LinkStands b (s.setArb a) :=
  h.congr rfl (by show a.link = _ ↔ _; rw [link]) rfl rfl fun _ => linkTarget_congr link rfl rfl rfl fun _ => rfl

/-- A queue that asks for the same flow, or is not asked for any. -/
theorem setQueue (h : LinkStands b s) {q : List Job}
    (flow : s.arb.link = .held .balance → (s.setQueue q).bal.flow = s.bal.flow) : LinkStands b (s.setQueue q) :=
  h.congr rfl Iff.rfl rfl rfl fun _ => linkTarget_congr rfl rfl rfl rfl flow

theorem setQueue_resting (h : LinkStands b s) {q : List Job} (was : ∀ j ∈ s.bal.queue.head?, j.state ≠ .running)
    (now : ∀ j ∈ q.head?, j.state ≠ .running) : LinkStands b (s.setQueue q) :=
  h.setQueue fun _ => (flow_zero now).trans (flow_zero was).symm

theorem setQueue_unheld (h : LinkStands b s) (unheld : s.arb.link ≠ .held .balance) (q : List Job) : LinkStands b (s.setQueue q) :=
  h.setQueue fun held => absurd held unheld


end LinkStands

theorem linkFollow_linkStage (s : State) :
    (linkFollow s).linkStage = (s.linkStage.take (s.linkStage.flowNow s.freeUses) s.linkTarget).1 := by
  unfold linkFollow
  split
  next same => rw [Stage.take, if_pos same]
  next =>
    dsimp only
    split
    · exact (holdTest_reacts _).linkStage_eq (by decide)
    · rfl

theorem linkFollow_linkTarget (s : State) : (linkFollow s).linkTarget = s.linkTarget := by
  have reacts := linkFollow_reacts s
  refine linkTarget_congr (congrArg Arbiter.link (reacts.arb_eq (by decide) (by decide))) (Keeps.record reacts.keeps)
    (Keeps.present reacts.keeps) ?_ fun _ => ?_
  · exact (congrArg Channel.presented (reacts.chB_fresh (by decide) (by decide)) :)
  · rw [Balance.flow, Balance.flow, reacts.queue_eq (by decide)]

theorem LinkRuns.linkFollow {s : State} (h : LinkRuns s) : LinkRuns (linkFollow s) := by
  have reacts := linkFollow_reacts s
  have stage := linkFollow_linkStage s
  have moved : LinkRuns { s with linkStage := (Machine.linkFollow s).linkStage } := by
    refine ⟨?_, h.presents, h.rests⟩
    show (Machine.linkFollow s).linkStage.ramping = true ↔ _
    rw [stage]
    exact Stage.take_ramping_iff h.ramps _ _
  exact moved.congr (reacts.chB_fresh (by decide) (by decide)) rfl (Keeps.profile reacts.keeps)

namespace LinkStands
variable {b : Prop} {s t : State}

theorem follows (h : LinkStands b s) : LinkStands True (linkFollow s) := by
  have reacts := linkFollow_reacts s
  have fresh := reacts.chB_fresh (by decide) (by decide)
  have state : (linkFollow s).chB.state = s.chB.state := (congrArg Channel.state fresh :)
  have reasons : (linkFollow s).chB.reasons = s.chB.reasons := (congrArg Channel.reasons fresh :)
  refine ⟨h.toLinkRuns.linkFollow, ?_, fun _ => ?_⟩
  · rw [state, reasons, reacts.arb_eq (by decide) (by decide)]
    exact h.noLink
  · rw [linkFollow_linkTarget, linkFollow_linkStage]
    exact Stage.take_target ..

/-! ### Reports, grants and losses (R121, R122) -/

/-- R94, R98: channel B takes a report of its link, and the link follows what it then presents. -/
theorem reportToB {lone : Bool} (h : LinkRuns s) (link : lone = true ↔ s.arb.link ≠ .held .chargeB) :
    LinkStands True (reportToB lone s) := by
  let y := Change.withReasons .b s.profile { s.chB.reasons with noLink := lone } s.chB
  have told : LinkStands False { s with chB := y.ch } := by
    by_cases active : s.chB.state = .active
    · have same : y.ch = ({ s.chB with reasons := { s.chB.reasons with noLink := lone } } : Channel).represent .b s.profile :=
        congrArg Change.ch (if_pos active)
      rw [same]
      exact ⟨⟨h.ramps, rfl, fun left => absurd active left⟩, fun _ => link, False.elim⟩
    · have same : y.ch = s.chB := congrArg Change.ch (if_neg active)
      rw [same]
      exact ⟨h, fun now => absurd now active, False.elim⟩
  have followed := told.follows
  unfold Machine.reportToB
  dsimp only
  split
  · exact followed.reacts (trigger_reacts (E := [.pass]) _ (by decide)) (by decide) (by decide) (by decide) (by decide) (by decide)
      (by decide)
  · exact followed

/-- R132: the hold control is told of the link state, and a pass is triggered. -/
theorem reported (h : LinkStands b s) : LinkStands b (trigger (reportLink s)) := by
  have reacts : Reacts (.view :: restEffects) s (trigger (reportLink s)) := (reportLink_reacts s).trans (trigger_reacts _ (by decide))
  exact h.reacts reacts (by decide) (by decide) (by decide) (by decide) (by decide) (by decide)

/-- R122: a loss by the holder, up to the choice that may follow at once. -/
theorem afterLoss {r : Requester} (h : LinkStands False s) (held : s.arb.link = .held r) (cause : LossCause) :
    LinkStands True (afterLoss cause r s) := by
  have link : (linkFollow (s.setArb (s.arb.lost s.now r (cause != .withdrawal)))).arb.link = .changeover := by
    rw [(linkFollow_reacts _).arb_eq (by decide) (by decide)]
    exact lost_link ..
  have others (ne : r ≠ .chargeB) : LinkStands True (linkFollow (s.setArb (s.arb.lost s.now r (cause != .withdrawal)))) := by
    refine LinkStands.follows (b := False) ⟨⟨h.ramps, h.presents, h.rests⟩, fun active => (h.noLink active).trans ?_, False.elim⟩
    refine iff_of_true ?_ ?_
    · rw [held]
      exact fun same => ne (LinkState.held.inj same)
    · show (s.arb.lost ..).link ≠ _
      rw [lost_link]
      nofun
  cases r with
  | supply => exact (others nofun).reported
  | chargeB =>
    have runs : LinkRuns (s.setArb (s.arb.lost s.now .chargeB (cause != .withdrawal))) := ⟨h.ramps, h.presents, h.rests⟩
    exact (LinkStands.reportToB runs.linkFollow (by rw [link]; exact iff_of_true rfl nofun)).reported
  | balance =>
    refine LinkStands.reported (b := True) ?_
    rw [reportLossToEngine_eq]
    exact (others nofun).setQueue_unheld (by rw [link]; nofun) _

variable {f : State → State} (answers : ∀ u, LinkStands True u → LinkStands True (f u))
include answers

/-- R121: a grant of a link that CHARGE_B does not hold. -/
theorem grantLink (h : LinkStands False s) (unheld : s.arb.link ≠ .held .chargeB) (r : Requester) :
    LinkStands True (grantLink f r s) := by
  have link : (linkFollow (s.setArb (s.arb.granted s.now s.settings.tenure r))).arb.link = .held r := by
    rw [(linkFollow_reacts _).arb_eq (by decide) (by decide)]
    exact granted_link ..
  have others (ne : r ≠ .chargeB) : LinkStands True (linkFollow (s.setArb (s.arb.granted s.now s.settings.tenure r))) := by
    refine LinkStands.follows (b := False) ⟨⟨h.ramps, h.presents, h.rests⟩, fun active => (h.noLink active).trans ?_, False.elim⟩
    refine iff_of_true unheld ?_
    show (s.arb.granted ..).link ≠ _
    rw [granted_link]
    exact fun same => ne (LinkState.held.inj same)
  cases r with
  | supply => exact (others nofun).reported
  | balance => exact (answers _ (others nofun)).reported
  | chargeB =>
    have runs : LinkRuns (s.setArb (s.arb.granted s.now s.settings.tenure .chargeB)) := ⟨h.ramps, h.presents, h.rests⟩
    exact (LinkStands.reportToB runs.linkFollow (by rw [link]; exact iff_of_false nofun fun other => other rfl)).reported

theorem chooseFree (h : LinkStands b s) (free : s.arb.link = .free) : LinkStands b (chooseFree f s) := by
  unfold Machine.chooseFree
  split
  · split
    · exact (h.loose.grantLink answers (by rw [free]; nofun) _).weaken b
    · exact h
  · exact h

theorem endChangeover (h : LinkStands b s) (link : s.arb.link = .changeover) : LinkStands b (endChangeover f s) := by
  unfold Machine.endChangeover
  split
  · exact (h.loose.grantLink answers (by rw [link]; nofun) _).weaken b
  · have freed : LinkStands b (s.setArb { s.arb with link := .free }) := by
      refine h.congr rfl (iff_of_false nofun (by rw [link]; nofun)) rfl rfl fun _ => ?_
      unfold State.linkTarget
      rw [link]
      rfl
    exact freed.reacts (reportLink_reacts _) (by decide) (by decide) (by decide) (by decide) (by decide) (by decide)

theorem loseLink {r : Requester} (h : LinkStands False s) (held : s.arb.link = .held r) (cause : LossCause) :
    LinkStands True (loseLink f cause r s) := by
  have lost := h.afterLoss held cause
  rw [loseLink_eq]
  split
  · exact lost.endChangeover answers (afterLoss_unheld cause r s)
  · exact lost

/-! ### Requests (R117, R125, R126) -/

theorem startYield {r : Requester} (h : LinkStands b s) (held : s.arb.link = .held r) : LinkStands b (startYield f r s) := by
  cases r with
  | chargeB => exact (h.loose.loseLink answers held .yield).weaken b
  | balance => exact h.setArb rfl
  | supply => exact h

theorem raiseLink (h : LinkStands b s) (r : Requester) : LinkStands b (raiseLink f r s) := by
  have asks : LinkStands b (asked r s) := h.setArb rfl
  unfold Machine.raiseLink
  split
  · exact h
  · dsimp only
    split
    next free => exact asks.chooseFree answers free
    next holder held =>
      have yields (x : Bool) : LinkStands b (if x then Machine.startYield f holder (asked r s) else asked r s) := by
        split
        · exact asks.startYield answers held
        · exact asks
      cases r with
      | supply => exact (asks.loose.loseLink answers held .preemption).weaken b
      | chargeB => exact yields _
      | balance => exact yields _
    · exact asks

/-- R125: a withdrawal re-establishes the link's target where the requester held it. -/
theorem withdrawLink {r : Requester} (h : LinkStands False s) (unheld : s.arb.link ≠ .held r → LinkStands b s) :
    LinkStands b (withdrawLink f r s) := by
  by_cases held : s.arb.link = .held r
  · rw [withdrawLink_held f held]
    exact (h.loseLink answers held .withdrawal).weaken b
  · rw [withdrawLink_unheld f held]
    exact (unheld held).setArb rfl

end LinkStands

end Sys2Proof.Machine
end

section
/-! What the engine's operations keep of channel B and the hinge link (R8, R137 to R150). -/

namespace Sys2Proof.Machine

/-- R122, R125: BALANCE does not hold the link that it has given back. -/
theorem withdrawLink_gives (f : State → State) (s : State) : (withdrawLink f .balance s).arb.link ≠ .held .balance := by
  by_cases held : s.arb.link = .held .balance
  · rw [withdrawLink_held f held, loseLink_eq]
    have lost : (afterLoss .withdrawal .balance s).arb = s.arb.lost s.now .balance false :=
      (afterLoss_sameUsers s .withdrawal .balance).arb
    have waits : (afterLoss .withdrawal .balance s).arb.waiting.has .balance = false := by
      rw [lost, lost_waiting]
      exact Waiting.has_put_self ..
    have link := afterLoss_unheld .withdrawal .balance s
    split
    · unfold endChangeover
      split
      next r chosen =>
        have ne : r ≠ .balance := by
          rintro rfl
          exact Bool.eq_false_iff.mp waits (waits_of_choose chosen).1
        rw [(grantLink_sameUsers f (afterLoss .withdrawal .balance s) ne).arb]
        show (Arbiter.granted ..).link ≠ _
        rw [granted_link]
        exact fun same => ne (LinkState.held.inj same)
      · rw [(reportLink_reacts _).arb_eq (by decide) (by decide)]
        nofun
    · rw [link]
      nofun
  · rw [withdrawLink_unheld f held]
    exact held

namespace LinkStands
variable {b : Prop} {s t : State}

theorem dropQueue (h : LinkStands b s) (q : List Job) : LinkStands False (s.setQueue q) := ⟨⟨h.ramps, h.presents, h.rests⟩, h.noLink, False.elim⟩

theorem queueEmptied (h : LinkStands b s) : LinkStands b (queueEmptied s) :=
  h.reacts (queueEmptied_reacts (E := [.monitor]) s (by decide)) (by decide) (by decide) (by decide) (by decide) (by decide) (by decide)

section
variable {f : State → State} (answers : ∀ u, LinkStands True u → LinkStands True (f u))
include answers

/-- R138: from a link that follows no job, the next job becomes the head. -/
theorem newHead (h : LinkStands b (s.setQueue [])) : LinkStands b (newHead f s) := by
  have placed (j : Job) (rest : List Job) (stopped : j.state ≠ .running) : LinkStands b (s.setQueue (j :: rest)) := by
    refine LinkStands.setQueue_resting (s := s.setQueue []) h nofun ?_
    rintro _ ⟨⟩
    exact stopped
  unfold Machine.newHead
  cases queue : s.bal.queue with
  | nil =>
    have same : s.setQueue [] = s := by rw [← queue]; rfl
    exact same ▸ h
  | cons j rest =>
    dsimp only
    split
    · exact (placed { j with state := .queued } rest nofun).raiseLink answers .balance
    · exact placed { j with state := .suspended } rest nofun

/-- R145: the head ends. -/
theorem endHead (h : LinkStands b s) (reason : EndReason) : LinkStands b (endHead f reason s) := by
  unfold Machine.endHead
  cases queue : s.bal.queue with
  | nil => exact h
  | cons j rest =>
    refine LinkStands.queueEmptied (LinkStands.newHead answers ?_)
    have recorded (u : State) (hu : LinkStands b (u.setQueue [])) : LinkStands b ((recordEnding j reason u).setQueue []) :=
      hu.congr rfl Iff.rfl rfl rfl fun _ => rfl
    refine recorded _ ?_
    split
    next suspended =>
      refine h.setQueue_resting (fun k hk => ?_) nofun
      obtain rfl : j = k := by simpa [queue] using hk
      rw [suspended]
      nofun
    next =>
      have withdrawn := (h.dropQueue rest).withdrawLink answers (r := .balance) (b := b) fun unheld => h.setQueue_unheld unheld rest
      exact withdrawn.setQueue_unheld (withdrawLink_gives f _) []

end

/-- R139: the start checks keep channel B and the link. -/
theorem startChecks (u : State) (h : LinkStands True u) : LinkStands True (startChecks u) := by
  unfold Machine.startChecks
  split
  · exact h
  · split
    · split
      · exact (h.dropQueue _).follows
      · exact h.endHead (fun _ hu => hu) _
    · exact h

theorem finishHead (h : LinkStands b s) (reason : EndReason) : LinkStands b (finishHead reason s) := h.endHead startChecks reason

theorem raiseReq (h : LinkStands b s) (r : Requester) : LinkStands b (raiseReq r s) := h.raiseLink startChecks r

theorem withdrawReq (h : LinkStands b s) (r : Requester) : LinkStands b (withdrawReq r s) :=
  h.loose.withdrawLink startChecks fun _ => h

theorem lossOf {r : Requester} (h : LinkStands b s) (held : s.arb.link = .held r) (cause : LossCause) :
    LinkStands b (lossOf cause r s) := (h.loose.loseLink startChecks held cause).weaken b

/-! ### The head's life (R141 to R148) -/

/-- A head that another of its state, rate and way takes the place of asks for the same flow. -/
theorem setHead {j k : Job} {rest : List Job} (h : LinkStands b s) (queue : s.bal.queue = j :: rest) (state : k.state = j.state)
    (resolved : k.resolved = j.resolved) (rate : k.rate = j.rate) : LinkStands b (s.setQueue (k :: rest)) := by
  refine h.setQueue fun _ => ?_
  unfold Balance.flow
  rw [queue]
  dsimp only [State.setQueue, State.setBal]
  rw [state, resolved, rate]

theorem suspendHead (h : LinkStands b s) : LinkStands b (suspendHead s) := by
  unfold Machine.suspendHead
  cases queue : s.bal.queue with
  | nil => exact h
  | cons j rest =>
    dsimp only
    cases state : j.state with
    | suspended => exact h
    | queued =>
      refine LinkStands.withdrawReq (h.setQueue_resting (fun k hk => ?_) ?_) .balance
      · obtain rfl : j = k := by simpa [queue] using hk
        rw [state]
        nofun
      · rintro _ ⟨⟩
        nofun
    | running => exact (LinkStands.follows (h.dropQueue _)).weaken b |>.withdrawReq .balance

theorem releaseHead (h : LinkStands b s) : LinkStands b (releaseHead s) := by
  unfold Machine.releaseHead
  cases queue : s.bal.queue with
  | nil => exact h
  | cons j rest =>
    dsimp only
    split
    next suspended =>
      rw [Bool.and_eq_true, decide_eq_true_iff] at suspended
      refine LinkStands.raiseReq (h.setQueue_resting (fun k hk => ?_) ?_) .balance
      · obtain rfl : j = k := by simpa [queue] using hk
        rw [suspended.1]
        nofun
      · rintro _ ⟨⟩
        nofun
    · exact h

theorem quantumReport (h : LinkStands b s) : LinkStands b (quantumReport s) := by
  unfold Machine.quantumReport
  split
  next yields =>
    rw [Bool.and_eq_true, beq_iff_eq] at yields
    exact h.lossOf yields.2 .yield
  · exact h

theorem engineSample (h : LinkStands b s) : LinkStands b (engineSample s) := by
  unfold Machine.engineSample
  cases queue : s.bal.queue with
  | nil => exact h
  | cons j rest =>
    have credited (credit stop : Nat) (x : Bool) :
        LinkStands b (if x then Machine.quantumReport (s.setQueue (j.credited credit stop :: rest))
          else s.setQueue (j.credited credit stop :: rest)) := by
      have placed : LinkStands b (s.setQueue (j.credited credit stop :: rest)) := h.setHead queue rfl rfl rfl
      split
      · exact placed.quantumReport
      · exact placed
    dsimp only
    split
    · exact (credited _ _ _).finishHead _
    · exact credited _ _ _

theorem endAll (n : Nat) : ∀ {s : State}, LinkStands b s → LinkStands b (endAll n s) := by
  induction n with
  | zero => exact id
  | succ n ih => exact fun h => ih (h.finishHead .fault)

theorem linkFaultToEngine (h : LinkStands b s) : LinkStands b (linkFaultToEngine s) := by
  unfold Machine.linkFaultToEngine
  split
  · exact h
  · split
    · exact h.finishHead .fault
    · exact h

theorem lockLink (h : LinkStands b s) : LinkStands b (lockLink s) := by
  have locked : LinkStands b (s.setArb { s.arb with faultLock := true }) := h.setArb rfl
  unfold Machine.lockLink
  dsimp only
  split
  next held => exact (locked.lossOf held .linkFault).linkFaultToEngine
  · exact locked
  · exact locked

theorem choiceFree (h : LinkStands b s) (free : s.arb.link = .free) : LinkStands b (choiceFree s) := h.chooseFree startChecks free

theorem unlockLink (h : LinkStands b s) : LinkStands b (unlockLink s) := by
  have unlocked : LinkStands b (s.setArb { s.arb with faultLock := false }) := h.setArb rfl
  unfold Machine.unlockLink
  dsimp only
  split
  next free => exact unlocked.choiceFree free
  · exact unlocked
  · exact unlocked

/-! ### The jobs of a port (R137, R146, R150) -/

theorem setBal (h : LinkStands b s) {x : Balance} (flow : x.flow = s.bal.flow) : LinkStands b (s.setBal x) :=
  h.congr rfl Iff.rfl rfl rfl fun _ => linkTarget_congr rfl rfl rfl rfl fun _ => flow

theorem flow_congr {x y : Balance} (head : x.queue.head? = y.queue.head?) : x.flow = y.flow := by
  unfold Balance.flow
  cases qx : x.queue <;> cases qy : y.queue <;> rw [qx, qy] at head <;> simp_all

theorem placeJob (h : LinkStands b s) (j : Job) : LinkStands b (placeJob j s) := by
  unfold Machine.placeJob
  dsimp only
  cases queue : s.bal.queue with
  | nil =>
    have emptied : LinkStands b ((s.setBal { s.bal with queue := [j], tagCounter := nextTag j.tag }).setQueue []) :=
      h.setBal (flow_congr (by rw [queue]))
    exact LinkStands.newHead startChecks emptied
  | cons k rest => exact h.setBal (flow_congr (by rw [queue]; rfl))

theorem cancelJob {j : Job} (h : LinkStands b s) (first : ∃ tag, s.bal.queue.find? (fun k => k.tag == tag) = some j) :
    LinkStands b (cancelJob j s) := by
  unfold Machine.cancelJob
  split
  · exact h.finishHead _
  next behind =>
    suffices left : LinkStands b (s.setQueue (s.bal.queue.filter (fun k => k.tag != j.tag))) from
      left.congr rfl Iff.rfl rfl rfl fun _ => rfl
    refine h.setQueue fun _ => flow_congr ?_
    obtain ⟨tag, found⟩ := first
    have own : j.tag = tag := by simpa using List.find?_some found
    show (s.bal.queue.filter fun k => k.tag != j.tag).head? = s.bal.queue.head?
    cases queue : s.bal.queue with
    | nil => rfl
    | cons k rest =>
      rw [queue] at found behind
      have other : k.tag ≠ j.tag := by
        intro same
        rw [List.find?_cons_of_pos (by rw [same, own]; exact beq_self_eq_true tag)] at found
        exact behind found
      have stays : (k :: rest).filter (fun k => k.tag != j.tag) = k :: rest.filter (fun k => k.tag != j.tag) :=
        List.filter_cons_of_pos (bne_iff_ne.mpr other)
      rw [stays]
      rfl

theorem enginePortReset (h : LinkStands b s) (p : Port) : LinkStands b (enginePortReset p s) := by
  cases queue : s.bal.queue with
  | nil =>
    rw [enginePortReset_empty p queue]
    exact h.setBal (flow_congr (by rw [queue]; rfl))
  | cons j rest =>
    rw [enginePortReset_head p queue]
    split
    · refine LinkStands.queueEmptied (LinkStands.newHead startChecks ?_)
      split
      next suspended =>
        have emptied : LinkStands b (s.setQueue []) := h.setQueue_resting (fun k hk => by
          obtain rfl : j = k := by simpa [queue] using hk
          rw [suspended]
          nofun) nofun
        exact emptied.congr rfl Iff.rfl rfl rfl fun _ => rfl
      next =>
        have kept : LinkStands False (jobsKept p s) := (h.dropQueue []).loose.congr rfl Iff.rfl rfl rfl False.elim
        have withdrawn : LinkStands b (Machine.withdrawReq .balance (jobsKept p s)) :=
          kept.withdrawLink startChecks fun unheld => (h.setQueue_unheld unheld []).congr rfl Iff.rfl rfl rfl fun _ =>
            linkTarget_congr rfl rfl rfl rfl fun held => absurd held unheld
        exact withdrawn.setQueue_unheld (withdrawLink_gives _ _) []
    next other =>
      refine h.setBal (flow_congr ?_)
      show (s.bal.queue.filter fun k => k.originator != p).head? = s.bal.queue.head?
      have stays : (j :: rest).filter (fun k => k.originator != p) = j :: rest.filter (fun k => k.originator != p) :=
        List.filter_cons_of_pos (bne_iff_ne.mpr other)
      rw [queue, stays]
      rfl

end LinkStands

end Sys2Proof.Machine
end

section
/-! Channels, their stages and channel B's request (R93 to R99): what each event of a channel keeps of them. -/

namespace Sys2Proof.Machine

/-! ### A channel on its own -/

/-- R93, R94, R95, R98: the channel presents what it should and holds no reason outside ACTIVE; for channel B, NO_LINK stands in
ACTIVE exactly where `lone` holds. -/
structure Channel.Stands (c : Cell) (profile : List StepRecord) (lone : Prop) (ch : Channel) : Prop where
  presents : ch.Presents c profile
  rests : ch.Rests
  noLink : c = .b → ch.state = .active → (ch.reasons.noLink = true ↔ lone)

section
variable {c : Cell} {profile : List StepRecord} {lone : Prop} {ch : Channel} (x : Sample)

/-- R105: a channel that has left ACTIVE. -/
theorem Channel.stands_of_left {ch : Channel} (state : ch.state ≠ .active) (reasons : ch.reasons = Reasons.none) (presented : ch.presented = 0) :
    ch.Stands c profile lone := by
  refine ⟨?_, fun _ => reasons, fun _ active => absurd active state⟩
  rw [Channel.Presents, Channel.demand_of_not_active state, presented, Nat.min_zero]

/-- R106, R107: a walk from an ACTIVE channel. -/
theorem Channel.stands_walk (k : Nat) : ∀ (n : Nat) {ch : Channel}, ch.state = .active →
    (c = .b → (ch.reasons.noLink = true ↔ lone)) → (Channel.walk c profile x k n ch).Stands c profile lone := by
  induction k with
  | zero => exact fun _ _ _ _ => stands_of_left nofun rfl rfl
  | succ k ih =>
    intro n ch active noLink
    rw [Channel.walk]
    split
    · exact stands_of_left nofun rfl rfl
    · dsimp only
      split
      · exact ih _ active noLink
      · exact ⟨rfl, fun left => absurd active left, fun b _ => noLink b⟩

theorem Change.stands_start (n : Nat) {causes : Reasons} (noLink : c = .b → (causes.noLink = true ↔ lone)) :
    (Change.start c profile x n causes ch).ch.Stands c profile lone :=
  Channel.stands_walk x Config.walkLimit n rfl noLink

theorem Change.stands_fail (code : ChannelFault) : (Change.fail ch code).ch.Stands c profile lone := Channel.stands_of_left nofun rfl rfl

namespace Channel.Stands
variable (h : ch.Stands c profile lone)
include h

theorem walk (n : Nat) (active : ch.state = .active) : (Change.walk c profile x n ch).ch.Stands c profile lone :=
  Channel.stands_walk x Config.walkLimit n active fun b => h.noLink b active

theorem withReasons {r : Reasons} (noLink : c = .b → ch.state = .active → r.noLink = ch.reasons.noLink) :
    (Change.withReasons c profile r ch).ch.Stands c profile lone := by
  unfold Change.withReasons
  split
  next active =>
    refine ⟨rfl, fun left => absurd active left, fun b _ => ?_⟩
    show r.noLink = true ↔ lone
    rw [noLink b active]
    exact h.noLink b active
  · exact h

theorem stop : (Change.stop ch).ch.Stands c profile lone := by
  have rested (st : ChannelState) (was : ch.state ≠ .active) (now : st ≠ .active) :
      ({ ch with state := st, slot := none, code := .none } : Channel).Stands c profile lone := by
    refine Channel.stands_of_left now (h.rests was) ?_
    show ch.presented = 0
    rw [h.presents, Channel.demand_of_not_active was, Nat.min_zero]
  unfold Change.stop
  split
  · exact h
  · exact Channel.stands_of_left nofun rfl rfl
  next done => exact rested .idle (by rw [done]; nofun) nofun
  next fault => exact rested .idle (by rw [fault]; nofun) nofun

theorem cellFault : (Change.cellFault ch).ch.Stands c profile lone := by
  unfold Change.cellFault
  split
  · exact Change.stands_fail .cellFault
  · exact h

theorem publication (setpoint : Nat) (starved noInput deficit : Bool) :
    (Change.publication c profile setpoint starved noInput deficit ch).ch.Stands c profile lone := by
  unfold Change.publication
  dsimp only
  split
  next active => exact ⟨rfl, fun left => absurd active left, fun b _ => h.noLink b active⟩
  next left => exact ⟨rfl, fun _ => h.rests left, fun _ active => absurd active left⟩

theorem observe (active : ch.state = .active) : (ch.observe c profile x).Stands c profile lone
    ∧ (ch.observe c profile x).state = .active := by
  unfold Channel.observe Channel.countRun
  split <;> exact ⟨⟨rfl, fun left => absurd active left, fun b _ => h.noLink b active⟩, active⟩

theorem recorded (n : Nat) : ({ ch with lastSetpoint := n } : Channel).Stands c profile lone := ⟨h.presents, h.rests, h.noLink⟩

theorem sample : (Change.sample c profile x ch).ch.Stands c profile lone := by
  unfold Change.sample
  split
  next active =>
    obtain ⟨seen, still⟩ := h.observe x active
    dsimp only
    split
    · exact (seen.walk x _ still).recorded _
    · split
      · exact Channel.Stands.recorded (Change.stands_fail _) _
      · exact seen.recorded _
  · exact h

end Channel.Stands

/-- R199: an IDLE channel that an event leaves IDLE. -/
def Change.KeepsIdle (ch : Channel) (y : Change) : Prop := ch.state = .idle → y.ch.state = .idle

theorem Change.keepsIdle_of_active {y : Change} (active : ch.state = .active) : y.KeepsIdle ch :=
  fun idle => nomatch idle.symm.trans active

theorem Change.keepsIdle_withReasons (r : Reasons) : (Change.withReasons c profile r ch).KeepsIdle ch := by
  unfold Change.withReasons
  split
  next active => exact keepsIdle_of_active active
  · exact id

theorem Change.keepsIdle_stop : (Change.stop ch).KeepsIdle ch := by
  intro idle
  unfold Change.stop
  rw [idle]
  exact idle

theorem Change.keepsIdle_cellFault : (Change.cellFault ch).KeepsIdle ch := by
  unfold Change.cellFault
  split
  next active => exact keepsIdle_of_active active
  · exact id

theorem Change.keepsIdle_publication (setpoint : Nat) (starved noInput deficit : Bool) :
    (Change.publication c profile setpoint starved noInput deficit ch).KeepsIdle ch := id

theorem Change.keepsIdle_sample : (Change.sample c profile x ch).KeepsIdle ch := by
  unfold Change.sample
  split
  next active => exact keepsIdle_of_active active
  · exact id

end

/-! ### The cell A path (R1, R6) -/

/-- R1, R95, R98: channel A presents what it should and holds no reason outside ACTIVE, and the cell A path is RAMPING exactly
while it is not at its target. -/
structure PathRuns (s : State) : Prop where
  presents : s.chA.Presents .a s.profile
  rests : s.chA.Rests
  ramps : s.pathA.stage.ramping = true ↔ s.pathA.stage.output ≠ s.pathA.stage.target

/-- R6: the cell A path takes what channel A presents, and nothing while VBUS is absent. -/
structure PathStands (s : State) : Prop extends PathRuns s where
  target : s.pathA.stage.target = if s.present = true then s.chA.presented else 0

theorem PathRuns.congr {s t : State} (h : PathRuns s) (chA : { t.chA with stale := false } = { s.chA with stale := false })
    (pathA : t.pathA.stage = s.pathA.stage) (profile : t.profile = s.profile) : PathRuns t := by
  have state : t.chA.state = s.chA.state := (congrArg Channel.state chA :)
  have reasons : t.chA.reasons = s.chA.reasons := (congrArg Channel.reasons chA :)
  have presented : t.chA.presented = s.chA.presented := (congrArg Channel.presented chA :)
  have published : t.chA.published = s.chA.published := (congrArg Channel.published chA :)
  have demand : t.chA.demand .a t.profile = s.chA.demand .a s.profile := by
    rw [profile]
    exact (congrArg (Channel.demand .a s.profile) chA :)
  refine ⟨?_, ?_, by rw [pathA]; exact h.ramps⟩
  · rw [Channel.Presents, presented, published, demand]
    exact h.presents
  · rw [Channel.Rests, state, reasons]
    exact h.rests

theorem PathStands.congr {s t : State} (h : PathStands s) (chA : { t.chA with stale := false } = { s.chA with stale := false })
    (pathA : t.pathA.stage = s.pathA.stage) (profile : t.profile = s.profile) (present : t.present = s.present) : PathStands t := by
  have presented : t.chA.presented = s.chA.presented := (congrArg Channel.presented chA :)
  refine ⟨h.toPathRuns.congr chA pathA profile, ?_⟩
  rw [pathA, present, presented]
  exact h.target

/-- R6: the cell A path takes what is presented, but no non-zero setpoint while VBUS is absent. -/
theorem takeCharge_stage (n : Nat) (s : State) : (takeCharge n s).pathA.stage =
    if s.present = false ∧ n ≠ 0 then s.pathA.stage else (s.pathA.stage.take (s.pathA.stage.outputNow s.freeUses) n).1 := by
  have taken (same : n = s.pathA.stage.target) :
      (s.pathA.stage.take (s.pathA.stage.outputNow s.freeUses) n).1 = s.pathA.stage := by rw [Stage.take, if_pos same]
  unfold takeCharge
  dsimp only
  split
  next stays =>
    rw [Bool.or_eq_true, Bool.and_eq_true, Bool.not_eq_true', bne_iff_ne, beq_iff_eq] at stays
    split
    · rfl
    next takes => exact (taken (stays.resolve_left takes)).symm
  next moves =>
    rw [Bool.or_eq_true, Bool.and_eq_true, Bool.not_eq_true', bne_iff_ne, beq_iff_eq, not_or] at moves
    rw [if_neg moves.1]
    split
    · rw [(holdTest_reacts _).pathA_eq (by decide)]
      rfl
    · rfl

/-- R6: with what channel A presents handed to it, or nothing where VBUS is absent, the cell A path stands. -/
theorem PathRuns.takeCharge {s : State} (h : PathRuns s) {n : Nat} (powered : s.present = true → n = s.chA.presented)
    (cut : s.present = false → s.pathA.stage.target = 0 ∨ n = 0) : PathStands (takeCharge n s) := by
  have stage := takeCharge_stage n s
  have reacts := takeCharge_reacts s n
  let u := s.setPathA { s.pathA with stage := (Machine.takeCharge n s).pathA.stage }
  have taken : PathStands u := by
    refine ⟨⟨h.presents, h.rests, ?_⟩, ?_⟩
    · show (Machine.takeCharge n s).pathA.stage.ramping = true
        ↔ (Machine.takeCharge n s).pathA.stage.output ≠ (Machine.takeCharge n s).pathA.stage.target
      rw [stage]
      split
      · exact h.ramps
      · exact Stage.take_ramping_iff h.ramps _ _
    · show (Machine.takeCharge n s).pathA.stage.target = if s.present = true then s.chA.presented else 0
      rw [stage]
      split
      next without => rw [(cut without.1).resolve_right without.2, without.1, if_neg nofun]
      next takes =>
        rw [Stage.take_target]
        split
        next present => exact powered present
        next absent => exact not_not.mp fun other => takes ⟨Bool.eq_false_iff.mpr absent, other⟩
  exact taken.congr (reacts.chA_fresh (by decide)) rfl (Keeps.profile reacts.keeps) (Keeps.present reacts.keeps)

end Sys2Proof.Machine
end

section
/-! Every step keeps the channels, channel B's request and the stages sound (O59). -/

namespace Sys2Proof.Machine

/-- R199: both channels are IDLE in LOADING. -/
def State.LoadsIdle (s : State) : Prop := s.power.phase = .loading → s.chA.state = .idle ∧ s.chB.state = .idle

/-- Channels, stages and channel B's request as the manual says, the link's target where `follows` holds, and the channels of
LOADING where `loads` does. -/
structure ChannelsStand (follows loads : Prop) (s : State) : Prop where
  input : s.InputStands
  path : PathStands s
  link : LinkStands follows s
  request : s.chB.request = s.chB.wantsLink s.profile
  idle : loads → s.LoadsIdle

theorem channelsSound_iff (s : State) : s.ChannelsSound ↔ ChannelsStand True True s := by
  constructor
  · rintro ⟨presentsA, presentsB, restsA, restsB, request, loads, noLink, input, ramps, linkRamps, absent, target, follow⟩
    exact ⟨⟨input, absent⟩, ⟨⟨presentsA, restsA, ramps⟩, target⟩, ⟨⟨linkRamps, presentsB, restsB⟩, noLink, fun _ => follow⟩, request,
      fun _ => loads⟩
  · rintro ⟨input, path, link, request, loads⟩
    exact ⟨path.presents, link.presents, path.rests, link.rests, request, loads trivial, link.noLink, input.1, path.ramps, link.ramps,
      input.2, path.target, link.follow trivial⟩

theorem State.LoadsIdle.congr {s t : State} (h : s.LoadsIdle) (stateA : t.chA.state = s.chA.state) (stateB : t.chB.state = s.chB.state)
    (phase : t.power.phase = s.power.phase) : t.LoadsIdle := by
  rw [State.LoadsIdle, stateA, stateB, phase]
  exact h

namespace ChannelsStand
variable {b l : Prop} {s t : State}

theorem weaken (h : ChannelsStand True l s) (b : Prop) : ChannelsStand b l s := ⟨h.input, h.path, h.link.weaken b, h.request, h.idle⟩

theorem of_fields (h : ChannelsStand b l s) (arb : t.arb = s.arb) (bal : t.bal = s.bal) (chA : t.chA = s.chA) (chB : t.chB = s.chB)
    (profile : t.profile = s.profile) (present : t.present = s.present) (record : t.alloc.record = s.alloc.record)
    (pathA : t.pathA.stage = s.pathA.stage) (linkStage : t.linkStage = s.linkStage) (input : t.inputStage = s.inputStage)
    (phase : t.power.phase = s.power.phase) :
    ChannelsStand b l t := by
  refine ⟨?_, h.path.congr (by rw [chA]) pathA profile present, h.link.congr (by rw [chB]) (by rw [arb]) linkStage profile fun _ => ?_, ?_,
    fun hl => (h.idle hl).congr (by rw [chA]) (by rw [chB]) phase⟩
  · rw [State.InputStands, input, present]
    exact h.input
  · exact linkTarget_congr (by rw [arb]) record present (by rw [chB]) fun _ => by rw [bal]
  · rw [chB, profile]
    exact h.request

theorem apart (h : ChannelsStand b l s) (apart : Apart s t) : ChannelsStand b l t := by
  have request : t.chB.request = s.chB.request := (congrArg Channel.request apart.chB :)
  have wants : t.chB.wantsLink s.profile = s.chB.wantsLink s.profile := (congrArg (Channel.wantsLink s.profile) apart.chB :)
  refine ⟨apart.input h.input, h.path.congr apart.chA apart.pathA apart.profile apart.present,
    h.link.congr apart.chB (by rw [apart.arb]) apart.linkStage apart.profile fun _ => ?_, ?_,
    fun hl => (h.idle hl).congr (congrArg Channel.state apart.chA :) (congrArg Channel.state apart.chB :) apart.phase⟩
  · exact linkTarget_congr (by rw [apart.arb]) apart.record apart.present (congrArg Channel.presented apart.chB :) fun _ => by
      rw [apart.bal]
  · rw [request, apart.profile, wants]
    exact h.request

/-- Reactions that change no channel but for what the link's reports do, and keep that part and the link as they should stand. -/
theorem reacts {E : List Effect} {x : Prop} (h : ChannelsStand x l s) (reacts : Reacts E s t) (chA : .chA ∉ E) (chB : .chB ∉ E) (path : .path ∉ E)
    (link : LinkStands b t) : ChannelsStand b l t := by
  have linkless := reacts.chB_linkless chB
  have profile := Keeps.profile reacts.keeps
  refine ⟨?_, h.path.congr (reacts.chA_fresh chA) (by rw [reacts.pathA_eq path]) profile (Keeps.present reacts.keeps), link, ?_,
    fun hl => (h.idle hl).congr (congrArg Channel.state (reacts.chA_fresh chA) :) (congrArg Channel.state linkless :)
      (Keeps.phase reacts.keeps)⟩
  · rw [State.InputStands, Keeps.inputStage reacts.keeps, Keeps.present reacts.keeps]
    exact h.input
  · have wants : t.chB.wantsLink s.profile = s.chB.wantsLink s.profile :=
      Channel.wantsLink_congr (b := s.chB.request) (linkless.trans rfl) s.profile
    rw [reacts.request_eq chB, profile, wants]
    exact h.request

/-! ### An event of a channel (R98, R99) -/

/-- What channel `c` has of the invariant on its own. -/
theorem channel (h : ChannelsStand b l s) (c : Cell) : (s.channel c).Stands c s.profile (s.arb.link ≠ .held .chargeB) := by
  cases c
  · exact ⟨h.path.presents, h.path.rests, nofun⟩
  · exact ⟨h.link.presents, h.link.rests, fun _ => h.link.noLink⟩

theorem commit_a (h : ChannelsStand b l s) {y : Change} (stands : y.ch.Stands .a s.profile (s.arb.link ≠ .held .chargeB))
    (keeps : l → s.power.phase = .loading → y.KeepsIdle s.chA) :
    ChannelsStand b l (commit .a y s) := by
  have reacts := commit_a_reacts y s
  let u := toldChange .a y s
  have told : Reacts [.notice] (s.setChannel .a y.ch) u := toldChange_reacts .a y s
  have chA : u.chA = y.ch := told.chA_eq (by decide) (by decide)
  have profile : u.profile = s.profile := Keeps.profile told.keeps
  have pathA : u.pathA = s.pathA := told.pathA_eq (by decide)
  have present : u.present = s.present := Keeps.present told.keeps
  have path : PathStands (takeCharge u.chA.presented u) := by
    refine PathRuns.takeCharge ⟨?_, ?_, ?_⟩ (fun _ => rfl) ?_
    · rw [chA, profile]
      exact stands.presents
    · rw [chA]
      exact stands.rests
    · rw [pathA]
      exact h.path.ramps
    · rw [pathA, present]
      exact fun absent => .inl (h.path.target.trans (if_neg (Bool.eq_false_iff.mp absent)))
  have settled := settleChange_reacts y s.chA.state (takeCharge u.chA.presented u)
  have all := commit_reacts s .a y
  have link : LinkStands b (s.setChannel .a y.ch) := h.link.congr rfl Iff.rfl rfl rfl fun _ => rfl
  refine ⟨?_, ?_, link.reacts reacts (by decide) (by decide) (by decide) (by decide) (by decide) (by decide), ?_,
    fun hl loading => ?_⟩
  · rw [State.InputStands, Keeps.inputStage all.keeps, Keeps.present all.keeps]
    exact h.input
  · exact path.congr (settled.chA_fresh (by decide)) (congrArg PathA.stage (settled.pathA_eq (by decide)))
      (Keeps.profile settled.keeps) (Keeps.present settled.keeps)
  · have request : (commit .a y s).chB.request = s.chB.request := (congrArg Channel.request (commit_a_chB y s) :)
    have wants : (commit .a y s).chB.wantsLink s.profile = s.chB.wantsLink s.profile :=
      (congrArg (Channel.wantsLink s.profile) (commit_a_chB y s) :)
    rw [request, Keeps.profile all.keeps, wants]
    exact h.request
  · have phase := (Keeps.phase all.keeps).symm.trans loading
    obtain ⟨a, b⟩ := h.idle hl phase
    exact ⟨(congrArg Channel.state (commit_a_chA y s) :).trans (keeps hl phase a), (congrArg Channel.state (commit_a_chB y s) :).trans b⟩

theorem synced (h : LinkStands b s) : LinkStands b (syncChargeB s) := by
  unfold Machine.syncChargeB
  dsimp only
  split
  · exact h
  · have set (x : Bool) : LinkStands b { s with chB := { s.chB with request := x } } :=
      ⟨⟨h.ramps, h.presents, h.rests⟩, h.noLink, h.follow⟩
    split
    · exact (set _).raiseReq .chargeB
    · exact (set _).withdrawReq .chargeB

theorem commit_b (h : ChannelsStand b l s) {y : Change} (stands : y.ch.Stands .b s.profile (s.arb.link ≠ .held .chargeB))
    (keeps : l → s.power.phase = .loading → y.KeepsIdle s.chB) :
    ChannelsStand True l (commit .b y s) := by
  have all := commit_reacts s .b y
  have set : LinkStands False (s.setChannel .b y.ch) := ⟨⟨h.link.ramps, stands.presents, stands.rests⟩, stands.noLink rfl, False.elim⟩
  have told : LinkStands False (toldChange .b y s) :=
    set.reacts (toldChange_reacts .b y s) (by decide) (by decide) (by decide) (by decide) (by decide) (by decide)
  have link : LinkStands True (commit .b y s) := (synced told.follows).reacts (settleChange_reacts y s.chB.state _) (by decide)
    (by decide) (by decide) (by decide) (by decide) (by decide)
  refine ⟨?_, h.path.congr (commit_b_chA y s) (by rw [all.pathA_eq (by decide)]) (Keeps.profile all.keeps) (Keeps.present all.keeps), link, ?_,
    fun hl loading => ?_⟩
  · rw [State.InputStands, Keeps.inputStage all.keeps, Keeps.present all.keeps]
    exact h.input
  · have linkless := commit_b_chB y s
    have request : (commit .b y s).chB.request = y.ch.wantsLink s.profile := (congrArg Channel.request linkless :)
    rw [request, Keeps.profile all.keeps]
    exact (Channel.wantsLink_congr linkless s.profile).symm
  · have phase := (Keeps.phase all.keeps).symm.trans loading
    obtain ⟨a, b⟩ := h.idle hl phase
    exact ⟨(congrArg Channel.state (commit_b_chA y s) :).trans a, (congrArg Channel.state (commit_b_chB y s) :).trans (keeps hl phase b)⟩

/-- R98, R99: an event of a channel that leaves it as it should stand. -/
theorem commit (h : ChannelsStand b l s) (c : Cell) {y : Change} (stands : y.ch.Stands c s.profile (s.arb.link ≠ .held .chargeB))
    (keeps : l → s.power.phase = .loading → y.KeepsIdle (s.channel c)) : ChannelsStand b l (commit c y s) := by
  cases c
  · exact h.commit_a stands keeps
  · exact (h.commit_b stands keeps).weaken b

theorem channelReasons (h : ChannelsStand b l s) (c : Cell) {f : Reasons → Reasons} (keeps : ∀ r, (f r).noLink = r.noLink) :
    ChannelsStand b l (channelReasons c f s) :=
  h.commit c ((h.channel c).withReasons fun _ _ => keeps _) fun _ _ => Change.keepsIdle_withReasons _

theorem startChannel (h : ChannelsStand b l s) (c : Cell) (n : Nat) (loaded : l → s.power.phase ≠ .loading) :
    ChannelsStand b l (startChannel c n s) := by
  refine h.commit c (Change.stands_start _ n ?_) fun hl loading => absurd loading (loaded hl)
  rintro rfl
  show (s.arb.holder != some .chargeB) = true ↔ _
  rw [bne_iff_ne, Ne, Ne, not_iff_not, Arbiter.holder]
  cases s.arb.link <;> simp

/-! ### The hold and the faults -/

theorem holdBegan (h : ChannelsStand b l s) (x : Listener) : ChannelsStand b l (holdBegan x s) := by
  cases x with
  | channel c => exact h.channelReasons c (f := fun r => { r with hold := true }) fun _ => rfl
  | engine => exact h.reacts (suspendHead_reacts s) (by decide) (by decide) (by decide) h.link.suspendHead

theorem holdEnded (h : ChannelsStand b l s) (x : Listener) : ChannelsStand b l (holdEnded x s) := by
  cases x with
  | channel c => exact h.channelReasons c (f := fun r => { r with hold := false }) fun _ => rfl
  | engine => exact h.reacts (releaseHead_reacts s) (by decide) (by decide) (by decide) h.link.releaseHead

theorem joinHold (h : ChannelsStand b l s) (p : Port) : ChannelsStand b l (joinHold p s) := by
  have set (x : HoldCtl) : ChannelsStand b l (s.setHold x) := h.of_fields rfl rfl rfl rfl rfl rfl rfl rfl rfl rfl rfl
  unfold Machine.joinHold
  split
  · refine ChannelsStand.apart ?_ (.setPort _ p _)
    refine ChannelsStand.apart ?_ (.trigger _)
    unfold reportHoldBegan
    have told (ls : List Listener) (u : State) (hu : ChannelsStand b l u) : ChannelsStand b l (ls.foldl (fun s l => Machine.holdBegan l s) u) :=
      foldl_preserves (P := ChannelsStand b l) (fun s l => Machine.holdBegan l s) ls (fun x _ _ hv => hv.holdBegan x) u hu
    split
    · exact told _ _ (set _)
    · exact told _ _ (set _)
  · exact (set _).apart (.setPort _ p _)
  · exact (set _).apart (.setPort _ p _)

theorem leaveHold (h : ChannelsStand b l s) (p : Port) (order : Nat) (own : Bool) : ChannelsStand b l (leaveHold p order own s) := by
  have set (x : HoldCtl) : ChannelsStand b l (s.setHold x) := h.of_fields rfl rfl rfl rfl rfl rfl rfl rfl rfl rfl rfl
  unfold Machine.leaveHold
  dsimp only
  split
  · unfold endHold
    refine ChannelsStand.apart ?_ (.monitorTest _)
    have told (ls : List Listener) (u : State) (hu : ChannelsStand b l u) : ChannelsStand b l (ls.foldl (fun s l => Machine.holdEnded l s) u) :=
      foldl_preserves (P := ChannelsStand b l) (fun s l => Machine.holdEnded l s) ls (fun x _ _ hv => hv.holdEnded x) u hu
    cases own
    · exact told _ _ (set _)
    · refine ChannelsStand.apart ?_ (.trigger _)
      exact told _ _ (set _)
  · exact set _

theorem takeReport (h : ChannelsStand b l s) (x : FaultReport) : ChannelsStand b l (takeReport x s) := by
  have hot (x : Bool) : ChannelsStand b l (s.setEngineHot x) :=
    ⟨h.input, h.path.congr rfl rfl rfl rfl, h.link.setBal (LinkStands.flow_congr rfl), h.request, h.idle⟩
  match x with
  | .cellToChannel c => exact h.commit c (h.channel c).cellFault fun _ _ => Change.keepsIdle_cellFault
  | .cellToEngine => exact h.reacts (endAll_reacts _ s) (by decide) (by decide) (by decide) (h.link.endAll _)
  | .dieHot true (.channel c) => exact h.channelReasons c (f := fun r => { r with dieHot := true }) fun _ => rfl
  | .dieHot false (.channel c) => exact h.channelReasons c (f := fun r => { r with dieHot := false }) fun _ => rfl
  | .dieHot true .engine =>
    exact (hot true).reacts (suspendHead_reacts _) (by decide) (by decide) (by decide) (hot true).link.suspendHead
  | .dieHot false .engine =>
    exact (hot false).reacts (releaseHead_reacts _) (by decide) (by decide) (by decide) (hot false).link.releaseHead
  | .linkToArbiter => exact h.reacts (lockLink_reacts s) (by decide) (by decide) (by decide) h.link.lockLink
  | .linkToEngine => exact h.reacts (linkFaultToEngine_reacts s) (by decide) (by decide) (by decide) h.link.linkFaultToEngine

theorem monitorSample (h : ChannelsStand b l s) (order : Nat) : ChannelsStand b l (monitorSample order s) := by
  unfold Machine.monitorSample
  dsimp only
  split
  · exact h
  · refine ChannelsStand.apart ?_ (.trigger _)
    refine foldl_preserves (P := ChannelsStand b l) (fun s x => Machine.takeReport x s) _ (fun x _ _ hv => hv.takeReport x) _ ?_
    have set : ChannelsStand b l (s.setProt (s.prot.judged s.sample)) := h.of_fields rfl rfl rfl rfl rfl rfl rfl rfl rfl rfl rfl
    exact set.apart (Apart.enterFaults_rest _ s)

end ChannelsStand

end Sys2Proof.Machine
end

section
/-! The commands that reach the channels and their stages, and that every step keeps them sound (O59). -/

namespace Sys2Proof.Machine

/-! ### Profile memory (R111) -/

theorem recordAt_set_other (profile : List StepRecord) {n m : Nat} (other : m ≠ n) (r : StepRecord) :
    recordAt (profile.set n r) m = recordAt profile m := by
  simp [recordAt, List.getD_eq_getElem?_getD, List.getElem?_set_ne (Ne.symm other)]

/-- R111: a slot that is not the present one of an ACTIVE channel is nothing to its demand or its request. -/
theorem Channel.unused_slot {ch : Channel} {n : Nat} (unused : ch.uses n = false) (c : Cell) (profile : List StepRecord) (r : StepRecord) :
    ch.demand c (profile.set n r) = ch.demand c profile ∧ ch.wantsLink (profile.set n r) = ch.wantsLink profile := by
  by_cases active : ch.state = .active
  · have step : ch.step (profile.set n r) = ch.step profile := by
      unfold Channel.step
      cases slot : ch.slot with
      | none => rfl
      | some m =>
        refine recordAt_set_other profile ?_ r
        rintro rfl
        rw [Channel.uses, active, slot] at unused
        simp at unused
    rw [Channel.demand, Channel.demand, Channel.wantsLink, Channel.wantsLink, step]
    exact ⟨rfl, rfl⟩
  · rw [Channel.demand_of_not_active active, Channel.demand_of_not_active active, Channel.wantsLink, Channel.wantsLink,
      beq_false_of_ne active]
    exact ⟨rfl, rfl⟩

theorem Channel.wantsLink_of_not_active {ch : Channel} (rests : ch.state ≠ .active) (profile : List StepRecord) :
    ch.wantsLink profile = false := by
  rw [Channel.wantsLink, beq_false_of_ne rests]
  rfl

theorem Channel.presents_any {c : Cell} {profile : List StepRecord} {ch : Channel} (rests : ch.state ≠ .active)
    (h : ch.Presents c profile) (other : List StepRecord) : ch.Presents c other := by
  rw [Channel.Presents, Channel.demand_of_not_active rests] at h ⊢
  exact h

/-- R204: a channel in SHIP presents nothing and holds no reason. -/
theorem Channel.stands_shipped {c : Cell} {profile : List StepRecord} {lone : Prop} {ch : Channel} (h : ch.Stands c profile lone) :
    ch.shipped.Stands c profile lone ∧ ch.shipped.presented = 0 := by
  have left : ch.shipped.reasons = Reasons.none ∧ ch.shipped.presented = 0 := by
    rw [Channel.shipped_eq]
    split
    · exact ⟨rfl, rfl⟩
    next rests =>
      refine ⟨h.rests rests, ?_⟩
      show ch.presented = 0
      rw [h.presents, Channel.demand_of_not_active rests, Nat.min_zero]
  exact ⟨Channel.stands_of_left nofun left.1 left.2, left.2⟩

theorem Stage.settle_ramping_iff {α : Type} (x : Stage α) : x.settle.ramping = true ↔ x.settle.output ≠ x.settle.target :=
  iff_of_false nofun fun moved => moved rfl

namespace ChannelsStand
variable {b l : Prop} {s t : State}

theorem writes (h : ChannelsStand b l s) {n : Nat} (unusedA : s.chA.uses n = false) (unusedB : s.chB.uses n = false) (r : StepRecord) :
    ChannelsStand b l { s with profile := s.profile.set n r } := by
  obtain ⟨demandA, -⟩ := Channel.unused_slot unusedA .a s.profile r
  obtain ⟨demandB, wants⟩ := Channel.unused_slot unusedB .b s.profile r
  refine ⟨h.input, ⟨⟨?_, h.path.rests, h.path.ramps⟩, h.path.target⟩, ⟨⟨h.link.ramps, ?_, h.link.rests⟩, h.link.noLink, h.link.follow⟩, ?_,
    h.idle⟩
  · rw [Channel.Presents, demandA]
    exact h.path.presents
  · rw [Channel.Presents, demandB]
    exact h.link.presents
  · rw [wants]
    exact h.request

/-- R199: in LOADING, with both channels IDLE, the profile image is nothing to them. -/
theorem finishCopy (h : ChannelsStand b True s) (loading : s.power.phase = .loading) : ChannelsStand b True (finishCopy s) := by
  obtain ⟨a, b⟩ := h.idle trivial loading
  have restsA : s.chA.state ≠ .active := by rw [a]; nofun
  have restsB : s.chB.state ≠ .active := by rw [b]; nofun
  refine ⟨h.input, ⟨⟨?_, h.path.rests, h.path.ramps⟩, h.path.target⟩, ⟨⟨h.link.ramps, ?_, h.link.rests⟩, h.link.noLink, h.link.follow⟩, ?_,
    h.idle⟩
  · exact Channel.presents_any restsA h.path.presents _
  · exact Channel.presents_any restsB h.link.presents _
  · exact h.request.trans ((Channel.wantsLink_of_not_active restsB _).trans (Channel.wantsLink_of_not_active restsB _).symm)

theorem clears (h : ChannelsStand b l s) (target : ClearTarget) :
    ChannelsStand b l (reportClear target (s.setProt (s.prot.cleared target))) := by
  have cleared : ChannelsStand b l (s.setProt (s.prot.cleared target)) := h.of_fields rfl rfl rfl rfl rfl rfl rfl rfl rfl rfl rfl
  cases target with
  | cell c => exact cleared
  | link => exact cleared.reacts (unlockLink_reacts _) (by decide) (by decide) (by decide) cleared.link.unlockLink

theorem placeJob (h : ChannelsStand b l s) (j : Job) : ChannelsStand b l (placeJob j s) := by
  have placed : ChannelsStand False l (s.setBal { s.bal with queue := s.bal.queue ++ [j], tagCounter := nextTag j.tag }) :=
    ⟨h.input, h.path.congr rfl rfl rfl rfl, ⟨⟨h.link.ramps, h.link.presents, h.link.rests⟩, h.link.noLink, False.elim⟩, h.request, h.idle⟩
  exact placed.reacts (placeJob_reacts j s) (by decide) (by decide) (by decide) (h.link.placeJob j)

theorem enterShip (h : ChannelsStand b l s) : ChannelsStand True l (enterShip s) := by
  obtain ⟨a, presentedA⟩ := Channel.stands_shipped (h.channel .a)
  obtain ⟨b, -⟩ := Channel.stands_shipped (h.channel .b)
  refine ⟨h.input, ⟨⟨a.presents, a.rests, iff_of_false nofun fun moved => moved rfl⟩, ?_⟩,
    ⟨⟨iff_of_false nofun fun moved => moved rfl, b.presents, b.rests⟩, nofun, fun _ => rfl⟩, rfl, fun _ _ => ⟨rfl, rfl⟩⟩
  show 0 = if s.present = true then s.chA.shipped.presented else 0
  rw [show s.chA.shipped.presented = 0 from presentedA, ite_self]

/-! ### The stages take their setpoints (R6, R10, R42, R43) -/

theorem takesCharge {n : Nat} (input : s.InputStands) (path : PathRuns s) (powered : s.present = true → n = s.chA.presented)
    (cut : s.present = false → s.pathA.stage.target = 0 ∨ n = 0) (link : LinkStands False s)
    (request : s.chB.request = s.chB.wantsLink s.profile) (idle : l → s.LoadsIdle) : ChannelsStand False l (takeCharge n s) := by
  have reacts := takeCharge_reacts s n
  have fresh := reacts.chB_fresh (by decide) (by decide)
  have wants : (takeCharge n s).chB.wantsLink s.profile = s.chB.wantsLink s.profile := (congrArg (Channel.wantsLink s.profile) fresh :)
  refine ⟨?_, path.takeCharge powered cut,
    link.reacts reacts (by decide) (by decide) (by decide) (by decide) (by decide) (by decide), ?_, fun hl => ?_⟩
  · rw [State.InputStands, Keeps.inputStage reacts.keeps, Keeps.present reacts.keeps]
    exact input
  · rw [show (takeCharge n s).chB.request = s.chB.request from (congrArg Channel.request fresh :), Keeps.profile reacts.keeps, wants]
    exact request
  · exact (idle hl).congr (congrArg Channel.state (reacts.chA_fresh (by decide)) :) (congrArg Channel.state fresh :)
      (Keeps.phase reacts.keeps)

theorem follows (h : ChannelsStand b l s) : ChannelsStand True l (linkFollow s) :=
  h.reacts (linkFollow_reacts s) (by decide) (by decide) (by decide) h.link.follows

theorem attachVbus (h : ChannelsStand b l s) : ChannelsStand True l (attachVbus s) := by
  let v : State := leaveMonitor { s with present := true, input := s.input.attached }
  let u := trigger (handLimit v)
  have apart : Apart { s with present := true, input := s.input.attached } u :=
    ((Apart.leaveMonitor _).trans (.handLimit _)).trans (.trigger _)
  have handed : v.chA.presented = u.chA.presented :=
    (congrArg Channel.presented ((Apart.handLimit v).trans (.trigger _)).chA.symm :)
  have request : u.chB.request = s.chB.request := (congrArg Channel.request apart.chB :)
  have wants : u.chB.wantsLink s.profile = s.chB.wantsLink s.profile := (congrArg (Channel.wantsLink s.profile) apart.chB :)
  have path : PathRuns u := PathRuns.congr (s := { s with present := true, input := s.input.attached })
    ⟨h.path.presents, h.path.rests, h.path.ramps⟩ apart.chA apart.pathA apart.profile
  have link : LinkStands False u := LinkStands.congr (s := { s with present := true, input := s.input.attached })
    ⟨⟨h.link.ramps, h.link.presents, h.link.rests⟩, h.link.noLink, False.elim⟩ apart.chB (by rw [apart.arb]) apart.linkStage apart.profile
    False.elim
  refine ChannelsStand.follows (takesCharge (apart.input ⟨h.input.1, nofun⟩) path (fun _ => handed) ?_ link ?_ fun hl => ?_)
  · rw [apart.present]
    nofun
  · rw [request, apart.profile, wants]
    exact h.request
  · exact (h.idle hl).congr (congrArg Channel.state apart.chA :) (congrArg Channel.state apart.chB :) apart.phase

theorem detachVbus (h : ChannelsStand b l s) : ChannelsStand True l (detachVbus s) := by
  let v : State := { s with present := false, input := s.input.detached, inputStage := s.inputStage.cut }
  let u := trigger (handLimit (raiseIf s.input.held.isSome (raiseMainHub .contract) v))
  have apart : Apart v u := ((Apart.raiseIf s.input.held.isSome (.raiseMainHub .contract) _).trans (.handLimit _)).trans (.trigger _)
  have request : u.chB.request = s.chB.request := (congrArg Channel.request apart.chB :)
  have wants : u.chB.wantsLink s.profile = s.chB.wantsLink s.profile := (congrArg (Channel.wantsLink s.profile) apart.chB :)
  have path : PathRuns u := PathRuns.congr (s := v) ⟨h.path.presents, h.path.rests, h.path.ramps⟩ apart.chA apart.pathA apart.profile
  have link : LinkStands False u := LinkStands.congr (s := v)
    ⟨⟨h.link.ramps, h.link.presents, h.link.rests⟩, h.link.noLink, False.elim⟩ apart.chB (by rw [apart.arb]) apart.linkStage apart.profile
    False.elim
  have input : v.InputStands := by
    refine ⟨?_, fun _ => rfl⟩
    show (s.inputStage.target != 0) = true ↔ 0 ≠ s.inputStage.target
    rw [bne_iff_ne, ne_comm]
  have charged : ChannelsStand False l (takeCharge 0 u) := by
    refine takesCharge (apart.input input) path ?_ (fun _ => .inr rfl) link ?_ fun hl => ?_
    · rw [apart.present]
      nofun
    · rw [request, apart.profile, wants]
      exact h.request
    · exact (h.idle hl).congr (congrArg Channel.state apart.chA :) (congrArg Channel.state apart.chB :) apart.phase
  have bridged : ChannelsStand False l (takeBridge (takeCharge 0 u)) := charged.of_fields rfl rfl rfl rfl rfl rfl rfl rfl rfl rfl rfl
  exact bridged.follows.apart (.monitorTest _)

theorem resetDevice (h : ChannelsStand b l s) : ChannelsStand True True (resetDevice s) := by
  let v := resetBlocks (leaveMonitor s)
  have left := h.apart (.leaveMonitor s)
  have apart := Apart.takeInput 0 v
  have input := takeInput_eq v 0
  have chA : (takeInput 0 v).chA = Channel.atReset := by rw [input]; rfl
  have chB : (takeInput 0 v).chB = Channel.atReset := by rw [input]; rfl
  have stage : (takeInput 0 v).linkStage = (leaveMonitor s).linkStage := by rw [input]; rfl
  have path : PathRuns (takeInput 0 v) := PathRuns.congr (s := v) ⟨Channel.atReset_presents .a _, fun _ => rfl, left.path.ramps⟩
    apart.chA apart.pathA apart.profile
  have link : LinkStands False (takeInput 0 v) := by
    refine ⟨⟨?_, ?_, ?_⟩, ?_, False.elim⟩
    · rw [stage]
      exact left.link.ramps
    · rw [chB]
      exact Channel.atReset_presents .b _
    · rw [chB]
      exact fun _ => rfl
    · rw [chB]
      nofun
  have charged : ChannelsStand False True (takeCharge 0 (takeInput 0 v)) := by
    refine takesCharge (apart.input left.input) path ?_ (fun _ => .inr rfl) link ?_ fun _ _ => ?_
    · rw [chA]
      exact fun _ => rfl
    · rw [chB]
      rfl
    · rw [chA, chB]
      exact ⟨rfl, rfl⟩
  exact charged.follows.of_fields rfl rfl rfl rfl rfl rfl rfl rfl rfl rfl rfl

end ChannelsStand

end Sys2Proof.Machine
end

section
/-! Every step keeps the channels, their stages and channel B's request sound (O59). -/

namespace Sys2Proof.Machine

namespace ChannelsStand
variable {b l : Prop} {s t : State}

/-- R200: the end of LOADING, with the starts of the channels. -/
theorem endLoading (h : ChannelsStand True True s) : ChannelsStand True True (endLoading s) := by
  have timed (p : Port) (u : State) (hu : ChannelsStand True False u) : ChannelsStand True False (startDormancy p u) :=
    hu.apart (.setPort u p _)
  have auto (c : Cell) (n : Nat) (u : State) (hu : ChannelsStand True False u) : ChannelsStand True False (autoStart c n u) := by
    unfold autoStart
    split
    · exact hu
    · exact hu.startChannel c n False.elim
  have autoAll (u : State) (hu : ChannelsStand True False u) : ChannelsStand True False (autoStartAll u) := by
    unfold autoStartAll
    split
    · exact auto .b _ _ (auto .a _ _ hu)
    · exact hu
  have taken := h.apart (.takeInput s.input.limit s)
  have began := autoAll _ (timed .input _ (timed .hub _ (timed .main _ ⟨taken.input, taken.path, taken.link, taken.request, False.elim⟩)))
  unfold Machine.endLoading
  refine ChannelsStand.apart (ChannelsStand.apart ?_ (.raiseAll .ready _)) (.trigger _)
  exact ⟨began.input, began.path.congr rfl rfl rfl rfl, began.link.congr rfl Iff.rfl rfl rfl fun _ => rfl, began.request, nofun⟩

/-! ### Publications (R83, R84) -/

theorem publishTo (h : ChannelsStand b l s) (old : Publication) (grants : List GrantOut) (x : Recipient) :
    ChannelsStand b l (publishTo old grants x s) := by
  cases x with
  | table => exact h.apart (.publishGrants grants s)
  | channelA => exact h.commit .a ((h.channel .a).publication ..) fun _ _ => Change.keepsIdle_publication _ _ _ _
  | channelB => exact h.commit .b ((h.channel .b).publication ..) fun _ _ => Change.keepsIdle_publication _ _ _ _
  | path => exact h.of_fields rfl rfl rfl rfl rfl rfl rfl rfl rfl rfl rfl
  | supply =>
    refine h.reacts (publishSupply_reacts s) (by decide) (by decide) (by decide) ?_
    show LinkStands b (if s.alloc.record.supply then raiseReq .supply s else withdrawReq .supply s)
    split
    · exact h.link.raiseReq .supply
    · exact h.link.withdrawReq .supply
  | link => exact h.follows.weaken b
  | notices => exact h.apart (.publishNotices old s)

/-- R84: once the link has taken its part of the publication, it follows its holder. -/
theorem publishToAll (old : Publication) (grants : List GrantOut) (rs : List Recipient) : ∀ {s : State}, ChannelsStand False l s →
    .link ∈ rs ∨ ChannelsStand True l s → ChannelsStand True l (rs.foldl (fun s r => Machine.publishTo old grants r s) s) := by
  induction rs with
  | nil => exact fun _ stands => stands.resolve_left nofun
  | cons r rs ih =>
    intro s h stands
    refine ih (h.publishTo old grants r) ?_
    rcases stands with member | stands
    · rcases List.mem_cons.mp member with rfl | later
      · exact .inr h.follows
      · exact .inl later
    · exact .inr (stands.publishTo old grants r)

theorem publish (h : ChannelsStand b l s) (x : Snapshot) (order : Nat) : ChannelsStand True l (publish x order s) := by
  have recorded : ChannelsStand False l (s.setAlloc { s.alloc with record := x.figures (nextCount s.alloc.record.count), published := true }) :=
    ⟨h.input, h.path.congr rfl rfl rfl rfl, ⟨⟨h.link.ramps, h.link.presents, h.link.rests⟩, h.link.noLink, False.elim⟩, h.request, h.idle⟩
  have told := publishToAll s.alloc.record x.grants (arrange order everyRecipient) recorded
    (.inl ((arrange_perm order everyRecipient).mem_iff.mpr (by decide)))
  exact told.apart (.endPass _)

/-! ### Timers and settled events (R123, R126, R129, R157) -/

theorem setArb (h : ChannelsStand b l s) {a : Arbiter} (link : a.link = s.arb.link) : ChannelsStand b l (s.setArb a) :=
  ⟨h.input, h.path.congr rfl rfl rfl rfl, h.link.setArb link, h.request, h.idle⟩

theorem tenureExpires (h : ChannelsStand b l s) : ChannelsStand b l (tenureExpires s) := by
  unfold Machine.tenureExpires
  split
  · exact h
  next due _ =>
    have expired : ChannelsStand b l ((reach due s).setArb { s.arb with tenure := none, tenureExpired := true }) :=
      (h.apart (.reach due s)).setArb rfl
    refine expired.reacts (yieldAtExpiry_reacts _) (by decide) (by decide) (by decide) ?_
    unfold yieldAtExpiry
    split
    next held =>
      split
      · exact expired.link.startYield LinkStands.startChecks held
      · exact expired.link
    · exact expired.link
    · exact expired.link

theorem backoffExpires (h : ChannelsStand b l s) (r : Requester) : ChannelsStand b l (backoffExpires r s) := by
  unfold Machine.backoffExpires
  split
  · exact h
  next due _ =>
    have expired : ChannelsStand b l ((reach due s).setArb (s.arb.setBackoff r none)) :=
      (h.apart (.reach due s)).setArb (by cases r <;> rfl)
    dsimp only
    split
    next free => exact expired.reacts (choiceFree_reacts _) (by decide) (by decide) (by decide) (expired.link.choiceFree free)
    · exact expired
    · exact expired

theorem cellAPathSettles (h : ChannelsStand b l s) : ChannelsStand b l (cellAPathSettles s) := by
  have settled : ChannelsStand b l (s.setPathA { s.pathA with stage := s.pathA.stage.settle }) :=
    ⟨h.input, ⟨⟨h.path.presents, h.path.rests, Stage.settle_ramping_iff _⟩, h.path.target⟩, h.link.congr rfl Iff.rfl rfl rfl fun _ => rfl,
      h.request, h.idle⟩
  unfold Machine.cellAPathSettles
  split
  · exact settled.apart (.holdTest _)
  · exact h

theorem arbiterSettled (h : ChannelsStand b l s) : ChannelsStand b l (arbiterSettled s) := by
  refine h.reacts (arbiterSettled_reacts s) (by decide) (by decide) (by decide) ?_
  unfold Machine.arbiterSettled
  split
  next link => exact h.link.endChangeover LinkStands.startChecks link
  next free => exact h.link.choiceFree free
  · exact h.link

theorem linkSettles (h : ChannelsStand b l s) (holdFirst : Bool) : ChannelsStand b l (linkSettles holdFirst s) := by
  have settled : ChannelsStand b l { s with linkStage := s.linkStage.settle } :=
    ⟨h.input, h.path.congr rfl rfl rfl rfl, ⟨⟨Stage.settle_ramping_iff _, h.link.presents, h.link.rests⟩, h.link.noLink, h.link.follow⟩,
      h.request, h.idle⟩
  unfold Machine.linkSettles
  dsimp only
  split
  · split
    · exact (settled.apart (.holdTest _)).arbiterSettled
    · exact settled.arbiterSettled.apart (.holdTest _)
  · exact h

end ChannelsStand

/-- R93 to R99, R1 to R9: every command keeps the channels and their stages. -/
theorem channelsRules : StepRules (ChannelsStand True True) where
  apart keeps h := h.apart keeps
  joins h p := h.joinHold p
  leaves h p order own := h.leaveHold p order own
  portReset h p := h.reacts (enginePortReset_reacts _ p) (by decide) (by decide) (by decide) (h.link.enginePortReset p)
  starts h running c n := h.startChannel c n fun _ loading => nomatch running.symm.trans loading
  stops h c := h.commit c (h.channel c).stop fun _ _ => Change.keepsIdle_stop
  fails h c active := h.commit c (Change.stands_fail _) fun _ _ => Change.keepsIdle_of_active active
  walks h c active := h.commit c ((h.channel c).walk _ _ active) fun _ _ => Change.keepsIdle_of_active active
  writes h _ r unusedA unusedB := h.writes unusedA unusedB r
  places h _ _ _ _ _ := h.placeJob _
  cancels {s} h j first := h.reacts (cancelJob_reacts j s) (by decide) (by decide) (by decide) (h.link.cancelJob first)
  clears h target := h.clears target
  ships h := h.enterShip
  resets h := h.resetDevice
  powers level s := (channelsSound_iff _).mp (resetPowerOn_channelsSound level s)
  attaches h := h.attachVbus
  detaches h := h.detachVbus
  copies h loading := h.finishCopy loading
  loads h _ := h.endLoading
  senses h order := h.monitorSample order
  observes h c := h.commit c ((h.channel c).sample _) fun _ _ => Change.keepsIdle_sample _
  credits h := h.reacts (engineSample_reacts _) (by decide) (by decide) (by decide) h.link.engineSample
  publishes h x order := h.publish x order
  tenure h := h.tenureExpires
  backoff h r := h.backoffExpires r
  pathSettles h := h.cellAPathSettles
  linkSettles h holdFirst := h.linkSettles holdFirst

/-- Settles O59: each command keeps the channels, their stages and channel B's request as they should stand. -/
theorem channelsStaySound : Obligations.ChannelsStaySound := by
  unfold Obligations.ChannelsStaySound
  intro s t sound stepped
  exact (channelsSound_iff t).mpr (channelsRules.step ((channelsSound_iff s).mp sound) stepped)

end Sys2Proof.Machine
end

section
/-! Raises, clears and over-voltage reports (R168, R169, R173), and O29. -/

namespace Sys2Proof.Machine

section
variable (s : State)

theorem raiseAll_eq (k : Notice) : raiseAll k s = { s with ports := noting k.bit [.main, .hub, .input] s.ports } := rfl

/-- R168, R203: what a raise brings, as one update. -/
theorem tellRaise_eq : tellRaise s = { s with
    ports := noting 11 [.main, .hub, .input] s.ports
    power := { s.power with state := if s.power.state = .monitor then .active else s.power.state, holdOff := some (s.now + 10000) }
    seq := { s.seq with nextArrival :=
      if s.power.state = .monitor then max s.now (s.seq.lastArrival + 100) else s.seq.nextArrival } } := by
  rw [tellRaise, leaveMonitor_eq, raiseAll_eq]
  rfl

end

/-- A part at work that is not in MONITOR is ACTIVE. -/
theorem active_after_monitor {s : State} (on : s.operating = true) :
    (if s.power.state = .monitor then PowerState.active else s.power.state) = .active := by
  rw [State.operating, Bool.and_eq_true, bne_iff_ne] at on
  cases state : s.power.state
  · rfl
  · rfl
  · exact absurd state on.2

theorem Protection.anyFault_eq_false_iff (x : Protection) :
    x.anyFault = false ↔ x.cellA = CellFaults.none ∧ x.cellB = CellFaults.none ∧ x.device = DeviceFaults.none := by
  obtain ⟨⟨a, b, c⟩, ⟨d, e, f⟩, ⟨g, h, i⟩, _, _⟩ := x
  simp only [Protection.anyFault, CellFaults.any, DeviceFaults.any, CellFaults.none, DeviceFaults.none, Bool.or_eq_false_iff,
    CellFaults.mk.injEq, DeviceFaults.mk.injEq]
  tauto

/-- R169, R173: the fault sets as a report of an over-voltage, or one within limit, leaves them. -/
theorem Protection.testInputOv_eq (high : Bool) (x : Protection) : x.testInputOv high = { x with
    device := { x.device with inputOv := high }
    first := if high = true ∧ x.device.inputOv = false ∧ x.cellA = CellFaults.none ∧ x.cellB = CellFaults.none
        ∧ x.device = DeviceFaults.none then some (.inputOv, .device) else x.first } := by
  unfold testInputOv take
  congr 1
  simp only [Bool.and_eq_true, Bool.not_eq_true', and_assoc, ← anyFault_eq_false_iff]

theorem exec_inputOvReport {s : State} {high : Bool} {rest : List Bool} (on : s.operating = true) (reports : s.input.reports = high :: rest) :
    exec .inputOvReport s = .next (inputOvReport high (s.setInput { s.input with reports := rest })) := by
  refine congrArg Host.Outcome.next ((if_pos on).trans ?_)
  rw [deliverReport, reports]

/-- R171: a report of the input leaves the cells' fault sets alone. -/
theorem enterFaults_inputOv (high : Bool) (s : State) : enterFaults (s.prot.testInputOv high) s
    = raiseIf (high && !s.prot.device.inputOv) tellRaise (s.setProt (s.prot.testInputOv high)) := by
  have gains : s.prot.gains (s.prot.testInputOv high) = (high && !s.prot.device.inputOv) := by
    rw [Protection.testInputOv_eq]
    simp [Protection.gains, CellFaults.latches]
  have kept : (s.prot.cellA.uv && !(s.prot.testInputOv high).cellA.uv) = false := by
    rw [Protection.testInputOv_eq]
    exact Bool.and_not_self _
  rw [enterFaults, gains, kept]
  rfl

/-- Settles O29: the oldest report is delivered, and judged against INPUT_OV as it stands. -/
theorem inputOvReported : Obligations.InputOvReported := by
  intro s high rest on running u v ov
  have delivered : exec .inputOvReport u = .next (inputOvReport high v) := exec_inputOvReport on rfl
  refine ⟨fun same => ?_, fun low present => ?_, fun raised absent => ?_⟩
  · rw [delivered, inputOvReport, if_pos same]
  · subst low
    have entered : enterFaults (s.prot.testInputOv false) v = v.setProt { s.prot with device := ov false } := by
      refine (enterFaults_inputOv false v).trans ?_
      show v.setProt (s.prot.testInputOv false) = _
      rw [Protection.testInputOv_eq, if_neg (by simp)]
    refine ⟨trigger (v.setProt { s.prot with device := ov false }), ?_, trigger_triggered_since running on rfl rfl rfl rfl, trigger_still _⟩
    rw [delivered, inputOvReport, if_neg (by show ¬ false = s.prot.device.inputOv; rw [present]; nofun)]
    exact congrArg (fun w => Host.Outcome.next (trigger w)) entered
  · subst raised
    let w := tellRaise (v.setProt (s.prot.testInputOv true))
    have entered : enterFaults (s.prot.testInputOv true) v = w := by
      refine (enterFaults_inputOv true v).trans ?_
      show raiseIf (true && !s.prot.device.inputOv) tellRaise _ = _
      rw [absent]
      rfl
    have told : w = { v with
        prot := s.prot.testInputOv true
        ports := noting 11 [.main, .hub, .input] s.ports
        power := { s.power with state := .active, holdOff := some (s.now + 10000) }
        seq := { s.seq with nextArrival :=
          if s.power.state = .monitor then max s.now (s.seq.lastArrival + 100) else s.seq.nextArrival } } := by
      refine (tellRaise_eq _).trans ?_
      show ({ v with
        prot := s.prot.testInputOv true
        ports := noting 11 [.main, .hub, .input] s.ports
        power := { s.power with
          state := if s.power.state = .monitor then PowerState.active else s.power.state, holdOff := some (s.now + 10000) }
        seq := { s.seq with nextArrival :=
          if s.power.state = .monitor then max s.now (s.seq.lastArrival + 100) else s.seq.nextArrival } } : State) = _
      rw [active_after_monitor on]
    refine ⟨trigger w, ?_, ?_, ?_⟩
    · rw [delivered, inputOvReport, if_neg (by show ¬ true = s.prot.device.inputOv; rw [absent]; nofun)]
      exact congrArg (fun w => Host.Outcome.next (trigger w)) entered
    · have working : w.operating = true := by
        rw [told]
        simp only [State.operating, Bool.and_eq_true] at on ⊢
        exact ⟨on.1, rfl⟩
      have taken : Triggered w (trigger w) := trigger_triggered w (by rw [told]; exact running) working
      exact taken.congr (by rw [told]) (by rw [told]) (by rw [told]) rfl rfl rfl rfl
    · rw [trigger_still, told, Protection.testInputOv_eq]
      simp only [absent, true_and]
      exact noting_still { v with
        prot := { s.prot with
          device := ov true
          first := if s.prot.cellA = CellFaults.none ∧ s.prot.cellB = CellFaults.none ∧ s.prot.device = DeviceFaults.none
            then some (.inputOv, .device) else s.prot.first }
        power := { s.power with state := .active, holdOff := some (s.now + 10000) }
        seq := { s.seq with nextArrival :=
          if s.power.state = .monitor then max s.now (s.seq.lastArrival + 100) else s.seq.nextArrival } } 11 _

end Sys2Proof.Machine
end

section
/-! Sample arrivals past LOADING, block by block in any order (R14), and O28. -/

namespace Sys2Proof.Machine

/-! ### What every block's part of a sample keeps -/

/-- Between s and u no block has done more than take its part of a sample: the clock, the sample and what no block's part touches
stand, notices stay raised and a pass goes on. -/
structure Carries (s u : State) : Prop where
  phase : s.power.phase = .running → u.power.phase = .running
  supplied : u.power.supplied = s.power.supplied
  operating : s.operating = true → u.operating = true
  now : u.now = s.now
  seq : u.seq = { s.seq with nextArrival := u.seq.nextArrival }
  settings : u.settings = s.settings
  profile : u.profile = s.profile
  present : u.present = s.present
  record : u.alloc.record = s.alloc.record
  noticed : ∀ p k, Noticed s p k → Noticed u p k
  pass : PassGoesOn s u

/-- R200: past LOADING the start-up control has no part. -/
theorem endLoadingTest_running {s : State} (running : s.power.phase = .running) : endLoadingTest s = s := by
  rw [endLoadingTest, State.loaded, running]
  rfl

namespace Carries
variable {s t u : State}

theorem refl (s : State) : Carries s s :=
  ⟨id, rfl, id, rfl, rfl, rfl, rfl, rfl, rfl, fun _ _ => id, fun _ computing => ⟨computing, id⟩⟩

theorem trans (h : Carries s t) (k : Carries t u) : Carries s u where
  phase running := k.phase (h.phase running)
  supplied := k.supplied.trans h.supplied
  operating on := k.operating (h.operating on)
  now := k.now.trans h.now
  seq := by rw [k.seq, h.seq]
  settings := k.settings.trans h.settings
  profile := k.profile.trans h.profile
  present := k.present.trans h.present
  record := k.record.trans h.record
  noticed p n told := k.noticed p n (h.noticed p n told)
  pass x computing :=
    let ⟨goesOn, kept⟩ := h.pass x computing
    ⟨(k.pass x goesOn).1, fun rerun => (k.pass x goesOn).2 (kept rerun)⟩

theorem sample (h : Carries s u) : u.sample = s.sample := by
  rw [State.sample, State.sample, h.seq]

theorem of_reacts {E : List Effect} (h : Reacts E s u) : Carries s u where
  phase running := (Keeps.phase h.keeps).trans running
  supplied := (congrArg (fun v => v.power.supplied) (show u.outer = s.outer from h.keeps) :)
  operating on := h.operating_eq.trans on
  now := Keeps.now h.keeps
  seq := by
    have same : { u.seq with nextArrival := 0 } = { s.seq with nextArrival := 0 } :=
      (congrArg State.seq (show u.outer = s.outer from h.keeps) :)
    exact (congrArg (fun q : Sequencer => { q with nextArrival := u.seq.nextArrival }) same :)
  settings := Keeps.settings h.keeps
  profile := Keeps.profile h.keeps
  present := Keeps.present h.keeps
  record := Keeps.record h.keeps
  noticed _ _ := h.noticed
  pass := h.passGoesOn

theorem tellRaise (on : s.operating = true) : Carries s (tellRaise s) := by
  have told : Carries s (raiseAll .fault s) := of_reacts (E := [.notice])
    ((raiseMainHub_reacts s (by decide) _).trans (raiseNotice_reacts _ (by decide) _ _))
  refine told.trans ?_
  rw [Machine.tellRaise, leaveMonitor_eq]
  refine ⟨id, rfl, fun _ => ?_, rfl, rfl, rfl, rfl, rfl, rfl, fun _ _ => id, fun _ computing => ⟨computing, id⟩⟩
  rw [State.operating, Bool.and_eq_true] at on ⊢
  refine ⟨on.1, ?_⟩
  show (if s.power.state = .monitor then PowerState.active else s.power.state) != .ship
  split
  · rfl
  · exact on.2

theorem enterFaults (on : s.operating = true) (new : Protection) : Carries s (enterFaults new s) := by
  have ended : Carries s (raiseIf (s.prot.cellA.uv && !new.cellA.uv) endAllowance (s.setProt new)) := by
    unfold raiseIf
    split <;> exact ⟨id, rfl, id, rfl, rfl, rfl, rfl, rfl, rfl, fun _ _ => id, fun _ computing => ⟨computing, id⟩⟩
  show Carries s (if s.prot.gains new then _ else _)
  split
  · exact ended.trans (tellRaise (ended.operating on))
  · exact ended

theorem monitorSample (on : s.operating = true) (order : Nat) : Carries s (monitorSample order s) := by
  unfold Machine.monitorSample
  dsimp only
  split
  · exact refl s
  · exact (enterFaults on _).trans ((of_reacts (takeReports_reacts _ _)).trans (of_reacts (trigger_reacts (E := [.pass]) _ (by decide))))

theorem setInput (s : State) (x : InputCtl) : Carries s (s.setInput x) :=
  ⟨id, rfl, id, rfl, rfl, rfl, rfl, rfl, rfl, fun _ _ => id, fun _ computing => ⟨computing, id⟩⟩

theorem handLimit (s : State) : Carries s (handLimit s) := by
  unfold Machine.handLimit
  split
  · exact refl s
  · rw [takeInput_eq]
    exact ⟨id, rfl, id, rfl, rfl, rfl, rfl, rfl, rfl, fun _ _ => id, fun _ computing => ⟨computing, id⟩⟩

theorem trigger (s : State) : Carries s (trigger s) := of_reacts (trigger_reacts (E := [.pass]) s (by decide))

theorem takeDroop (s : State) : Carries s (takeDroop s) := by
  have told (u : State) : Carries u (raiseNotice .droop .main (raiseNotice .droop .input u)) := of_reacts (E := [.notice])
    ((raiseNotice_reacts u (by decide) .droop .input).trans (raiseNotice_reacts _ (by decide) .droop .main))
  unfold Machine.takeDroop
  dsimp only
  split
  · exact (setInput s _).trans (told _)
  · exact (((setInput s _).trans (told _)).trans (handLimit _)).trans (trigger _)

theorem inputSample (s : State) : Carries s (inputSample s) := by
  unfold Machine.inputSample
  dsimp only
  split
  · exact (setInput s _).trans (takeDroop _)
  · exact setInput s _

/-- R200: the end of LOADING in a sample. -/
theorem endLoading (s : State) : Carries s (endLoading s) := by
  have taken : Carries s (takeInput s.input.limit s) := by
    rw [takeInput_eq]
    exact ⟨id, rfl, id, rfl, rfl, rfl, rfl, rfl, rfl, fun _ _ => id, fun _ computing => ⟨computing, id⟩⟩
  have timed (p : Port) (u : State) : Carries u (startDormancy p u) := by
    refine ⟨id, rfl, id, rfl, rfl, rfl, rfl, rfl, rfl, fun q k told => ?_, fun _ computing => ⟨computing, id⟩⟩
    unfold startDormancy Noticed
    by_cases same : q = p
    · subst same
      rw [setPort_port]
      exact told
    · rw [setPort_port_other _ same]
      exact told
  have auto (c : Cell) (n : Nat) (u : State) : Carries u (autoStart c n u) := by
    unfold autoStart
    split
    · exact refl u
    · exact of_reacts (startChannel_reacts u c n)
  have autoAll (u : State) : Carries u (autoStartAll u) := by
    unfold autoStartAll
    split
    · exact (auto .a _ u).trans (auto .b _ _)
    · exact refl u
  have runs (u : State) : Carries u (u.setPower { u.power with phase := .running }) :=
    ⟨fun _ => rfl, rfl, id, rfl, rfl, rfl, rfl, rfl, rfl, fun _ _ => id, fun _ computing => ⟨computing, id⟩⟩
  have told (u : State) : Carries u (raiseAll .ready u) := of_reacts (E := [.notice])
    ((raiseMainHub_reacts u (by decide) _).trans (raiseNotice_reacts _ (by decide) _ _))
  exact ((((((((taken.trans (timed .main _)).trans (timed .hub _)).trans (timed .input _)).trans (autoAll _)).trans (runs _)).trans
    (told _)).trans (trigger _)))

theorem receive (on : s.operating = true) (order : Nat) (x : Receiver) :
    Carries s (receive order x s) := by
  cases x with
  | monitor => exact monitorSample on order
  | input => exact inputSample s
  | channelA => exact of_reacts (channelSample_reacts s .a)
  | channelB => exact of_reacts (channelSample_reacts s .b)
  | engine => exact of_reacts (engineSample_reacts s)
  | allocator => exact trigger s
  | startUp =>
    show Carries s (if s.loaded then Machine.endLoading s else s)
    split
    · exact endLoading s
    · exact refl s

end Carries

/-! ### One block's turn among the others -/

/-- A fold in which x has exactly one turn: what stands before it and leads to what stands after it. -/
theorem foldl_turn {α : Type} (f : State → α → State) {x : α} {Pre Post : State → Prop} (before : ∀ y ≠ x, ∀ u, Pre u → Pre (f u y))
    (turn : ∀ u, Pre u → Post (f u x)) (after : ∀ y ≠ x, ∀ u, Post u → Post (f u y)) :
    ∀ {l : List α}, l.Nodup → x ∈ l → ∀ {s : State}, Pre s → Post (l.foldl f s) := by
  intro l
  induction l with
  | nil => exact fun _ member => nomatch member
  | cons y l ih =>
    intro nodup member s h
    obtain ⟨fresh, rest⟩ := List.nodup_cons.mp nodup
    by_cases same : y = x
    · subst same
      exact foldl_preserves (P := Post) f l (fun z hz u hu => after z (fun eq => fresh (eq ▸ hz)) u hu) _ (turn s h)
    · exact ih rest ((List.mem_cons.mp member).resolve_left (Ne.symm same)) (before y same s h)

theorem everyReceiver_arranged (order : Nat) : (arrange order everyReceiver).Nodup ∧ ∀ x, x ∈ arrange order everyReceiver := by
  refine ⟨(arrange_perm order everyReceiver).nodup_iff.mpr (by decide), fun x => (arrange_perm order everyReceiver).mem_iff.mpr ?_⟩
  cases x <;> decide

/-- R14: the turn of one block in a sample arrival. -/
theorem arriveSample_turn (x : Receiver) {s : State} {m : RawSample} {order : Nat} (on : s.operating = true) {Pre Post : State → Prop}
    (before : ∀ y ≠ x, ∀ u, Carries (recordSample m s) u → Pre u → Pre (receive (order / 5040) y u))
    (turn : ∀ u, Carries (recordSample m s) u → Pre u → Post (receive (order / 5040) x u))
    (after : ∀ y ≠ x, ∀ u, Carries (recordSample m s) u → Post u → Post (receive (order / 5040) y u)) (first : Pre (recordSample m s)) :
    Carries (recordSample m s) (arriveSample m order s) ∧ Post (arriveSample m order s) := by
  have carried (y : Receiver) (u : State) (h : Carries (recordSample m s) u) : Carries (recordSample m s) (receive (order / 5040) y u) :=
    h.trans (.receive (h.operating on) _ y)
  obtain ⟨nodup, mem⟩ := everyReceiver_arranged order
  exact foldl_turn (Pre := fun u => Carries (recordSample m s) u ∧ Pre u) (Post := fun u => Carries (recordSample m s) u ∧ Post u)
    (fun s x => receive (order / 5040) x s)
    (fun y ne u hu => ⟨carried y u hu.1, before y ne u hu.1 hu.2⟩) (fun u hu => ⟨carried x u hu.1, turn u hu.1 hu.2⟩)
    (fun y ne u hu => ⟨carried y u hu.1, after y ne u hu.1 hu.2⟩) nodup (mem x) ⟨.refl _, first⟩

theorem exec_sampleArrival {s : State} (on : s.operating = true) (sampling : s.seq.running = true) (m : RawSample) (order : Nat) :
    exec (.sampleArrival m order) s = .next (arriveSample m order s) :=
  congrArg Host.Outcome.next (if_pos (by rw [on, sampling]; rfl))

/-! ### The input controller's turn (R51, R54) -/

theorem enterFaults_input (new : Protection) (s : State) :
    (enterFaults new s).input = s.input ∧ (enterFaults new s).inputStage = s.inputStage := by
  unfold enterFaults raiseIf
  have told (u : State) : (tellRaise u).input = u.input ∧ (tellRaise u).inputStage = u.inputStage := by
    rw [tellRaise_eq]
    exact ⟨rfl, rfl⟩
  split
  · rw [(told _).1, (told _).2]
    split <;> exact ⟨rfl, rfl⟩
  · split <;> exact ⟨rfl, rfl⟩

/-- Only the input controller's part of a sample touches the controller and its stage. -/
theorem receive_input {y : Receiver} (other : y ≠ .input) {u : State} (running : u.power.phase = .running) (order : Nat) :
    (receive order y u).input = u.input ∧ (receive order y u).inputStage = u.inputStage := by
  have kept {E : List Effect} {v w : State} (h : Reacts E v w) : w.input = v.input ∧ w.inputStage = v.inputStage :=
    ⟨Keeps.input h.keeps, Keeps.inputStage h.keeps⟩
  cases y with
  | monitor =>
    show (monitorSample order u).input = _ ∧ (monitorSample order u).inputStage = _
    unfold monitorSample
    dsimp only
    split
    · exact ⟨rfl, rfl⟩
    · obtain ⟨input, stage⟩ := enterFaults_input (u.prot.judged u.sample) u
      have reports := kept (((takeReports_reacts _ _).mono (F := reportEffects) (by decide)).trans
        (trigger_reacts (E := reportEffects) ((arrange order (reportsOf u.prot (u.prot.judged u.sample))).foldl
          (fun s x => takeReport x s) (enterFaults (u.prot.judged u.sample) u)) (by decide)))
      exact ⟨reports.1.trans input, reports.2.trans stage⟩
  | input => contradiction
  | channelA => exact kept (channelSample_reacts u .a)
  | channelB => exact kept (channelSample_reacts u .b)
  | engine => exact kept (engineSample_reacts u)
  | allocator => exact kept (trigger_reacts (E := [.pass]) u (by decide))
  | startUp =>
    show (endLoadingTest u).input = _ ∧ (endLoadingTest u).inputStage = _
    rw [endLoadingTest_running running]
    exact ⟨rfl, rfl⟩

/-- R51, R54: what the input controller makes of a sample, the stage as it was. -/
def InputCtl.sampled (now : Nat) (vIn : Nat) (x : InputCtl) : InputCtl :=
  let told := { x with reports := x.reports ++ [x.overVoltage vIn] }
  if x.droops vIn then { told with droopLimit := x.drooped, recovery := some (now + 30000) } else told

theorem inputSample_stands {u : State} (running : u.power.phase = .running) :
    let t := inputSample u
    t.input = u.input.sampled u.now u.sample.vIn
      ∧ (u.input.droops u.sample.vIn = true → Noticed t .input .droop ∧ Noticed t .main .droop
        ∧ (u.input.drooped ≠ u.input.droopLimit → t.inputStage.target = u.input.drooped))
      ∧ (u.input.droops u.sample.vIn = false ∨ u.input.drooped = u.input.droopLimit → t.inputStage = u.inputStage) := by
  let told := u.setInput { u.input with reports := u.input.reports ++ [u.input.overVoltage u.sample.vIn] }
  have droops : told.input.droops u.sample.vIn = u.input.droops u.sample.vIn := rfl
  have taken : inputSample u = if u.input.droops u.sample.vIn then takeDroop told else told := rfl
  intro t
  show (inputSample u).input = _ ∧ (_ → Noticed (inputSample u) _ _ ∧ Noticed (inputSample u) _ _ ∧ (_ → (inputSample u).inputStage.target = _))
    ∧ (_ → (inputSample u).inputStage = _)
  rw [taken, InputCtl.sampled]
  by_cases drop : u.input.droops u.sample.vIn = true
  · rw [if_pos drop, if_pos drop]
    have drawing : u.input.state.drawing = true := (Bool.and_eq_true_iff.mp drop).1
    let cut := told.setInput { told.input with droopLimit := u.input.drooped, recovery := some (u.now + 30000) }
    let v := raiseNotice .droop .main (raiseNotice .droop .input cut)
    have noticed : Noticed v .input .droop ∧ Noticed v .main .droop :=
      ⟨raiseNotice_keepsNoticed _ _ _ _ _ (raiseNotice_noticed .droop .input cut), raiseNotice_noticed ..⟩
    have droop : takeDroop told = if u.input.drooped = u.input.droopLimit then v else trigger (handLimit v) := rfl
    rw [droop]
    split
    next same => exact ⟨rfl, fun _ => ⟨noticed.1, noticed.2, fun moved => absurd same moved⟩, fun _ => rfl⟩
    next moved =>
      have carried := (Carries.handLimit v).trans (.trigger _)
      have input : (trigger (handLimit v)).input = v.input := by
        rw [Keeps.input (trigger_outer _), handLimit_eq]
      have target : (trigger (handLimit v)).inputStage.target = u.input.drooped := by
        rw [Keeps.inputStage (trigger_outer _), handLimit, if_neg (by show ¬ u.power.phase = _; rw [running]; nofun), takeInput_target]
        show (if u.input.state.drawing then _ else _) = _
        rw [if_pos drawing]
        rfl
      exact ⟨input, fun _ => ⟨carried.noticed _ _ noticed.1, carried.noticed _ _ noticed.2, fun _ => target⟩,
        fun no => absurd (no.resolve_left (by rw [drop]; nofun)) moved⟩
  · rw [if_neg drop, if_neg drop]
    exact ⟨rfl, fun yes => absurd yes drop, fun _ => rfl⟩

/-- What the input controller, its stage and the DROOP notices come to in a sample arrival. -/
theorem arriveSample_input {s : State} {m : RawSample} {order : Nat} (on : s.operating = true) (running : s.power.phase = .running) :
    let t := arriveSample m order s
    let vIn := (recordSample m s).sample.vIn
    Carries (recordSample m s) t ∧ t.input = s.input.sampled (recordSample m s).now vIn
      ∧ (s.input.droops vIn = true → Noticed t .input .droop ∧ Noticed t .main .droop
        ∧ (s.input.drooped ≠ s.input.droopLimit → t.inputStage.target = s.input.drooped))
      ∧ (s.input.droops vIn = false ∨ s.input.drooped = s.input.droopLimit → t.inputStage = s.inputStage) := by
  let r := recordSample m s
  refine arriveSample_turn .input on
    (Pre := fun u => u.input = s.input ∧ u.inputStage = s.inputStage)
    (Post := fun t => t.input = s.input.sampled r.now r.sample.vIn
      ∧ (s.input.droops r.sample.vIn = true → Noticed t .input .droop ∧ Noticed t .main .droop
        ∧ (s.input.drooped ≠ s.input.droopLimit → t.inputStage.target = s.input.drooped))
      ∧ (s.input.droops r.sample.vIn = false ∨ s.input.drooped = s.input.droopLimit → t.inputStage = s.inputStage))
    (fun y ne u carried pre => ?_) (fun u carried pre => ?_) (fun y ne u carried post => ?_) ⟨rfl, rfl⟩
  · obtain ⟨input, stage⟩ := receive_input ne (carried.phase running) (order / 5040)
    exact ⟨input.trans pre.1, stage.trans pre.2⟩
  · have stands := inputSample_stands (carried.phase running)
    rw [carried.now, carried.sample, pre.1, pre.2] at stands
    exact stands
  · obtain ⟨input, stage⟩ := receive_input ne (carried.phase running) (order / 5040)
    have mono := (Carries.receive (carried.operating on) (order / 5040) y).noticed
    rw [input, stage]
    exact ⟨post.1, fun drop => ⟨mono _ _ (post.2.1 drop).1, mono _ _ (post.2.1 drop).2.1, (post.2.1 drop).2.2⟩, post.2.2⟩

/-- R51: a droop, spelled out. -/
theorem InputCtl.droops_iff (x : InputCtl) (vIn : Nat) : x.droops vIn = true
    ↔ (x.state = .dflt ∨ x.state = .contracted) ∧ vIn < (x.held.getD { voltage := 5000, current := 500 }).voltage * 9 / 10 := by
  have drawing : x.state.drawing = true ↔ x.state = .dflt ∨ x.state = .contracted := by cases x.state <;> simp [InputState.drawing]
  rw [InputCtl.droops, Bool.and_eq_true, drawing, decide_eq_true_iff]
  rfl

/-- R54: the over-voltage report, spelled out. -/
theorem InputCtl.overVoltage_eq (x : InputCtl) (vIn : Nat) : x.overVoltage vIn = decide (x.state ≠ .detached
    ∧ (if x.state = .dflt ∨ x.state = .contracted then (x.held.getD { voltage := 5000, current := 500 }).voltage
        else (x.pendingContract.getD (x.held.getD { voltage := 5000, current := 500 })).voltage) * 11 / 10 < vIn) := by
  have reference : x.reference = if x.state = .dflt ∨ x.state = .contracted then (x.held.getD { voltage := 5000, current := 500 }).voltage
      else (x.pendingContract.getD (x.held.getD { voltage := 5000, current := 500 })).voltage := by
    rw [InputCtl.reference]
    have force : x.inForce = x.held.getD { voltage := 5000, current := 500 } := rfl
    rw [force]
    cases x.state <;> cases x.pendingContract <;> rfl
  rw [InputCtl.overVoltage, reference, Bool.decide_and]
  congr 1
  exact Bool.eq_iff_iff.mpr (by rw [bne_iff_ne, decide_eq_true_iff])

/-- Settles O28: the input controller's one turn in the sample. -/
theorem sampleJudgesInput : Obligations.SampleJudgesInput := by
  intro s m order on sampling running
  obtain ⟨carried, input, droop, kept⟩ := arriveSample_input (m := m) (order := order) on running
  have latest : (arriveSample m order s).seq.latest = some (recordSample m s).sample := by rw [carried.seq]; rfl
  refine ⟨_, exec_sampleArrival on sampling m order, (recordSample m s).sample, latest, ?_⟩
  intro drawing force reference report limit
  have told : s.input.overVoltage (recordSample m s).sample.vIn = report := InputCtl.overVoltage_eq ..
  by_cases droops : s.input.droops (recordSample m s).sample.vIn = true
  · rw [if_pos ((InputCtl.droops_iff ..).mp droops)]
    obtain ⟨atInput, atMain, moved⟩ := droop droops
    refine ⟨?_, atInput, atMain, ?_⟩
    · rw [input, InputCtl.sampled, if_pos droops, told, carried.now]
      rfl
    · split
      next same => exact kept (.inr same)
      next other => exact moved other
  · rw [if_neg (mt (InputCtl.droops_iff ..).mpr droops)]
    refine ⟨?_, kept (.inl (Bool.eq_false_iff.mpr droops))⟩
    rw [input, InputCtl.sampled, if_neg droops, told]

end Sys2Proof.Machine
end

section
/-! What a sample does to the fault sets (R167 to R172), and O26. -/

namespace Sys2Proof.Machine

/-! ### The first fault of a list of tests (R169) -/

/-- One test of a sample: whether its fault stood before, whether it stands after, the kind and the place. -/
abbrev FaultTest := Bool × Bool × FaultKind × FaultPlace

/-- R169: the test y, with those before it taken and `rest` from it on to come, raises its fault and finds all the sets empty. -/
def firstRaise (ov : Bool) (taken rest : List FaultTest) (y : FaultTest) : Bool :=
  !y.1 && y.2.1 && !ov && taken.all (fun z => !z.2.1) && rest.all (fun z => !z.1)

/-- R169: the first-fault record that the tests leave, taken one after another. -/
def firstAfter (ov : Bool) (taken : List FaultTest) : List FaultTest → Option (FaultKind × FaultPlace) → Option (FaultKind × FaultPlace)
  | [], first => first
  | y :: l, first => firstAfter ov (taken ++ [y]) l (if firstRaise ov taken (y :: l) y then some y.2.2 else first)

/-- After a test that leaves its fault standing no later one is the first fault. -/
theorem firstAfter_of_standing {ov : Bool} {l taken : List FaultTest} {first : Option (FaultKind × FaultPlace)}
    (stands : ∃ y ∈ taken, y.2.1 = true) : firstAfter ov taken l first = first := by
  induction l generalizing taken with
  | nil => rfl
  | cons y l ih =>
    obtain ⟨z, member, is⟩ := stands
    have no : taken.all (fun z => !z.2.1) = false := List.all_eq_false.mpr ⟨z, member, by rw [is]; decide⟩
    rw [firstAfter, firstRaise, no, Bool.and_false, Bool.false_and, if_neg (by decide)]
    exact ih ⟨z, List.mem_append_left _ member, is⟩

/-- The record names the one test that raises and finds all the sets empty. -/
theorem firstAfter_eq_find? (ov : Bool) (l taken : List FaultTest) (first : Option (FaultKind × FaultPlace)) :
    firstAfter ov taken l first = (match (l.zipIdx taken.length).find?
        (fun y => firstRaise ov ((taken ++ l).take y.2) ((taken ++ l).drop y.2) y.1) with
      | some y => some y.1.2.2
      | none => first) := by
  induction l generalizing taken first with
  | nil => rfl
  | cons y l ih =>
    have here : firstRaise ov ((taken ++ y :: l).take taken.length) ((taken ++ y :: l).drop taken.length) y
        = firstRaise ov taken (y :: l) y := by
      rw [List.take_left, List.drop_left]
    rw [firstAfter, List.zipIdx_cons]
    by_cases raises : firstRaise ov taken (y :: l) y = true
    · rw [if_pos raises, List.find?_cons_of_pos (by rw [here, raises])]
      refine firstAfter_of_standing ⟨y, List.mem_append_right _ List.mem_cons_self, ?_⟩
      simp only [firstRaise, Bool.and_eq_true] at raises
      exact raises.1.1.1.2
    · rw [if_neg raises, List.find?_cons_of_neg (by rw [here]; exact raises), ih]
      simp only [List.length_append, List.length_cons, List.length_nil, Nat.zero_add, List.append_assoc, List.cons_append,
        List.nil_append]

/-- Where no fault stood before, the record names the first raise. -/
theorem firstAfter_of_none_before {l taken : List FaultTest} {first : Option (FaultKind × FaultPlace)}
    (clear : taken.all (fun z => !z.2.1) = true) (before : l.all (fun z => !z.1) = true) :
    ∀ y ∈ (l.filter (fun y => !y.1 && y.2.1)).head?, firstAfter false taken l first = some y.2.2 := by
  induction l generalizing taken first with
  | nil => exact fun _ member => nomatch member
  | cons x l ih =>
    have was : x.1 = false ∧ l.all (fun z => !z.1) = true := by
      simpa only [List.all_cons, Bool.and_eq_true, Bool.not_eq_true'] using before
    have raises : firstRaise false taken (x :: l) x = x.2.1 := by
      rw [firstRaise, clear, before, was.1]
      simp
    have raised : (!x.1 && x.2.1) = x.2.1 := by rw [was.1]; rfl
    rw [firstAfter, raises]
    by_cases is : x.2.1 = true
    · have leads : (x :: l).filter (fun y => !y.1 && y.2.1) = x :: l.filter (fun y => !y.1 && y.2.1) :=
        List.filter_cons_of_pos (raised.trans is)
      rw [leads, if_pos is]
      intro y member
      cases Option.mem_some_iff.mp member
      exact firstAfter_of_standing ⟨x, List.mem_append_right _ List.mem_cons_self, is⟩
    · have skipped : (x :: l).filter (fun y => !y.1 && y.2.1) = l.filter (fun y => !y.1 && y.2.1) :=
        List.filter_cons_of_neg (by rw [raised]; exact is)
      rw [skipped, if_neg is]
      refine ih ?_ was.2
      rw [List.all_append, clear, List.all_cons, Bool.eq_false_iff.mpr is]
      rfl

/-! ### The tests of a sample -/

/-- R167: the tests in the order of the monitor's table, for the fault sets before and after. -/
def faultTests (old new : Protection) : List FaultTest :=
  [ (old.cellA.ov, new.cellA.ov, .cellOv, .cellA), (old.cellB.ov, new.cellB.ov, .cellOv, .cellB),
    (old.cellA.hot, new.cellA.hot, .cellHot, .cellA), (old.cellB.hot, new.cellB.hot, .cellHot, .cellB),
    (old.cellA.uv, new.cellA.uv, .cellUv, .cellA), (old.cellB.uv, new.cellB.uv, .cellUv, .cellB),
    (old.device.dieHot, new.device.dieHot, .dieHot, .device), (old.device.linkFault, new.device.linkFault, .linkFault, .device) ]

/-- R167: a cell's set after its tests. -/
def CellFaults.sampled (f : CellFaults) (v : Nat) (c : Int) : CellFaults :=
  { ov := f.ov || decide (4500 ≤ v), hot := f.hot || decide (650 ≤ c), uv := if f.uv then decide (v < 3000) else decide (v < 2800) }

/-- R167: the device set after its tests. -/
def DeviceFaults.sampled (f : DeviceFaults) (x : Sample) : DeviceFaults :=
  { dieHot := if f.dieHot then decide (110 ≤ x.tDie) else decide (125 ≤ x.tDie)
    inputOv := f.inputOv, linkFault := f.linkFault || decide (3300 < x.linkCurrent) }

section
variable (x : Protection) (y : Sample)

theorem judged_cellA : (x.judged y).cellA = x.cellA.sampled y.vA y.tA := rfl
theorem judged_cellB : (x.judged y).cellB = x.cellB.sampled y.vB y.tB := rfl
theorem judged_device_sampled : (x.judged y).device = x.device.sampled y := rfl

/-- The faults that the tests are for, as they stand, in the order of the table. -/
def Protection.standing (x : Protection) : List Bool :=
  [x.cellA.ov, x.cellB.ov, x.cellA.hot, x.cellB.hot, x.cellA.uv, x.cellB.uv, x.device.dieHot, x.device.linkFault]

theorem Protection.anyFault_eq_standing : x.anyFault = !(!x.device.inputOv && x.standing.all (fun b => !b)) := by
  simp only [anyFault, CellFaults.any, DeviceFaults.any, standing, List.all_cons, List.all_nil, Bool.not_and, Bool.not_not,
    Bool.not_true, Bool.or_false]
  ac_rfl

variable {x} in
/-- R169: one test takes the record one step on. -/
theorem firstAfter_take {ov : Bool} {taken l : List FaultTest} {t : FaultTest} {raised : Bool} (after : Protection)
    (input : x.device.inputOv = ov)
    (stands : x.standing = taken.map (fun z => z.2.1) ++ (t :: l).map (fun z => z.1)) (fresh : raised = (!t.1 && t.2.1)) :
    firstAfter ov taken (t :: l) x.first
      = firstAfter ov (taken ++ [t]) l (x.take raised t.2.2.1 t.2.2.2 after).first := by
  have raises : firstRaise ov taken (t :: l) t = (raised && !x.anyFault) := by
    rw [firstRaise, fresh, x.anyFault_eq_standing, input, stands, List.all_append, List.all_map, List.all_map, Bool.not_not]
    simp only [Function.comp_def, Bool.and_assoc]
  rw [firstAfter, raises]
  rfl

/-- R169: the tests, one after another, leave the record of the first raise that finds all the sets empty. -/
theorem judged_first : (x.judged y).first = firstAfter x.device.inputOv [] (faultTests x (x.judged y)) x.first := by
  have fresh (w d : Bool) : (d && !w) = (!w && (w || d)) := by cases w <;> cases d <;> rfl
  have turned (w d : Bool) : (d && !w) = (!w && d) := Bool.and_comm ..
  let x1 := x.testOv .a y.vA
  let x2 := x1.testOv .b y.vB
  let x3 := x2.testHot .a y.tA
  let x4 := x3.testHot .b y.tB
  let x5 := x4.testUv .a y.vA
  let x6 := x5.testUv .b y.vB
  let x7 := x6.testDieHot y.tDie
  let ov := x.device.inputOv
  let l := faultTests x (x.judged y)
  symm
  calc firstAfter ov [] l x.first
    _ = firstAfter ov (l.take 1) (l.drop 1) x1.first := firstAfter_take _ rfl rfl (fresh _ _)
    _ = firstAfter ov (l.take 2) (l.drop 2) x2.first := firstAfter_take (x := x1) _ rfl rfl (fresh _ _)
    _ = firstAfter ov (l.take 3) (l.drop 3) x3.first := firstAfter_take (x := x2) _ rfl rfl (fresh _ _)
    _ = firstAfter ov (l.take 4) (l.drop 4) x4.first := firstAfter_take (x := x3) _ rfl rfl (fresh _ _)
    _ = firstAfter ov (l.take 5) (l.drop 5) x5.first := firstAfter_take (x := x4) _ rfl rfl (turned _ _)
    _ = firstAfter ov (l.take 6) (l.drop 6) x6.first := firstAfter_take (x := x5) _ rfl rfl (turned _ _)
    _ = firstAfter ov (l.take 7) (l.drop 7) x7.first := firstAfter_take (x := x6) _ rfl rfl (turned _ _)
    _ = firstAfter ov l [] (x7.testLink y.linkCurrent).first := firstAfter_take (x := x7) _ rfl rfl (fresh _ _)
    _ = (x.judged y).first := rfl

/-- R168: a fault has entered the sets exactly where a test raises one. -/
theorem gains_judged : x.gains (x.judged y) = (faultTests x (x.judged y)).any (fun z => !z.1 && z.2.1) := by
  have still : (x.judged y).device.inputOv = x.device.inputOv := rfl
  simp only [Protection.gains, CellFaults.latches, faultTests, List.any_cons, List.any_nil, still, Bool.and_not_self, Bool.or_false,
    Bool.and_comm (!_)]
  ac_rfl

end

/-! ### The monitor's turn (R14, R168) -/

/-- Between s and u the fault sets, what the cell A path may supply and the hold-off timer stand, and so does the power state while
that timer runs. -/
structure Judged (s u : State) : Prop where
  prot : u.prot = s.prot
  supply : u.pathA.supply = s.pathA.supply
  bridge : u.pathA.bridge = s.pathA.bridge
  holdOff : u.power.holdOff = s.power.holdOff
  state : s.power.holdOff.isSome = true → u.power.state = s.power.state

namespace Judged
variable {s t u : State}

theorem refl (s : State) : Judged s s := ⟨rfl, rfl, rfl, rfl, fun _ => rfl⟩

theorem trans (h : Judged s t) (k : Judged t u) : Judged s u :=
  ⟨k.prot.trans h.prot, k.supply.trans h.supply, k.bridge.trans h.bridge, k.holdOff.trans h.holdOff,
    fun runs => (k.state (h.holdOff ▸ runs)).trans (h.state runs)⟩

theorem of_reacts {E : List Effect} (h : Reacts E s u) : Judged s u where
  prot := Keeps.prot h.keeps
  supply := Keeps.supply h.keeps
  bridge := (congrArg (fun v => v.pathA.bridge) (show u.outer = s.outer from h.keeps) :)
  holdOff := (congrArg (fun v => v.power.holdOff) (show u.outer = s.outer from h.keeps) :)
  state := by
    refine (h.rel (fun s t => t.power.holdOff = s.power.holdOff ∧ (s.power.holdOff.isSome = true → t.power.state = s.power.state))
      (fun _ => ⟨rfl, fun _ => rfl⟩)
      (fun _ _ _ p q => ⟨q.1.trans p.1, fun runs => (q.2 (p.1 ▸ runs)).trans (p.2 runs)⟩) (fun e _ v w touch => ?_)).2
    by_cases monitor : e = .monitor
    · subst monitor
      cases touch
      unfold monitorTest
      split
      next quiet =>
        refine ⟨rfl, fun runs => ?_⟩
        simp only [State.quiet, Bool.and_eq_true] at quiet
        have stopped := quiet.1.1.1.1.1.1.1.1.1.2
        rw [Option.isNone_iff_eq_none] at stopped
        rw [stopped] at runs
        contradiction
      · exact ⟨rfl, fun _ => rfl⟩
    · rw [touch.power_eq monitor]
      exact ⟨rfl, fun _ => rfl⟩

theorem takeInput (n : Nat) (s : State) : Judged s (takeInput n s) := by
  rw [takeInput_eq]
  exact ⟨rfl, rfl, rfl, rfl, fun _ => rfl⟩

theorem inputSample (s : State) : Judged s (inputSample s) := by
  have droop (u : State) : Judged u (takeDroop u) := by
    have told (v : State) : Judged v (raiseNotice .droop .main (raiseNotice .droop .input v)) := of_reacts (E := [.notice])
      ((raiseNotice_reacts v (by decide) .droop .input).trans (raiseNotice_reacts _ (by decide) .droop .main))
    have handed (v : State) : Judged v (handLimit v) := by
      unfold handLimit
      split
      · exact refl v
      · exact takeInput _ v
    have wanted (v : State) : Judged v (trigger v) := of_reacts (trigger_reacts (E := [.pass]) v (by decide))
    have cut (x : InputCtl) : Judged u (u.setInput x) := ⟨rfl, rfl, rfl, rfl, fun _ => rfl⟩
    unfold takeDroop
    dsimp only
    split
    · exact (cut _).trans (told _)
    · exact (((cut _).trans (told _)).trans (handed _)).trans (wanted _)
  have reported (x : InputCtl) : Judged s (s.setInput x) := ⟨rfl, rfl, rfl, rfl, fun _ => rfl⟩
  unfold Machine.inputSample
  dsimp only
  split
  · exact (reported _).trans (droop _)
  · exact reported _

theorem endLoading (s : State) : Judged s (endLoading s) := by
  have timed (p : Port) (u : State) : Judged u (startDormancy p u) := by
    unfold startDormancy
    cases p <;> exact ⟨rfl, rfl, rfl, rfl, fun _ => rfl⟩
  have auto (c : Cell) (n : Nat) (u : State) : Judged u (autoStart c n u) := by
    unfold autoStart
    split
    · exact refl u
    · exact of_reacts (startChannel_reacts u c n)
  have autoAll (u : State) : Judged u (autoStartAll u) := by
    unfold autoStartAll
    split
    · exact (auto .a _ u).trans (auto .b _ _)
    · exact refl u
  have runs (u : State) : Judged u (u.setPower { u.power with phase := .running }) := ⟨rfl, rfl, rfl, rfl, fun _ => rfl⟩
  have told (u : State) : Judged u (trigger (raiseAll .ready u)) := of_reacts (E := [.notice, .pass])
    (((raiseMainHub_reacts u (by decide) _).trans (raiseNotice_reacts _ (by decide) _ _)).trans (trigger_reacts _ (by decide)))
  exact ((((((takeInput _ s).trans (timed .main _)).trans (timed .hub _)).trans (timed .input _)).trans (autoAll _)).trans
    (runs _)).trans (told _)

/-- Every block's part but the monitor's leaves what the monitor judges. -/
theorem receive {y : Receiver} (other : y ≠ .monitor) (order : Nat) (u : State) : Judged u (receive order y u) := by
  cases y with
  | monitor => contradiction
  | input => exact inputSample u
  | channelA => exact of_reacts (channelSample_reacts u .a)
  | channelB => exact of_reacts (channelSample_reacts u .b)
  | engine => exact of_reacts (engineSample_reacts u)
  | allocator => exact of_reacts (trigger_reacts (E := [.pass]) u (by decide))
  | startUp =>
    show Judged u (if u.loaded then Machine.endLoading u else u)
    split
    · exact endLoading u
    · exact refl u

end Judged

theorem raiseAll_noticed (k : Notice) (s : State) (q : Port) : Noticed (raiseAll k s) q k := by
  cases q with
  | main => exact raiseNotice_keepsNoticed _ _ _ _ _ (raiseNotice_keepsNoticed _ _ _ _ _ (raiseNotice_noticed k .main s))
  | hub => exact raiseNotice_keepsNoticed _ _ _ _ _ (raiseNotice_noticed k .hub _)
  | input => exact raiseNotice_noticed k .input _

theorem tellRaise_noticed (s : State) (q : Port) : Noticed (tellRaise s) q .fault := by
  have told := raiseAll_noticed .fault s q
  rw [raiseAll_eq] at told
  rw [tellRaise_eq]
  exact told

/-- R168, R171: the monitor's part of a sample. -/
theorem monitorSample_stands {u : State} (on : u.operating = true) (order : Nat) :
    let new := u.prot.judged u.sample
    let t := monitorSample order u
    t.prot = new ∧ t.pathA.supply = (if u.prot.cellA.uv && !new.cellA.uv then 0 else u.pathA.supply)
      ∧ t.pathA.bridge = u.pathA.bridge
      ∧ (u.prot.gains new = true → (∀ q, Noticed t q .fault) ∧ t.power.holdOff = some (u.now + 10000) ∧ t.power.state = .active) := by
  intro new t
  refine ⟨monitorSample_prot order u, ?_⟩
  show (monitorSample order u).pathA.supply = _ ∧ (monitorSample order u).pathA.bridge = _
    ∧ (_ → (∀ q, Noticed (monitorSample order u) q .fault) ∧ (monitorSample order u).power.holdOff = _
      ∧ (monitorSample order u).power.state = _)
  unfold monitorSample
  dsimp only
  split
  next same =>
    have still : new = u.prot := same
    have none : u.prot.gains new = false := by rw [still]; simp [Protection.gains, CellFaults.latches]
    rw [none, still, Bool.and_not_self]
    exact ⟨rfl, rfl, nofun⟩
  next changed =>
    let v := enterFaults new u
    have pathA : v.pathA = if u.prot.cellA.uv && !new.cellA.uv then { u.pathA with supply := 0 } else u.pathA :=
      enterFaults_pathA new u
    have reports := (takeReports_reacts v (arrange order (reportsOf u.prot new))).trans
      (trigger_reacts (E := reportEffects) ((arrange order (reportsOf u.prot new)).foldl (fun s x => takeReport x s) v) (by decide))
    have judged := Judged.of_reacts reports
    refine ⟨judged.supply.trans ?_, judged.bridge.trans ?_, fun gains => ?_⟩
    · rw [pathA]
      split <;> rfl
    · rw [pathA]
      split <;> rfl
    · let w := raiseIf (u.prot.cellA.uv && !new.cellA.uv) endAllowance (u.setProt new)
      have same : w.power = u.power ∧ w.now = u.now := by
        show (raiseIf _ endAllowance _).power = _ ∧ (raiseIf _ endAllowance _).now = _
        unfold raiseIf
        split <;> exact ⟨rfl, rfl⟩
      have told : v = tellRaise w := if_pos gains
      have power : v.power.holdOff = some (u.now + 10000) ∧ v.power.state = .active := by
        rw [told, tellRaise_eq, same.1, same.2]
        exact ⟨rfl, active_after_monitor on⟩
      have noticed (q : Port) : Noticed v q .fault := by
        rw [told]
        exact tellRaise_noticed w q
      exact ⟨fun q => reports.noticed (noticed q), judged.holdOff.trans power.1,
        (judged.state (by rw [power.1]; rfl)).trans power.2⟩

/-- What the fault sets, the cell A path's supply and a raise come to in a sample arrival. -/
theorem arriveSample_judged {s : State} {m : RawSample} {order : Nat} (on : s.operating = true) :
    let t := arriveSample m order s
    let new := s.prot.judged (recordSample m s).sample
    Carries (recordSample m s) t ∧ t.prot = new
      ∧ t.pathA.supply = (if s.prot.cellA.uv && !new.cellA.uv then 0 else s.pathA.supply) ∧ t.pathA.bridge = s.pathA.bridge
      ∧ (s.prot.gains new = true → (∀ q, Noticed t q .fault) ∧ t.power.holdOff = some (t.now + 10000) ∧ t.power.state = .active) := by
  let r := recordSample m s
  let new := s.prot.judged r.sample
  have turn := arriveSample_turn (x := .monitor) (m := m) (order := order) on
    (Pre := fun u => u.prot = s.prot ∧ u.pathA.supply = s.pathA.supply ∧ u.pathA.bridge = s.pathA.bridge)
    (Post := fun t => t.prot = new ∧ t.pathA.supply = (if s.prot.cellA.uv && !new.cellA.uv then 0 else s.pathA.supply)
      ∧ t.pathA.bridge = s.pathA.bridge ∧ (s.prot.gains new = true →
        (∀ q, Noticed t q .fault) ∧ t.power.holdOff = some (r.now + 10000) ∧ t.power.state = .active))
    (fun y ne u _ pre => ?_) (fun u carried pre => ?_) (fun y ne u carried post => ?_) ⟨rfl, rfl, rfl⟩
  · obtain ⟨carried, prot, supply, bridge, raised⟩ := turn
    refine ⟨carried, prot, supply, bridge, fun gains => ?_⟩
    rw [carried.now]
    exact raised gains
  · have kept := Judged.receive ne (order / 5040) u
    exact ⟨kept.prot.trans pre.1, kept.supply.trans pre.2.1, kept.bridge.trans pre.2.2⟩
  · obtain ⟨prot, supply, bridge⟩ := pre
    have stands := monitorSample_stands (carried.operating on) (order / 5040)
    rw [carried.now, carried.sample, prot, supply, bridge] at stands
    exact stands
  · obtain ⟨prot, supply, bridge, raised⟩ := post
    have kept := Judged.receive ne (order / 5040) u
    have mono := (Carries.receive (carried.operating on) (order / 5040) y).noticed
    refine ⟨kept.prot.trans prot, kept.supply.trans supply, kept.bridge.trans bridge, fun gains => ?_⟩
    obtain ⟨noticed, holdOff, state⟩ := raised gains
    exact ⟨fun q => mono _ _ (noticed q), kept.holdOff.trans holdOff, (kept.state (by rw [holdOff]; rfl)).trans state⟩

/-- Settles O26: the monitor's one turn in the sample, and its tests in the order of the table. -/
theorem sampleJudgesFaults : Obligations.SampleJudgesFaults := by
  intro s m order on sampling
  obtain ⟨carried, prot, supply, bridge, raised⟩ := arriveSample_judged (m := m) (order := order) on
  let x := (recordSample m s).sample
  let new := s.prot.judged x
  have latest : (arriveSample m order s).seq.latest = some x := by rw [carried.seq]; rfl
  refine ⟨_, exec_sampleArrival on sampling m order, x, latest, ?_⟩
  intro cell a b d tests raises before first
  have ran : tests = faultTests s.prot new := rfl
  have recorded : (arriveSample m order s).prot.first = firstAfter s.prot.device.inputOv [] tests s.prot.first := by
    rw [prot]
    exact judged_first s.prot x
  refine ⟨?_, ?_, ?_, ?_, ?_, fun none y member => ?_, ?_, ?_, bridge, fun some => ?_⟩
  · rw [prot]; rfl
  · rw [prot]; rfl
  · rw [prot]; rfl
  · rw [prot]; rfl
  · exact recorded.trans (firstAfter_eq_find? s.prot.device.inputOv tests [] s.prot.first)
  · obtain ⟨input, clear⟩ := Bool.or_eq_false_iff.mp none
    rw [recorded, input]
    refine firstAfter_of_none_before rfl ?_ y member
    rw [List.all_eq_not_any_not]
    simp only [Bool.not_not, clear, Bool.not_false]
  · have cases (was is : Bool) (n : Nat) : (if is = true then 0 else if (was && !is) = true then 0 else n)
        = if was = true ∨ is = true then 0 else n := by cases was <;> cases is <;> rfl
    have allowed : (arriveSample m order s).allowanceA = if new.cellA.uv = true then 0 else (arriveSample m order s).pathA.supply := by
      rw [State.allowanceA, State.isolated, prot]
      rfl
    rw [allowed, supply]
    exact cases s.prot.cellA.uv new.cellA.uv s.pathA.supply
  · rw [supply]
    have cases (was is : Bool) (n : Nat) : (if (was && !is) = true then 0 else n) = if was = true ∧ is = false then 0 else n := by
      cases was <;> cases is <;> rfl
    exact cases s.prot.cellA.uv new.cellA.uv s.pathA.supply
  · have gains : s.prot.gains new = true := by
      rw [gains_judged, List.any_eq_true]
      exact List.exists_mem_of_ne_nil _ some |>.imp fun y member => List.mem_filter.mp member
    obtain ⟨noticed, holdOff, state⟩ := raised gains
    exact ⟨fun q _ => noticed q, holdOff, state⟩

end Sys2Proof.Machine
end

section
/-! VBUS comes and goes (R15, R42, R43): O23 and O24. -/

namespace Sys2Proof.Machine

/-! ### Passes that stay wanted (R66) -/

section
variable {s t u : State}

theorem trigger_snapshot (s : State) : (trigger s).snapshot = s.snapshot := by
  obtain same | ⟨-, started⟩ | ⟨-, asked⟩ := trigger_cases s
  · rw [same]
  · rw [started]; rfl
  · rw [asked]; rfl

/-- A pass that is wanted stays wanted across a trigger. -/
theorem PassWanted.trigger (h : PassWanted s t) : PassWanted s (trigger t) := by
  have same := trigger_snapshot t
  unfold PassWanted at *
  obtain ignored | ⟨idle, -⟩ | ⟨-, asked⟩ := trigger_cases t
  · rw [ignored]
    exact h
  · cases was : s.alloc.pass with
    | none =>
      rw [was] at h
      obtain ⟨x, computing, -⟩ := h
      rw [idle] at computing
      contradiction
    | some x =>
      rw [was] at h
      obtain ⟨computing, -⟩ := h
      rw [idle] at computing
      contradiction
  · cases was : s.alloc.pass with
    | none =>
      rw [was] at h
      obtain ⟨x, computing, -⟩ := h
      rw [asked]
      exact ⟨x, computing, .inl rfl⟩
    | some x =>
      rw [was] at h
      rw [asked]
      exact ⟨h.1, rfl⟩

/-- R68: what a pass reads is in the channels, the arbiter and what reactions keep. -/
theorem Touches.snapshot_eq {e : Effect} (h : Touches e s t) (na : e ≠ .arb) (nl : e ≠ .lock) (nA : e ≠ .chA) (nB : e ≠ .chB)
    (nb : e ≠ .linkB) : t.snapshot = s.snapshot := by
  cases h with
  | arb | lock | chA | chB | linkB => contradiction
  | pass => exact trigger_snapshot s
  | monitor => exact monitorTest_snapshot s
  | rest _ pending =>
    have off : false = (s.hold.state == .off) := by
      rw [pending]
      rfl
    exact (congrArg (fun b => { s.snapshot with holdOff := b }) off :)
  | _ => rfl

theorem PassWanted.reacts {E : List Effect} (h : PassWanted s t) (k : Reacts E t u) (na : .arb ∉ E) (nl : .lock ∉ E) (nA : .chA ∉ E)
    (nB : .chB ∉ E) (nb : .linkB ∉ E) : PassWanted s u := by
  refine k.rel (fun t u => PassWanted s t → PassWanted s u) (fun _ => id) (fun _ _ _ p q => q ∘ p) (fun e he v w touch wanted => ?_) h
  by_cases pass : e = .pass
  · subst pass
    cases touch
    exact wanted.trigger
  · exact wanted.congr (touch.alloc_eq pass) (touch.snapshot_eq (ne_of_mem_of_not_mem he na) (ne_of_mem_of_not_mem he nl)
      (ne_of_mem_of_not_mem he nA) (ne_of_mem_of_not_mem he nB) (ne_of_mem_of_not_mem he nb))

/-- R66: in LOADING no trigger is taken. -/
theorem Reacts.alloc_of_loading {E : List Effect} (h : Reacts E s t) (loading : s.power.phase = .loading) : t.alloc = s.alloc := by
  refine (h.rel (fun s t => s.power.phase = .loading → t.power.phase = .loading ∧ t.alloc = s.alloc) (fun _ l => ⟨l, rfl⟩)
    (fun _ _ _ p q l => ⟨(q (p l).1).1, (q (p l).1).2.trans (p l).2⟩) (fun e _ v w touch l => ?_) loading).2
  refine ⟨(Keeps.phase touch.outer).trans l, ?_⟩
  by_cases pass : e = .pass
  · subst pass
    cases touch
    rw [trigger_ignored v (.inl l)]
  · exact touch.alloc_eq pass

/-- R202: the test reads the power control and the sequencer alone of the state before. -/
theorem MonitorTested.congr {v : State} (h : MonitorTested t u) (power : v.power = t.power) (seq : v.seq = t.seq) : MonitorTested v u := by
  unfold MonitorTested at *
  rwa [power, seq]

end

/-! ### The attach (R42) -/

theorem takeCharge_target {s : State} {n : Nat} (may : s.present = true ∨ n = 0) : (takeCharge n s).pathA.stage.target = n := by
  rw [takeCharge_stage, if_neg, Stage.take_target]
  rintro ⟨absent, some⟩
  rcases may with present | none
  · rw [present] at absent; contradiction
  · exact some none

theorem linkFollow_target (s : State) : (linkFollow s).linkStage.target = s.linkTarget := by
  rw [linkFollow_linkStage, Stage.take_target]

theorem handLimit_outer (s : State) : (handLimit s).outer = { s.outer with inputStage := (handLimit s).inputStage } :=
  (congrArg State.outer (handLimit_eq s)).trans rfl

/-- The attach, up to where the stages take their setpoints. -/
def attached (s : State) : State := trigger (handLimit (leaveMonitor { s with present := true, input := s.input.attached }))

theorem attachVbus_eq (s : State) : attachVbus s = linkFollow (takeCharge s.chA.presented (attached s)) := by
  have presented : (leaveMonitor { s with present := true, input := s.input.attached }).chA = s.chA := by
    rw [leaveMonitor_eq]
  rw [attachVbus, presented]
  rfl

theorem attached_stands {s : State} (on : s.operating = true) :
    let u := attached s
    u.outer = { s.outer with present := true, input := s.input.attached, inputStage := u.inputStage }
      ∧ u.power.state = .active ∧ { u.chB with stale := false } = { s.chB with stale := false } ∧ u.arb = s.arb
      ∧ (s.power.phase = .running → PassWanted s u ∧ u.inputStage.target = 500
        ∧ (s.inputStage = { target := 0, output := 0, ramping := false } →
            u.inputStage = { target := 500, output := 0, ramping := true }))
      ∧ (s.power.phase = .loading → u.inputStage = s.inputStage ∧ u.alloc = s.alloc) := by
  intro u
  let v : State := leaveMonitor { s with present := true, input := s.input.attached }
  have left : v = { s with
      present := true, input := s.input.attached
      power := { s.power with state := .active }
      seq := { s.seq with nextArrival :=
        if s.power.state = .monitor then max s.now (s.seq.lastArrival + 100) else s.seq.nextArrival } } := by
    refine (leaveMonitor_eq _).trans ?_
    dsimp only
    rw [active_after_monitor on]
  have handed := handLimit_eq v
  have reacts : Reacts [.pass] (handLimit v) u := trigger_reacts _ (by decide)
  have outer : v.outer = { s.outer with present := true, input := s.input.attached } := by rw [left]; rfl
  refine ⟨?_, ?_, ?_, ?_, fun running => ?_, fun loading => ?_⟩
  · have stage : u.inputStage = (handLimit v).inputStage := Keeps.inputStage reacts.keeps
    have kept : u.outer = (handLimit v).outer := reacts.keeps
    rw [kept, stage, handLimit_outer, outer]
  · rw [reacts.power_eq (by decide), handed, left]
  · refine (reacts.chB_fresh (by decide) (by decide)).trans ?_
    rw [handed, left]
  · rw [reacts.arb_eq (by decide) (by decide), handed, left]
  · have phase : v.power.phase = .running := by rw [left]; exact running
    have taken : u.inputStage = (takeInput 500 v).inputStage := by
      rw [Keeps.inputStage reacts.keeps, handLimit_running _ phase]
      rw [left]
      rfl
    have same : PassGoesOn s (handLimit v) := by
      rw [handed, left]
      exact fun x computing => ⟨computing, id⟩
    have working : (handLimit v).operating = true := by
      rw [handed, left]
      rw [State.operating, Bool.and_eq_true] at on ⊢
      exact ⟨on.1, rfl⟩
    refine ⟨same.passWanted ((congrArg (fun w => w.power.phase) handed).trans phase) working, ?_, fun zero => ?_⟩
    · rw [taken, takeInput_target]
    · rw [taken, left, takeInput]
      simp [zero, State.inputOutput, Stage.take, Stage.outputNow, State.tickFree]
  · have phase : v.power.phase = .loading := by rw [left]; exact loading
    have unhanded : handLimit v = v := if_pos phase
    have ignored : u = v := by
      show trigger (handLimit v) = v
      rw [unhanded, trigger_ignored v (.inl phase)]
    rw [ignored, left]
    exact ⟨rfl, rfl⟩

/-- Settles O23: the controller, then the cell A path, then the link take the attach. -/
theorem attachTaken : Obligations.AttachTaken := by
  intro s level on absent
  have hands : exec (.attach level) s = .next (attachVbus s) := by
    rw [State.operating, Bool.and_eq_true, bne_iff_ne] at on
    refine congrArg Host.Outcome.next ?_
    rw [if_neg (by rw [on.1]; decide), if_neg on.2, if_neg (by rw [absent]; decide)]
  let u := attached s
  let w := takeCharge s.chA.presented u
  obtain ⟨outer, active, chB, arb, running, loading⟩ := attached_stands on
  have present : u.present = true := (congrArg State.present outer :)
  have charges : Reacts chargeEffects u w := takeCharge_reacts _ _
  have follows : Reacts followEffects w (linkFollow w) := linkFollow_reacts _
  have reacts : Reacts (.path :: followEffects) u (linkFollow w) :=
    (charges.mono (by decide)).trans (follows.mono (by decide))
  have input : (linkFollow w).input = s.input.attached := (Keeps.input reacts.keeps).trans (congrArg State.input outer :)
  have stage : (linkFollow w).inputStage = u.inputStage := Keeps.inputStage reacts.keeps
  refine ⟨_, hands, ?_⟩
  rw [attachVbus_eq]
  refine ⟨(Keeps.present reacts.keeps).trans present, input, fun phase => ?_, fun phase => ?_, ?_, fun held => ?_, ?_, ?_⟩
  · obtain ⟨wanted, target, fromZero⟩ := running phase
    exact ⟨(congrArg Stage.target stage).trans target,
      wanted.reacts reacts (by decide) (by decide) (by decide) (by decide) (by decide), fun zero => stage.trans (fromZero zero)⟩
  · obtain ⟨kept, alloc⟩ := loading phase
    have still : u.power.phase = .loading := (congrArg (fun v => v.power.phase) outer :).trans phase
    exact ⟨stage.trans kept, (reacts.alloc_of_loading still).trans alloc⟩
  · rw [follows.pathA_eq (by decide)]
    exact takeCharge_target (.inl present)
  · have link : w.arb.link = .held .chargeB := by
      rw [charges.arb_eq (by decide) (by decide), arb, held]
    have presented : w.chB.presented = s.chB.presented :=
      (congrArg Channel.presented (charges.chB_fresh (by decide) (by decide)) :).trans (congrArg Channel.presented chB :)
    rw [linkFollow_target, State.linkTarget, link]
    show (if w.present then Flow.of .nodeToB w.chB.presented else Flow.zero) = _
    rw [if_pos ((Keeps.present charges.keeps).trans present), presented]
  · rw [reacts.power_eq (by decide)]
    exact active
  · have kept : (linkFollow w).outer = u.outer := reacts.keeps
    rw [kept, stage, input, outer]

/-! ### The detach (R43) -/

/-- The detach, up to where the stages take their setpoints. -/
def detached (s : State) : State := trigger (handLimit (raiseIf s.input.held.isSome (raiseMainHub .contract)
  { s with present := false, input := s.input.detached, inputStage := s.inputStage.cut }))

theorem detached_stands {s : State} (on : s.operating = true) :
    let u := detached s
    u.outer = { s.outer with present := false, input := s.input.detached, inputStage := u.inputStage }
      ∧ u.power = s.power ∧ u.seq = s.seq ∧ u.arb = s.arb ∧ u.inputStage.output = 0
      ∧ (s.input.held.isSome = true → Noticed u .main .contract ∧ Noticed u .hub .contract)
      ∧ (s.power.phase = .running → PassWanted s u ∧ u.inputStage = { target := 0, output := 0, ramping := false })
      ∧ (s.power.phase = .loading → u.inputStage = s.inputStage.cut) := by
  intro u
  let v0 : State := { s with present := false, input := s.input.detached, inputStage := s.inputStage.cut }
  let v := raiseIf s.input.held.isSome (raiseMainHub .contract) v0
  have told : Reacts [.notice] v0 v := raiseIf_reacts _ _ fun w => raiseMainHub_reacts w (by decide) _
  have handed := handLimit_eq v
  have triggered : Reacts [.pass] (handLimit v) u := trigger_reacts _ (by decide)
  have stage : u.inputStage = (handLimit v).inputStage := Keeps.inputStage triggered.keeps
  have cut : v.inputStage = s.inputStage.cut := Keeps.inputStage told.keeps
  have inRunning (running : s.power.phase = .running) : u.inputStage = { target := 0, output := 0, ramping := false } := by
    have phase : v.power.phase = .running := (Keeps.phase told.keeps).trans running
    have off : v.input.limit = 0 := by rw [Keeps.input told.keeps]; rfl
    have gone : v.inputOutput = 0 := by rw [State.inputOutput, Keeps.present told.keeps]; rfl
    rw [stage, handLimit_running _ phase, off, takeInput, gone, cut]
    split
    next same =>
      have zero : s.inputStage.target = 0 := same.symm
      rw [cut, Stage.cut, zero]
      rfl
    next other =>
      show ((s.inputStage.cut).take 0 0).1 = _
      rw [Stage.take, if_neg other, if_pos rfl]
  have inLoading (loading : s.power.phase = .loading) : u.inputStage = s.inputStage.cut := by
    have phase : v.power.phase = .loading := (Keeps.phase told.keeps).trans loading
    have unhanded : handLimit v = v := if_pos phase
    rw [stage, unhanded, cut]
  refine ⟨?_, ?_, ?_, ?_, ?_, fun held => ?_, fun running => ⟨?_, inRunning running⟩, inLoading⟩
  · have kept : u.outer = (handLimit v).outer := triggered.keeps
    have same : v.outer = v0.outer := told.keeps
    rw [kept, stage, handLimit_outer, same]
    rfl
  · rw [triggered.power_eq (by decide), handed]
    exact told.power_eq (by decide)
  · rw [triggered.seq_eq (by decide), handed]
    exact told.seq_eq (by decide)
  · rw [triggered.arb_eq (by decide) (by decide), handed]
    exact told.arb_eq (by decide) (by decide)
  · cases phase : s.power.phase with
    | running => rw [inRunning phase]
    | loading => rw [inLoading phase]; rfl
  · have noticed : Noticed v .main .contract ∧ Noticed v .hub .contract := by
      have raised : v = raiseMainHub .contract v0 := if_pos held
      rw [raised]
      exact ⟨raiseNotice_keepsNoticed _ _ _ _ _ (raiseNotice_noticed .contract .main v0), raiseNotice_noticed .contract .hub _⟩
    have kept (q : Port) (h : Noticed v q .contract) : Noticed u q .contract := by
      refine triggered.noticed ?_
      rw [handed]
      exact h
    exact ⟨kept _ noticed.1, kept _ noticed.2⟩
  · have same : PassGoesOn s (handLimit v) := by
      rw [handed]
      exact told.passGoesOn
    have working : v.operating = true := told.operating_eq.trans on
    refine same.passWanted ?_ ?_
    · rw [handed]
      exact (Keeps.phase told.keeps).trans running
    · rw [handed]
      exact working

theorem takeBridge_outer (s : State) : (takeBridge s).outer
    = { s.outer with pathA := { stage := Stage.off 0, supply := s.bridgeAllowance, bridge := true } } := rfl

/-- Settles O24: the controller, then the cell A path, then the link take the detach; MONITOR is tested for at the end. -/
theorem detachTaken : Obligations.DetachTaken := by
  intro s on here
  have hands : exec .detach s = .next (detachVbus s) := congrArg Host.Outcome.next (if_pos (by rw [on, here]; rfl))
  let u := detached s
  let c := takeCharge 0 u
  let w := takeBridge c
  let f := linkFollow w
  obtain ⟨outer, power, seq, arb, output, told, running, loading⟩ := detached_stands on
  have present : u.present = false := (congrArg State.present outer :)
  have charges : Reacts chargeEffects u c := takeCharge_reacts _ _
  have follows : Reacts followEffects w f := linkFollow_reacts _
  have tested : Reacts [.monitor] f (monitorTest f) := monitorTest_reacts _ (by decide)
  have ends : Reacts (.monitor :: followEffects) w (monitorTest f) := (follows.mono (by decide)).trans (tested.mono (by decide))
  have cOuter : c.outer = u.outer := charges.keeps
  have cInput : c.input = u.input := Keeps.input charges.keeps
  have cStage : c.inputStage = u.inputStage := Keeps.inputStage charges.keeps
  have cPresent : c.present = u.present := Keeps.present charges.keeps
  have input : (monitorTest f).input = s.input.detached :=
    ((Keeps.input ends.keeps).trans cInput).trans (congrArg State.input outer :)
  have stage : (monitorTest f).inputStage = u.inputStage := (Keeps.inputStage ends.keeps).trans cStage
  have pathA : (monitorTest f).pathA = w.pathA := ends.pathA_eq (by decide)
  have wanted (phase : s.power.phase = .running) : PassWanted s (monitorTest f) := by
    have charged : PassWanted s c := (running phase).1.reacts charges (by decide) (by decide) (by decide) (by decide) (by decide)
    have bridged : PassWanted s w := charged.congr rfl rfl
    exact bridged.reacts ends (by decide) (by decide) (by decide) (by decide) (by decide)
  refine ⟨_, hands, ?_⟩
  show (monitorTest f).present = false ∧ _
  refine ⟨((Keeps.present ends.keeps).trans cPresent).trans present, input, fun held => ?_, ?_,
    fun phase => ⟨stage.trans (running phase).2, wanted phase⟩, fun phase => ?_, ?_, ?_, ?_, fun held => ?_, ?_, ?_⟩
  · obtain ⟨main, hub⟩ := told held
    exact ⟨ends.noticed (charges.noticed main :), ends.noticed (charges.noticed hub :)⟩
  · exact (congrArg Stage.output stage).trans output
  · rw [show (detachVbus s).inputStage = _ from stage, loading phase]
    exact ⟨rfl, by show (s.inputStage.target != 0) = true ↔ _; rw [bne_iff_ne]⟩
  · rw [show (detachVbus s).pathA = _ from pathA]
    exact takeCharge_target (s := u) (.inr rfl)
  · rw [show (detachVbus s).pathA = _ from pathA]
    rfl
  · rw [show (detachVbus s).pathA = _ from pathA]
    show c.bridgeAllowance = _
    have prot : c.prot = s.prot := (Keeps.prot charges.keeps).trans (congrArg State.prot outer :)
    have latest : c.seq.latest = s.seq.latest := (Keeps.latest charges.keeps).trans (congrArg Sequencer.latest seq)
    rw [State.bridgeAllowance, State.isolated, prot, latest]
    cases s.seq.latest with
    | none => exact ite_self 0
    | some x => rfl
  · have link : w.arb.link = .held .chargeB := by
      show c.arb.link = _
      rw [charges.arb_eq (by decide) (by decide), arb, held]
    rw [show (detachVbus s).linkStage = _ from tested.linkStage_eq (by decide), linkFollow_target, State.linkTarget, link]
    show (if c.present then Flow.of .nodeToB w.chB.presented else Flow.zero) = _
    rw [cPresent.trans present]
    rfl
  · have kept : (monitorTest f).outer = w.outer := ends.keeps
    rw [show (detachVbus s).outer = _ from kept, show (detachVbus s).inputStage = _ from stage,
      show (detachVbus s).input = _ from input, takeBridge_outer, cOuter, outer]
  · have same : f.power = s.power ∧ f.seq = s.seq :=
      ⟨(follows.power_eq (by decide)).trans ((charges.power_eq (by decide)).trans power),
        (follows.seq_eq (by decide)).trans ((charges.seq_eq (by decide)).trans seq)⟩
    have supplied : f.power.supplied = true := by
      rw [same.1]
      exact (Bool.and_eq_true_iff.mp on).1
    exact (monitorTest_tested f supplied).congr same.1.symm same.2.symm

end Sys2Proof.Machine
end

section
/-! What the arbiter's operations keep, whatever they grant (R117 to R128), and when MONITOR is entered (R202). -/

namespace Sys2Proof.Machine

/-! ### A property that the arbiter's operations keep -/

/-- R121: a grant that the arbiter, the link and channel B have taken. -/
def grantTaken (r : Requester) (s : State) : State :=
  let s := linkFollow (s.setArb (s.arb.granted s.now s.settings.tenure r))
  if r = .chargeB then reportToB false s else s

/-- R122: a loss that the arbiter, the link and channel B have taken; `stands` tells whether the request still stands. -/
def lossTaken (r : Requester) (stands : Bool) (s : State) : State :=
  let s := linkFollow (s.setArb (s.arb.lost s.now r stands))
  if r = .chargeB then reportToB true s else s

/-- The changes that come with reports to the hold control and with triggers. -/
abbrev calmEffects : List Effect := [.pass, .notice, .rest, .view]

/-- A property that reports, the link's setpoints, grants that follow from a choice, and losses whose loser still asks keep. -/
structure LinkRules (P : State → Prop) : Prop where
  calm : ∀ {s t}, Reacts calmEffects s t → P s → P t
  follows : ∀ {s}, P s → P (linkFollow s)
  grants : ∀ {s r}, P s → s.arb.Unheld → s.arb.choose = some r → P (grantTaken r s)
  loses : ∀ {s r}, P s → s.arb.link = .held r → P (lossTaken r true s)
  frees : ∀ {s}, P s → s.arb.link = .changeover → P (s.setArb { s.arb with link := .free })
  pends : ∀ {s}, P s → P (s.setArb { s.arb with yieldPending := true })
  told : ∀ {s cause}, P s → P (reportLossToEngine cause s)

theorem reportToB_of_blind {P : State → Prop} (calm : ∀ {s t}, Reacts (.linkB :: calmEffects) s t → P s → P t)
    (follows : ∀ {s}, P s → P (linkFollow s)) (noLink : Bool) {s : State} (h : P s) : P (reportToB noLink s) := by
  have reasoned : (Change.withReasons .b s.profile { s.chB.reasons with noLink := noLink } s.chB).ch.linkless = s.chB.linkless := by
    unfold Change.withReasons
    split <;> rfl
  have marked : (Change.withReasons .b s.profile { s.chB.reasons with noLink := noLink } s.chB).ch.stale = s.chB.stale := by
    unfold Change.withReasons
    split <;> rfl
  have changed := follows (calm ((Touches.linkB _ s reasoned marked).reacts (by decide)) h)
  unfold reportToB
  dsimp only
  split
  · exact calm (trigger_reacts _ (by decide)) changed
  · exact changed

/-- Such a property, where it does not turn on what a report of the link does to channel B. -/
theorem LinkRules.of_blind {P : State → Prop} (calm : ∀ {s t}, Reacts (.linkB :: calmEffects) s t → P s → P t)
    (follows : ∀ {s}, P s → P (linkFollow s))
    (grants : ∀ {s r}, P s → s.arb.Unheld → s.arb.choose = some r → P (s.setArb (s.arb.granted s.now s.settings.tenure r)))
    (loses : ∀ {s r}, P s → s.arb.link = .held r → P (s.setArb (s.arb.lost s.now r true)))
    (frees : ∀ {s}, P s → s.arb.link = .changeover → P (s.setArb { s.arb with link := .free }))
    (pends : ∀ {s}, P s → P (s.setArb { s.arb with yieldPending := true }))
    (told : ∀ {s cause}, P s → P (reportLossToEngine cause s)) : LinkRules P where
  calm reacts := calm (reacts.mono (by decide))
  follows := follows
  grants h unheld chosen := by
    have reported (b : Bool) {u : State} (hu : P u) : P (reportToB b u) := reportToB_of_blind calm follows b hu
    unfold grantTaken
    dsimp only
    split
    · exact reported _ (follows (grants h unheld chosen))
    · exact follows (grants h unheld chosen)
  loses h held := by
    have reported (b : Bool) {u : State} (hu : P u) : P (reportToB b u) := reportToB_of_blind calm follows b hu
    unfold lossTaken
    dsimp only
    split
    · exact reported _ (follows (loses h held))
    · exact follows (loses h held)
  frees := frees
  pends := pends
  told := told

namespace LinkRules
variable {P : State → Prop} (rules : LinkRules P) {f : State → State} (answers : ∀ s, P s → P (f s)) {s : State} {r : Requester}

section
include rules

theorem reports (h : P s) : P (trigger (reportLink s)) :=
  rules.calm (((reportLink_reacts s).mono (by decide)).trans (trigger_reacts _ (by decide))) h

/-- R122: a loss that has been taken by the arbiter, the link and channel B. -/
theorem afterLoss_of {cause : LossCause} (h : P (lossTaken r (cause != .withdrawal) s)) : P (afterLoss cause r s) := by
  cases r with
  | supply => exact rules.reports h
  | chargeB => exact rules.reports h
  | balance => exact rules.reports (rules.told h)

end

include rules answers

theorem grantLink (h : P s) (unheld : s.arb.Unheld) (chosen : s.arb.choose = some r) : P (grantLink f r s) := by
  have granted := rules.grants h unheld chosen
  cases r with
  | supply => exact rules.reports granted
  | chargeB => exact rules.reports granted
  | balance => exact rules.reports (answers _ granted)

theorem chooseFree (h : P s) (free : s.arb.link = .free) : P (chooseFree f s) := by
  unfold Machine.chooseFree
  split
  next chosen =>
    split
    · exact rules.grantLink answers h (.inl free) chosen
    · exact h
  next => exact h

theorem endChangeover (h : P s) (link : s.arb.link = .changeover) : P (endChangeover f s) := by
  have reported (u : State) (hu : P u) : P (reportLink u) := rules.calm ((reportLink_reacts u).mono (by decide)) hu
  unfold Machine.endChangeover
  split
  next chosen => exact rules.grantLink answers h (.inr link) chosen
  next => exact reported _ (rules.frees h link)

theorem loseLink_of {cause : LossCause} (h : P (lossTaken r (cause != .withdrawal) s)) : P (loseLink f cause r s) := by
  have lost := rules.afterLoss_of h
  rw [loseLink_eq]
  split
  · exact rules.endChangeover answers lost (afterLoss_unheld cause r s)
  · exact lost

theorem loseLink {cause : LossCause} (h : P s) (held : s.arb.link = .held r) (taken : cause ≠ .withdrawal) : P (loseLink f cause r s) := by
  refine rules.loseLink_of answers ?_
  rw [bne_iff_ne.mpr taken]
  exact rules.loses h held

theorem startYield (h : P s) (held : s.arb.link = .held r) : P (startYield f r s) := by
  cases r with
  | chargeB =>
    show P (Machine.loseLink f .yield .chargeB s)
    exact rules.loseLink answers h held nofun
  | balance =>
    show P (s.setArb { s.arb with yieldPending := true })
    exact rules.pends h
  | supply => exact h

/-- R117: a request raised, its waiting already shown to keep the property. -/
theorem raiseLink (h : P s) (waits : s.arb.link ≠ .held r → s.arb.waiting.has r = false → P (asked r s)) : P (raiseLink f r s) := by
  unfold Machine.raiseLink
  split
  next => exact h
  next idle =>
    rw [Bool.or_eq_true, decide_eq_true_iff, not_or] at idle
    have asks : P (asked r s) := waits idle.1 (Bool.eq_false_iff.mpr idle.2)
    dsimp only
    split
    next free => exact rules.chooseFree answers asks free
    next holder held =>
      have yields (b : Bool) : P (if b then Machine.startYield f holder (asked r s) else asked r s) := by
        split
        · exact rules.startYield answers asks held
        · exact asks
      cases r with
      | supply => exact rules.loseLink answers asks held nofun
      | chargeB => exact yields _
      | balance => exact yields _
    next => exact asks

/-- R125, R128: a request withdrawn. -/
theorem withdrawLink (gives : s.arb.link = .held r → P (lossTaken r false s))
    (waitsNot : s.arb.link ≠ .held r → P (unasked r s)) : P (withdrawLink f r s) := by
  by_cases held : s.arb.link = .held r
  · rw [withdrawLink_held f held]
    exact rules.loseLink_of answers (gives held)
  · rw [withdrawLink_unheld f held]
    exact waitsNot held

end LinkRules

/-! ### Properties of the arbiter alone -/

/-- A property of the arbiter that grants, losses whose loser still asks, and yields keep. -/
structure ArbRules (p : Arbiter → Prop) : Prop where
  grants : ∀ {a r} (now tenure : Nat), p a → a.Unheld → a.choose = some r → p (a.granted now tenure r)
  loses : ∀ {a r} (now : Nat), p a → a.link = .held r → p (a.lost now r true)
  frees : ∀ {a}, p a → a.link = .changeover → p { a with link := .free }
  pends : ∀ {a}, p a → p { a with yieldPending := true }

theorem linkFollow_arb (s : State) : (linkFollow s).arb = s.arb := (linkFollow_sameUsers s).arb

theorem ArbRules.linkRules {p : Arbiter → Prop} (rules : ArbRules p) : LinkRules fun s => p s.arb :=
  .of_blind (fun reacts h => (congrArg p (reacts.arb_eq (by decide) (by decide))).mpr h)
    (fun h => (congrArg p (linkFollow_arb _)).mpr h) (rules.grants _ _) (rules.loses _) rules.frees rules.pends
    fun {s cause} h => by
      rw [reportLossToEngine_eq]
      exact h

/-! ### When MONITOR is entered (R202) -/

/-- Between s and t MONITOR is at most entered, with all that it asks for then there, and what it asks for stays. -/
structure Rested (s t : State) : Prop where
  power : (t.power = s.power ∧ t.seq = s.seq) ∨ (s.power.phase = .running ∧ s.power.state = .active ∧ t.RestsForMonitor
    ∧ t.power = { s.power with state := .monitor } ∧ t.seq = { s.seq with nextArrival := s.seq.lastArrival + 2000 })
  rests : s.RestsForMonitor → t.RestsForMonitor

section
variable {s t u : State}

theorem quiet_iff (s : State) : s.quiet = true
    ↔ s.power.phase = .running ∧ s.power.state = .active ∧ s.power.supplied = true ∧ s.RestsForMonitor := by
  simp [State.quiet, State.RestsForMonitor, State.port, PerPort.get]
  tauto

namespace Rested

theorem refl (s : State) : Rested s s := ⟨.inl ⟨rfl, rfl⟩, id⟩

theorem trans (h : Rested s t) (k : Rested t u) : Rested s u := by
  refine ⟨?_, k.rests ∘ h.rests⟩
  obtain ⟨power, seq⟩ | ⟨running, active, rests, power, seq⟩ := h.power
  · obtain ⟨power', seq'⟩ | ⟨running, active, rests, power', seq'⟩ := k.power
    · exact .inl ⟨power'.trans power, seq'.trans seq⟩
    · rw [power, seq] at *
      exact .inr ⟨running, active, rests, power', seq'⟩
  · obtain ⟨power', seq'⟩ | ⟨-, active', -⟩ := k.power
    · exact .inr ⟨running, active, k.rests rests, power'.trans power, seq'.trans seq⟩
    · rw [power] at active'
      contradiction

/-- What is asked for beside the queue and the channels is the reactions' to keep. -/
theorem of_same (power : t.power = s.power) (seq : t.seq = s.seq) (rests : s.RestsForMonitor → t.RestsForMonitor) : Rested s t :=
  ⟨.inl ⟨power, seq⟩, rests⟩

theorem monitorTest (s : State) : Rested s (monitorTest s) := by
  refine ⟨?_, (monitorTest_rests s).mpr⟩
  unfold Machine.monitorTest
  split
  next quiet =>
    obtain ⟨running, active, -, rests⟩ := (quiet_iff s).mp quiet
    exact .inr ⟨running, active, rests, rfl, rfl⟩
  next => exact .inl ⟨rfl, rfl⟩

theorem of_touches {e : Effect} (h : Touches e s t) (nA : e ≠ .chA) (nB : e ≠ .chB) : Rested s t := by
  by_cases monitor : e = .monitor
  · subst monitor
    cases h
    exact monitorTest s
  · refine of_same (h.power_eq monitor) (h.seq_eq monitor) ?_
    rintro ⟨stopped, detached, off, idleA, idleB, empty, asleep⟩
    have outer : t.outer = s.outer := h.outer
    have chA : t.chA.state = s.chA.state := (congrArg Channel.state (h.chA_fresh nA) :)
    have chB : t.chB.state = s.chB.state := (congrArg Channel.state (h.chB_linkless nB) :)
    have queue : t.bal.queue = [] := by
      by_cases own : e = .queue
      · subst own
        cases h with
        | queue q _ kept => exact kept empty
      · exact (h.queue_eq own).trans empty
    refine ⟨(congrArg (fun v => v.power.holdOff) outer :).trans stopped, (congrArg (fun v => v.input.state) outer :).trans detached,
      h.holdOff_iff.mpr off, chA ▸ idleA, chB ▸ idleB, queue, fun q member => ?_⟩
    have quiet := Keeps.port (s := s) (t := t) outer q
    exact (congrArg PortState.dormant quiet :).trans (asleep q member)

theorem of_reacts {E : List Effect} (h : Reacts E s t) (nA : .chA ∉ E) (nB : .chB ∉ E) : Rested s t :=
  h.rel Rested refl (fun _ _ _ => trans) fun _ he _ _ touch =>
    of_touches touch (ne_of_mem_of_not_mem he nA) (ne_of_mem_of_not_mem he nB)

/-- R202: where all that MONITOR asks for has been tested for, MONITOR has been tested for. -/
theorem tested (h : Rested s t) (unquiet : t.quiet = false) (supplied : s.power.supplied = true) : MonitorTested s t := by
  unfold MonitorTested
  obtain ⟨power, seq⟩ | ⟨running, active, rests, power, seq⟩ := h.power
  · rw [if_neg]
    · exact ⟨power, seq⟩
    · rintro ⟨running, active, rests⟩
      refine Bool.eq_false_iff.mp unquiet ((quiet_iff t).mpr ⟨?_, ?_, ?_, rests⟩)
      all_goals rw [power]
      · exact running
      · exact active
      · exact supplied
  · rw [if_pos ⟨running, active, rests⟩]
    exact ⟨power, seq⟩

end Rested

/-- What MONITOR is tested against, but for the queue, reports and grants leave. -/
theorem quiet_congr (power : t.power = s.power) (input : t.input = s.input) (off : t.hold.state = .off ↔ s.hold.state = .off)
    (chA : t.chA.state = s.chA.state) (chB : t.chB.state = s.chB.state) (queue : t.bal.queue = [] ↔ s.bal.queue = [])
    (ports : ∀ q, (t.port q).dormant = (s.port q).dormant) : t.quiet = s.quiet := by
  refine Bool.eq_iff_iff.mpr ?_
  rw [quiet_iff, quiet_iff]
  simp only [State.RestsForMonitor, power, input, off, chA, chB, queue, ports]

theorem Reacts.quiet_eq {E : List Effect} (h : Reacts E s t) (nm : .monitor ∉ E) (nA : .chA ∉ E) (nB : .chB ∉ E) (nq : .queue ∉ E) :
    t.quiet = s.quiet :=
  quiet_congr (h.power_eq nm) (Keeps.input h.keeps) h.holdOff_iff (congrArg Channel.state (h.chA_fresh nA) :)
    (congrArg Channel.state (h.chB_linkless nB) :) (by rw [h.queue_eq nq])
    fun q => (congrArg PortState.dormant (Keeps.port h.keeps q) :)

theorem monitorTest_unquiet (s : State) : (monitorTest s).quiet = false := by
  unfold monitorTest
  split
  next quiet =>
    refine Bool.eq_false_iff.mpr fun still => ?_
    obtain ⟨-, active, -⟩ := (quiet_iff _).mp still
    contradiction
  next unquiet => exact Bool.eq_false_iff.mpr unquiet

theorem queueEmptied_unquiet (s : State) : (queueEmptied s).quiet = false := by
  unfold queueEmptied
  split
  · exact monitorTest_unquiet s
  next some =>
    refine Bool.eq_false_iff.mpr fun quiet => ?_
    obtain ⟨-, -, -, -, -, -, -, -, empty, -⟩ := (quiet_iff s).mp quiet
    exact some (List.isEmpty_iff.mpr empty)

theorem lossQueue_eq_nil {cause : LossCause} {now : Nat} {q : List Job} : lossQueue cause now q = [] ↔ q = [] := by
  cases q with
  | nil => exact Iff.rfl
  | cons j rest =>
    rw [lossQueue]
    split <;> exact iff_of_false nofun nofun

/-- Reports, grants and losses do not bring about what MONITOR asks for. -/
theorem unquietRules : LinkRules fun s => s.quiet = false :=
  .of_blind (fun reacts h => (reacts.quiet_eq (by decide) (by decide) (by decide) (by decide)).trans h)
    (fun h => ((linkFollow_reacts _).quiet_eq (by decide) (by decide) (by decide) (by decide)).trans h)
    (fun h _ _ => h) (fun h _ => h) (fun h _ => h) (fun h => h)
    fun {s cause} h => by
      rw [reportLossToEngine_eq]
      exact (quiet_congr (s := s) (t := s.setQueue (lossQueue cause s.now s.bal.queue)) rfl rfl Iff.rfl rfl rfl lossQueue_eq_nil
        fun _ => rfl).trans h

theorem lossTaken_unquiet {s : State} (h : s.quiet = false) (r : Requester) (stands : Bool) : (lossTaken r stands s).quiet = false := by
  have lost : (linkFollow (s.setArb (s.arb.lost s.now r stands))).quiet = false := unquietRules.follows (s := s.setArb _) h
  unfold lossTaken
  dsimp only
  split
  · exact ((reportToB_reacts _ _).quiet_eq (by decide) (by decide) (by decide) (by decide)).trans lost
  · exact lost

end

/-! ### The engine brings nothing about untested -/

section
variable {f : State → State} {s : State}

theorem endHead_unquiet (h : s.quiet = false) (reason : EndReason) : (endHead f reason s).quiet = false := by
  unfold endHead
  split
  · exact h
  · exact queueEmptied_unquiet _

theorem setQueue_unquiet (s : State) (j : Job) (rest : List Job) : (s.setQueue (j :: rest)).quiet = false := by
  refine Bool.eq_false_iff.mpr fun quiet => ?_
  obtain ⟨-, -, -, -, -, -, -, -, empty, -⟩ := (quiet_iff _).mp quiet
  exact List.cons_ne_nil _ _ empty

theorem startChecks_unquiet (s : State) (h : s.quiet = false) : (startChecks s).quiet = false := by
  unfold startChecks
  split
  · exact h
  · split
    · split
      · exact unquietRules.follows (setQueue_unquiet _ _ _)
      · exact endHead_unquiet h _
    · exact h

theorem raiseReq_unquiet (h : s.quiet = false) (r : Requester) : (raiseReq r s).quiet = false :=
  unquietRules.raiseLink startChecks_unquiet h fun _ _ => h

theorem withdrawReq_unquiet (h : s.quiet = false) (r : Requester) : (withdrawReq r s).quiet = false :=
  unquietRules.withdrawLink startChecks_unquiet (fun _ => lossTaken_unquiet h _ _) fun _ => h

theorem lossOf_unquiet (h : s.quiet = false) (cause : LossCause) (r : Requester) : (lossOf cause r s).quiet = false :=
  unquietRules.loseLink_of startChecks_unquiet (lossTaken_unquiet h _ _)

theorem finishHead_unquiet (h : s.quiet = false) (reason : EndReason) : (finishHead reason s).quiet = false := endHead_unquiet h reason

theorem suspendHead_unquiet (h : s.quiet = false) : (suspendHead s).quiet = false := by
  unfold suspendHead
  split
  · exact h
  · split
    · exact h
    · exact withdrawReq_unquiet (setQueue_unquiet _ _ _) _
    · exact withdrawReq_unquiet (unquietRules.follows (setQueue_unquiet _ _ _)) _

theorem releaseHead_unquiet (h : s.quiet = false) : (releaseHead s).quiet = false := by
  unfold releaseHead
  split
  · exact h
  · split
    · exact raiseReq_unquiet (setQueue_unquiet _ _ _) _
    · exact h

theorem engineSample_unquiet (h : s.quiet = false) : (engineSample s).quiet = false := by
  have reported (u : State) (hu : u.quiet = false) : (quantumReport u).quiet = false := by
    unfold quantumReport
    split
    · exact lossOf_unquiet hu _ _
    · exact hu
  have credited (j : Job) (rest : List Job) (c : Bool) :
      (if c then quantumReport (s.setQueue (j :: rest)) else s.setQueue (j :: rest)).quiet = false := by
    split
    · exact reported _ (setQueue_unquiet s j rest)
    · exact setQueue_unquiet s j rest
  unfold engineSample
  split
  · exact h
  · dsimp only
    split
    · exact finishHead_unquiet (credited _ _ _) _
    · exact credited _ _ _

theorem endAll_unquiet (n : Nat) : ∀ {s : State}, s.quiet = false → (endAll n s).quiet = false := by
  induction n with
  | zero => exact id
  | succ n ih => exact fun h => ih (finishHead_unquiet h _)

theorem linkFaultToEngine_unquiet (h : s.quiet = false) : (linkFaultToEngine s).quiet = false := by
  unfold linkFaultToEngine
  split
  · exact h
  · split
    · exact finishHead_unquiet h _
    · exact h

theorem lockLink_unquiet (h : s.quiet = false) : (lockLink s).quiet = false := by
  have ended (u : State) (hu : u.quiet = false) (r : Requester) : (linkFaultToEngine (lossOf .linkFault r u)).quiet = false :=
    linkFaultToEngine_unquiet (lossOf_unquiet hu _ _)
  have locked : (s.setArb { s.arb with faultLock := true }).quiet = false := h
  unfold lockLink
  dsimp only
  split
  · exact ended _ locked _
  · exact locked
  · exact locked

end

end Sys2Proof.Machine
end

section
/-! An event of a channel in full: the walk, the notices, the MONITOR test, and O44 (R94 to R107, R202). -/

namespace Sys2Proof.Machine

/-! ### Exits at an entry, and the walk (R102, R106, R107) -/

/-- R102, R106: at a step's entry the exits are those that do not wait for a timer or a run. -/
theorem passesAt_iff (r : StepRecord) (v : Nat) : r.PassesAt v ↔ exitHolds r v 0 0 = true := by
  obtain ⟨kind, _, volt, _, duration, _, _, _, _⟩ := r
  cases kind <;> simp [StepRecord.PassesAt, exitHolds, Config.taperRun, Config.samplesPerMinute, or_comm]

section
variable {c : Cell} {profile : List StepRecord} {x : Sample}

/-- R106: a step entered after another is as entered at once. -/
theorem Channel.enter_enter (ch : Channel) (n m : Nat) : (ch.enter c profile x n).enter c profile x m = ch.enter c profile x m := rfl

/-- R106: the channel after its walk entering slot n has left k steps. -/
def Channel.passed (c : Cell) (profile : List StepRecord) (x : Sample) (n : Nat) (ch : Channel) : Nat → Channel
  | 0 => ch
  | k + 1 => ch.enter c profile x (chainSlot profile n k)

theorem Channel.enter_passed (ch : Channel) (n k m : Nat) :
    (ch.passed c profile x n k).enter c profile x m = ch.enter c profile x m := by
  cases k with
  | zero => rfl
  | succ k => exact ch.enter_enter _ _

theorem Channel.passed_code (ch : Channel) (n k : Nat) : (ch.passed c profile x n k).code = ch.code := by cases k <;> rfl
theorem Channel.passed_request (ch : Channel) (n k : Nat) : (ch.passed c profile x n k).request = ch.request := by cases k <;> rfl

/-- R107: a walk that leaves its first k steps at once goes on from the slot it comes to. -/
theorem Channel.walk_passed {n k : Nat} {ch : Channel} (passes : PassesThrough profile (x.volt c) n k) (m : Nat) :
    Channel.walk c profile x (m + k) n ch = Channel.walk c profile x m (chainSlot profile n k) (ch.passed c profile x n k) := by
  induction k generalizing m with
  | zero => rfl
  | succ k ih =>
    obtain ⟨step, passesAt⟩ := passes k (List.mem_range.mpr (Nat.lt_succ_self k))
    have before : PassesThrough profile (x.volt c) n k := fun i member =>
      passes i (List.mem_range.mpr (Nat.lt_succ_of_lt (List.mem_range.mp member)))
    have leaves : exitHolds (recordAt profile (chainSlot profile n k)) (x.volt c) 0 0 = true := (passesAt_iff _ _).mp passesAt
    have count : m + (k + 1) = m + 1 + k := by omega
    have step : (recordAt profile (chainSlot profile n k)).kind ≠ .endStep := step
    rw [count, ih before, Channel.walk, if_neg step]
    dsimp only
    rw [Channel.enter_passed]
    exact if_pos leaves

variable {n k : Nat} {ch : Channel} (passes : PassesThrough profile (x.volt c) n k)
include passes

/-- R107: a walk that comes to END after at most three steps. -/
theorem Channel.walk_ends (few : k < 4) (ends : (profile.getD (chainSlot profile n k) StepRecord.ended).kind = .endStep) :
    Channel.walk c profile x Config.walkLimit n ch
      = { (ch.passed c profile x n k).leave .done with slot := some (chainSlot profile n k) } := by
  have count : Config.walkLimit = 3 - k + 1 + k := by simp only [Config.walkLimit]; omega
  rw [count, Channel.walk_passed passes, Channel.walk]
  exact if_pos ends

/-- R107: a walk that comes to a step whose exit does not hold. -/
theorem Channel.walk_stays (few : k < 4) (step : (profile.getD (chainSlot profile n k) StepRecord.ended).kind ≠ .endStep)
    (stays : ¬ (profile.getD (chainSlot profile n k) StepRecord.ended).PassesAt (x.volt c)) :
    Channel.walk c profile x Config.walkLimit n ch = ch.enter c profile x (chainSlot profile n k) := by
  have count : Config.walkLimit = 3 - k + 1 + k := by simp only [Config.walkLimit]; omega
  have step : (recordAt profile (chainSlot profile n k)).kind ≠ .endStep := step
  have holds : exitHolds (recordAt profile (chainSlot profile n k)) (x.volt c) 0 0 = false :=
    Bool.eq_false_iff.mpr (mt (passesAt_iff _ _).mpr stays)
  rw [count, Channel.walk_passed passes, Channel.walk, if_neg step]
  dsimp only
  rw [Channel.enter_passed]
  exact if_neg (Bool.eq_false_iff.mp holds)

omit passes in
/-- R107: a walk that leaves four steps at once. -/
theorem Channel.walk_loops (passes : PassesThrough profile (x.volt c) n 4) :
    Channel.walk c profile x Config.walkLimit n ch = (ch.enter c profile x (chainSlot profile n 3)).fail .chainLoop := by
  have count : Config.walkLimit = 0 + 4 := rfl
  rw [count, Channel.walk_passed passes]
  rfl

omit passes in
/-- R106: a walk that passes through a step has entered one. -/
theorem Change.walk_entered (step : (profile.getD n StepRecord.ended).kind ≠ .endStep) :
    (Change.walk c profile x n ch).entered = true := bne_iff_ne.mpr step

/-- R106: so has one that comes to a step. -/
theorem PassesThrough.enters (some : 0 < k) : (profile.getD n StepRecord.ended).kind ≠ .endStep :=
  (passes 0 (List.mem_range.mpr some)).1

end

/-! ### The event in the part -/

section
variable {c : Cell} {y : Change} {s : State}

/-- R202: an event of a channel that does not make one ACTIVE that was not. -/
theorem commit_rested (stays : (s.channel c).state ≠ .active → y.ch.state ≠ .active) : Rested s (commit c y s) := by
  cases c with
  | a =>
    have changed : Rested s (s.setChannel .a y.ch) := .of_same rfl rfl
      fun ⟨stopped, detached, off, idleA, idleB, empty, asleep⟩ => ⟨stopped, detached, off, stays idleA, idleB, empty, asleep⟩
    exact changed.trans (.of_reacts (commit_a_reacts y s) (by decide) (by decide))
  | b =>
    have changed : Rested s (s.setChannel .b y.ch) := .of_same rfl rfl
      fun ⟨stopped, detached, off, idleA, idleB, empty, asleep⟩ => ⟨stopped, detached, off, idleA, stays idleB, empty, asleep⟩
    have synced (u : State) : Rested u (syncChargeB u) := by
      have asked (b : Bool) : Rested u { u with chB := { u.chB with request := b } } := .of_same rfl rfl fun rests => rests
      unfold syncChargeB
      dsimp only
      split
      · exact .refl u
      · split
        · exact (asked _).trans (.of_reacts (raiseReq_reacts _ _) (by decide) (by decide))
        · exact (asked _).trans (.of_reacts (withdrawReq_reacts _ _) (by decide) (by decide))
    rw [commit_b_eq]
    exact ((changed.trans (.of_reacts (changedB_reacts y s) (by decide) (by decide))).trans (synced _)).trans
      (.of_reacts (settleChange_reacts y _ _) (by decide) (by decide))

theorem syncChargeB_unquiet (h : s.quiet = false) : (syncChargeB s).quiet = false := by
  have asked (b : Bool) : ({ s with chB := { s.chB with request := b } } : State).quiet = false := h
  unfold syncChargeB
  dsimp only
  split
  · exact h
  · split
    · exact raiseReq_unquiet (asked _) _
    · exact withdrawReq_unquiet (asked _) _

theorem handPresented_unquiet (h : s.quiet = false) : (handPresented c s).quiet = false := by
  cases c with
  | a => exact ((takeCharge_reacts _ _).quiet_eq (by decide) (by decide) (by decide) (by decide)).trans h
  | b => exact syncChargeB_unquiet (((linkFollow_reacts _).quiet_eq (by decide) (by decide) (by decide) (by decide)).trans h)

theorem unquiet_of_active {c : Cell} (active : (s.channel c).state = .active) : s.quiet = false := by
  refine Bool.eq_false_iff.mpr fun quiet => ?_
  obtain ⟨-, -, -, -, -, -, idleA, idleB, -⟩ := (quiet_iff s).mp quiet
  cases c with
  | a => exact idleA active
  | b => exact idleB active

/-- R202: an event of a channel leaves nothing to be tested for. -/
theorem commit_unquiet (h : s.quiet = false) : (commit c y s).quiet = false := by
  have told (u : State) (hu : u.quiet = false) (e : State → State) (b : Bool) (k : Notice) (eq : e = raiseIf b (raiseMainHub k)) :
      (e u).quiet = false := by
    subst eq
    exact ((raiseIf_reacts (E := [.notice]) u b fun v => raiseMainHub_reacts v (by decide) _).quiet_eq
      (by decide) (by decide) (by decide) (by decide)).trans hu
  have triggered (u : State) (hu : u.quiet = false) (b : Bool) : (if b then trigger u else u).quiet = false := by
    split
    · exact ((trigger_reacts (E := [.pass]) u (by decide)).quiet_eq (by decide) (by decide) (by decide) (by decide)).trans hu
    · exact hu
  rw [commit_eq, settleChange]
  refine triggered _ ?_ _
  split
  · exact monitorTest_unquiet _
  next stays =>
    refine handPresented_unquiet ?_
    have changed : (s.setChannel c y.ch).quiet = false := by
      by_cases now : y.ch.state = .active
      · exact unquiet_of_active (c := c) ((congrArg Channel.state (setChannel_channel s c y.ch)).trans now)
      · have was : (s.channel c).state ≠ .active := fun active =>
          stays (by rw [active, Bool.and_eq_true, bne_iff_ne]; exact ⟨by decide, now⟩)
        refine Bool.eq_false_iff.mpr fun quiet => Bool.eq_false_iff.mp h ((quiet_iff s).mpr ?_)
        cases c with
        | a =>
          obtain ⟨running, active, supplied, stopped, detached, off, -, idleB, empty, asleep⟩ := (quiet_iff _).mp quiet
          exact ⟨running, active, supplied, stopped, detached, off, was, idleB, empty, asleep⟩
        | b =>
          obtain ⟨running, active, supplied, stopped, detached, off, idleA, -, empty, asleep⟩ := (quiet_iff _).mp quiet
          exact ⟨running, active, supplied, stopped, detached, off, idleA, was, empty, asleep⟩
    exact told _ (told _ changed _ y.entered .chStep rfl) _ y.ended .chEnd rfl

/-- R66: an event that raises a trigger, past LOADING. -/
theorem commit_passWanted (triggers : y.trigger = true) (running : s.power.phase = .running) (on : s.operating = true) :
    PassWanted s (commit c y s) := by
  have handed : Reacts blockEffects s (handPresented c (toldChange c y s)) :=
    (((setChannel_reacts s c y.ch).mono (channelEffects_sub c)).trans ((toldChange_reacts c y s).mono (by decide))).trans
      ((handPresented_reacts _ c).mono (channelEffects_sub c))
  let u := if (s.channel c).state = .active && y.ch.state != .active then monitorTest (handPresented c (toldChange c y s))
    else handPresented c (toldChange c y s)
  have tested : Reacts blockEffects s u := .ite (handed.trans (monitorTest_reacts _ (by decide))) handed
  have settled : commit c y s = trigger u := if_pos triggers
  rw [settled]
  exact tested.passGoesOn.passWanted ((Keeps.phase tested.keeps).trans running) (tested.operating_eq.trans on)

/-- R105, R106: the notices of an event. -/
theorem commit_noticed (c : Cell) (y : Change) (s : State) :
    (y.entered = true → Noticed (commit c y s) .main .chStep ∧ Noticed (commit c y s) .hub .chStep)
      ∧ (y.ended = true → Noticed (commit c y s) .main .chEnd ∧ Noticed (commit c y s) .hub .chEnd) := by
  have after : Reacts blockEffects (toldChange c y s) (commit c y s) :=
    ((handPresented_reacts _ c).mono (channelEffects_sub c)).trans ((settleChange_reacts y _ _).mono (by decide))
  have both (k : Notice) (u : State) : Noticed (raiseMainHub k u) .main k ∧ Noticed (raiseMainHub k u) .hub k :=
    ⟨raiseNotice_keepsNoticed _ _ _ _ _ (raiseNotice_noticed k .main u), raiseNotice_noticed k .hub _⟩
  refine ⟨fun entered => ?_, fun ended => ?_⟩
  · have last (u : State) : Reacts [.notice] u (raiseIf y.ended (raiseMainHub .chEnd) u) :=
      raiseIf_reacts u _ fun v => raiseMainHub_reacts v (by decide) _
    obtain ⟨main, hub⟩ := both .chStep (s.setChannel c y.ch)
    rw [show raiseMainHub .chStep (s.setChannel c y.ch) = raiseIf y.entered (raiseMainHub .chStep) (s.setChannel c y.ch) from
      (if_pos entered).symm] at main hub
    exact ⟨after.noticed ((last _).noticed main), after.noticed ((last _).noticed hub)⟩
  · obtain ⟨main, hub⟩ := both .chEnd (raiseIf y.entered (raiseMainHub .chStep) (s.setChannel c y.ch))
    have raised : toldChange c y s = raiseMainHub .chEnd (raiseIf y.entered (raiseMainHub .chStep) (s.setChannel c y.ch)) :=
      if_pos ended
    rw [← raised] at main hub
    exact ⟨after.noticed main, after.noticed hub⟩

/-- What an event of a channel leaves of the channel: all but the stale mark and, of channel B, what reports of the link and its
request change. -/
theorem commit_linkless (c : Cell) (y : Change) (s : State) : ((commit c y s).channel c).linkless
    = { y.ch.linkless with request := if c = .b then y.ch.wantsLink s.profile else y.ch.request } := by
  cases c with
  | a => exact (congrArg Channel.linkless (commit_a_chA y s) :)
  | b => exact commit_b_chB y s

/-- R94, R98: reports of the link leave alone what a channel that is not ACTIVE presents and holds of reasons. -/
theorem withReasons_of_not_active {ch : Channel} (idle : ch.state ≠ .active) (profile : List StepRecord) (r : Reasons) :
    Change.withReasons .b profile r ch = Change.nothing ch := if_neg idle

end

end Sys2Proof.Machine
end

section
/-! What the engine's operations keep (R138 to R150), channel B while it is not ACTIVE, and O44. -/

namespace Sys2Proof.Machine

/-! ### A property that the engine's operations keep as well -/

/-- A property that the arbiter's and the engine's operations keep, whatever they make of the queue. -/
structure EngineRules (P : State → Prop) : Prop extends LinkRules P where
  queue : ∀ {s}, P s → ∀ q, P (s.setQueue q)
  ending : ∀ {s t}, Reacts [.last, .notice, .monitor] s t → P s → P t
  asks : ∀ {s}, P s → s.arb.link ≠ .held .balance → P (asked .balance s)
  gives : ∀ {s}, P s → s.arb.link = .held .balance → P (lossTaken .balance false s)
  unasks : ∀ {s}, P s → s.arb.link ≠ .held .balance → P (unasked .balance s)

namespace EngineRules
variable {P : State → Prop} (rules : EngineRules P) {f : State → State} (answers : ∀ s, P s → P (f s)) {s : State}

section
include rules answers

theorem raiseBalance (h : P s) : P (raiseLink f .balance s) :=
  rules.toLinkRules.raiseLink answers h fun unheld _ => rules.asks h unheld

theorem withdrawBalance (h : P s) : P (withdrawLink f .balance s) :=
  rules.toLinkRules.withdrawLink answers (rules.gives h) (rules.unasks h)

theorem newHead (h : P s) : P (newHead f s) := by
  unfold Machine.newHead
  split
  · exact h
  · split
    · exact rules.raiseBalance answers (rules.queue h _)
    · exact rules.queue h _

theorem endHead (h : P s) (reason : EndReason) : P (endHead f reason s) := by
  unfold Machine.endHead
  split
  · exact h
  · have emptied (u : State) (hu : P u) : P (queueEmptied u) := rules.ending (queueEmptied_reacts u (by decide)) hu
    have recorded (u : State) (j : Job) (hu : P u) : P (recordEnding j reason u) :=
      rules.ending (recordEnding_reacts u (by decide) (by decide) j reason) hu
    refine emptied _ (rules.newHead answers (recorded _ _ ?_))
    split
    · exact rules.queue h _
    · exact rules.withdrawBalance answers (rules.queue h _)

end

include rules

/-- R139: the start checks, which grant no BALANCE themselves. -/
theorem startChecks (s : State) (h : P s) : P (startChecks s) := by
  unfold Machine.startChecks
  split
  · exact h
  · split
    · split
      · exact rules.follows (rules.queue h _)
      · exact rules.endHead (fun _ => id) h _
    · exact h

theorem raiseReq (h : P s) : P (raiseReq .balance s) := rules.raiseBalance rules.startChecks h
theorem withdrawReq (h : P s) : P (withdrawReq .balance s) := rules.withdrawBalance rules.startChecks h
theorem finishHead (h : P s) (reason : EndReason) : P (finishHead reason s) := rules.endHead rules.startChecks h reason
theorem lossOf {r : Requester} {cause : LossCause} (h : P s) (held : s.arb.link = .held r) (taken : cause ≠ .withdrawal) :
    P (lossOf cause r s) := rules.toLinkRules.loseLink rules.startChecks h held taken

theorem suspendHead (h : P s) : P (suspendHead s) := by
  unfold Machine.suspendHead
  split
  · exact h
  · split
    · exact h
    · exact rules.withdrawReq (rules.queue h _)
    · exact rules.withdrawReq (rules.follows (rules.queue h _))

theorem releaseHead (h : P s) : P (releaseHead s) := by
  unfold Machine.releaseHead
  split
  · exact h
  · split
    · exact rules.raiseReq (rules.queue h _)
    · exact h

theorem quantumReport (h : P s) : P (quantumReport s) := by
  unfold Machine.quantumReport
  split
  next held =>
    rw [Bool.and_eq_true, beq_iff_eq] at held
    exact rules.lossOf h held.2 nofun
  next => exact h

theorem engineSample (h : P s) : P (engineSample s) := by
  have credited (q : List Job) (c : Bool) : P (if c then Machine.quantumReport (s.setQueue q) else s.setQueue q) := by
    split
    · exact rules.quantumReport (rules.queue h q)
    · exact rules.queue h q
  unfold Machine.engineSample
  split
  · exact h
  · dsimp only
    split
    · exact rules.finishHead (credited _ _) _
    · exact credited _ _

theorem endAll (n : Nat) : ∀ {s : State}, P s → P (endAll n s) := by
  induction n with
  | zero => exact id
  | succ n ih => exact fun h => ih (rules.finishHead h _)

theorem linkFaultToEngine (h : P s) : P (linkFaultToEngine s) := by
  unfold Machine.linkFaultToEngine
  split
  · exact h
  · split
    · exact rules.finishHead h _
    · exact h

end EngineRules

/-- A property of the arbiter alone that the engine's requests keep as well. -/
structure BalanceArbRules (p : Arbiter → Prop) : Prop extends ArbRules p where
  asks : ∀ {a}, p a → a.link ≠ .held .balance → p { a with waiting := a.waiting.put .balance true }
  gives : ∀ {a} (now : Nat), p a → a.link = .held .balance → p (a.lost now .balance false)
  unasks : ∀ {a} (y : Bool), p a → a.link ≠ .held .balance →
    p { a with waiting := a.waiting.put .balance false, yieldPending := y }

theorem BalanceArbRules.engineRules {p : Arbiter → Prop} (rules : BalanceArbRules p) : EngineRules fun s => p s.arb where
  toLinkRules := rules.toArbRules.linkRules
  queue h _ := h
  ending reacts h := (congrArg p (reacts.arb_eq (by decide) (by decide))).mpr h
  asks := rules.asks
  gives h held := (congrArg p (linkFollow_arb _)).mpr (rules.gives _ h held)
  unasks := rules.unasks _

/-! ### Channel B while it is not ACTIVE (R94) -/

/-- R94: a report of the link leaves a channel that is not ACTIVE. -/
theorem reportToB_of_idle {s : State} (idle : s.chB.state ≠ .active) (noLink : Bool) : reportToB noLink s = linkFollow s := by
  unfold reportToB
  rw [withReasons_of_not_active idle]
  rfl

/-- Channel B is not ACTIVE, and x but for the stale mark. -/
def IdleB (x : Channel) (s : State) : Prop := s.chB.state ≠ .active ∧ { s.chB with stale := false } = { x with stale := false }

theorem IdleB.reacts {x : Channel} {s t : State} {E : List Effect} (h : IdleB x s) (reacts : Reacts E s t) (nB : .chB ∉ E)
    (nl : .linkB ∉ E) : IdleB x t := by
  have same := reacts.chB_fresh nB nl
  have state : t.chB.state = s.chB.state := (congrArg Channel.state same :)
  exact ⟨state ▸ h.1, same.trans h.2⟩

theorem IdleB.taken {x : Channel} {s : State} (h : IdleB x s) (a : Arbiter) (c : Prop) [Decidable c] (noLink : Bool) :
    IdleB x (if c then reportToB noLink (linkFollow (s.setArb a)) else linkFollow (s.setArb a)) := by
  have followed : IdleB x (linkFollow (s.setArb a)) := IdleB.reacts (s := s.setArb a) h (linkFollow_reacts _) (by decide) (by decide)
  split
  · rw [reportToB_of_idle followed.1]
    exact followed.reacts (linkFollow_reacts _) (by decide) (by decide)
  · exact followed

theorem idleRules (x : Channel) : EngineRules (IdleB x) where
  calm reacts h := h.reacts reacts (by decide) (by decide)
  follows h := h.reacts (linkFollow_reacts _) (by decide) (by decide)
  grants h _ _ := h.taken _ _ _
  loses h _ := h.taken _ _ _
  frees h _ := h
  pends h := h
  told {s cause} h := by
    rw [reportLossToEngine_eq]
    exact h
  queue h _ := h
  ending reacts h := h.reacts reacts (by decide) (by decide)
  asks h _ := h
  gives h _ := h.taken _ _ _
  unasks h _ := h

/-- R99, R105: channel B after an event that leaves it not ACTIVE. -/
theorem commit_b_of_idle {y : Change} (idle : y.ch.state ≠ .active) (s : State) :
    { (commit .b y s).chB with stale := false } = { y.ch with stale := false, request := false } := by
  have wantsNot (profile : List StepRecord) (ch : Channel) (h : ch.state ≠ .active) : ch.wantsLink profile = false := by
    rw [Channel.wantsLink, beq_eq_false_iff_ne.mpr h]
    rfl
  have synced (u : State) (h : IdleB y.ch u) : IdleB { y.ch with request := false } (syncChargeB u) := by
    have unasked : IdleB { y.ch with request := false } { u with chB := { u.chB with request := false } } :=
      ⟨h.1, (congrArg (fun ch : Channel => { ch with request := false }) h.2 :)⟩
    unfold syncChargeB
    dsimp only
    rw [wantsNot _ _ h.1]
    split
    next same =>
      have kept : ({ u with chB := { u.chB with request := false } } : State) = u := by rw [same]
      rwa [kept] at unasked
    next =>
      exact (idleRules _).toLinkRules.withdrawLink (idleRules _).startChecks
        (fun _ => unasked.taken _ _ _) fun _ => unasked
  have changed : IdleB y.ch (changedB y s) := by
    have same := changedB_chB y s
    exact ⟨by rw [show (changedB y s).chB.state = y.ch.state from (congrArg Channel.state same :)]; exact idle, same⟩
  rw [commit_b_eq]
  exact ((synced _ changed).reacts (settleChange_reacts y _ _) (by decide) (by decide)).2

/-- R105: either channel after an event that leaves it not ACTIVE. -/
theorem commit_of_idle (c : Cell) {y : Change} (idle : y.ch.state ≠ .active) (s : State) :
    { (commit c y s).channel c with stale := false }
      = { y.ch with stale := false, request := if c = .b then false else y.ch.request } := by
  cases c with
  | a => exact commit_a_chA y s
  | b => exact commit_b_of_idle idle s

/-! ### The step timers (R102, R103) -/

theorem timedOut_iff (c : Cell) (profile : List StepRecord) (x : Sample) (ch : Channel) : ch.timedOut c profile x = true
    ↔ ch.state = .active ∧ ((ch.step profile).kind = .precharge ∨ (ch.step profile).kind = .current ∨ (ch.step profile).kind = .voltage)
      ∧ (ch.step profile).timeout ≠ 0 ∧ (ch.step profile).timeout * 600 < ch.timer
      ∧ exitHolds (ch.step profile) (x.volt c) ch.timer ch.run = false := by
  have carries (k : StepKind) : k.carriesTimeout = true ↔ k = .precharge ∨ k = .current ∨ k = .voltage := by
    cases k <;> simp [StepKind.carriesTimeout]
  simp only [Channel.timedOut, timeoutHolds, Bool.and_eq_true, beq_iff_eq, Bool.not_eq_true', carries, bne_iff_ne, decide_eq_true_eq]
  simp only [Config.samplesPerMinute]
  tauto

theorem durationOver_iff (profile : List StepRecord) (ch : Channel) : ch.durationOver profile = true
    ↔ ch.state = .active ∧ ((ch.step profile).kind = .topoff ∨ (ch.step profile).kind = .rest)
      ∧ (ch.step profile).duration * 600 ≤ ch.timer := by
  have carries (k : StepKind) : k.carriesDuration = true ↔ k = .topoff ∨ k = .rest := by
    cases k <;> simp [StepKind.carriesDuration]
  simp only [Channel.durationOver, Bool.and_eq_true, beq_iff_eq, carries, decide_eq_true_eq]
  simp only [Config.samplesPerMinute]
  tauto

/-- R66, R202: an event that an ACTIVE channel raises a trigger with. -/
theorem commit_from_active {c : Cell} {y : Change} {s : State} (on : s.operating = true) (running : s.power.phase = .running)
    (active : (s.channel c).state = .active) (triggers : y.trigger = true) :
    PassWanted s (commit c y s) ∧ MonitorTested s (commit c y s) ∧ (commit c y s).outer = s.outer :=
  ⟨commit_passWanted triggers running on,
    (commit_rested fun idle => absurd active idle).tested (commit_unquiet (unquiet_of_active active)) (Bool.and_eq_true_iff.mp on).1,
    (commit_reacts s c y).keeps⟩

/-- Settles O44: each of the events is one of the channel, where its condition holds. -/
theorem stepTimersEnd : Obligations.StepTimersEnd := by
  intro s c on running ch r v after late ended
  have timesOut : exec (.stepTimeout c) s = .next (stepTimesOut c s) := congrArg Host.Outcome.next (if_pos on)
  have runsOut : exec (.stepDurationEnd c) s = .next (stepRunsOut c s) := congrArg Host.Outcome.next (if_pos on)
  have isLate : (s.channel c).timedOut c s.profile s.sample = true ↔ late := timedOut_iff ..
  have isOver : (s.channel c).durationOver s.profile = true ↔ ended := durationOver_iff ..
  refine ⟨fun no => ?_, fun no => ?_, fun yes => ?_, fun yes => ?_⟩
  · rw [timesOut, stepTimesOut, if_neg (mt isLate.mp no)]
  · rw [runsOut]
    exact congrArg Host.Outcome.next (if_neg (mt isOver.mp no))
  · let y := Change.fail (s.channel c) .stepTimeout
    have idle : y.ch.state ≠ .active := nofun
    have left := commit_of_idle c idle s
    refine ⟨commit c y s, ?_, ?_⟩
    · rw [timesOut, stepTimesOut, if_pos (isLate.mpr yes)]
    · obtain ⟨wanted, tested, outer⟩ := commit_from_active (c := c) (y := y) on running yes.1 rfl
      obtain ⟨main, hub⟩ := (commit_noticed c y s).2 rfl
      refine ⟨wanted, tested, outer, (congrArg Channel.state left :), (congrArg Channel.code left :), (congrArg Channel.slot left :),
        (congrArg Channel.presented left :), (congrArg Channel.reasons left :), fun b => ?_, main, hub⟩
      subst b
      exact (congrArg Channel.request left :)
  · let y := Change.walk c s.profile s.sample (ch.step s.profile).next ch
    obtain ⟨wanted, tested, outer⟩ := commit_from_active (c := c) (y := y) on running yes.1 rfl
    have begins : PassesThrough s.profile (s.sample.volt c) r.next 0 := fun _ none => absurd none List.not_mem_nil
    refine ⟨commit c y s, ?_, wanted, tested, outer, fun ends => ?_, fun step stays => ?_⟩
    · rw [runsOut]
      exact congrArg Host.Outcome.next (if_pos (isOver.mpr yes))
    · have walked : y.ch = { ch.leave .done with slot := some r.next } := Channel.walk_ends begins (by decide) ends
      have done : y.ch.state = .done := by rw [walked]; rfl
      have left := commit_of_idle c (by rw [done]; nofun : y.ch.state ≠ .active) s
      have stopped : y.ended = true := by show y.ch.stopped = true; rw [Channel.stopped, done]; rfl
      obtain ⟨main, hub⟩ := (commit_noticed c y s).2 stopped
      exact ⟨(congrArg Channel.state left :).trans done, (congrArg Channel.slot left :).trans (by rw [walked]), main, hub⟩
    · have passesNot : ¬ after.PassesAt (s.sample.volt c) := by
        rw [passesAt_iff]
        exact Bool.eq_false_iff.mp stays
      have walked : y.ch = ch.enter c s.profile s.sample r.next := Channel.walk_stays begins (by decide) step passesNot
      have left := commit_linkless c y s
      obtain ⟨main, hub⟩ := (commit_noticed c y s).1 (Change.walk_entered step)
      refine ⟨(congrArg Channel.state left :).trans ?_, (congrArg Channel.slot left :).trans ?_, (congrArg Channel.timer left :).trans ?_,
        main, hub⟩
      · show y.ch.state = _
        rw [walked]
        exact yes.1
      · show y.ch.slot = _
        rw [walked]
        rfl
      · show y.ch.timer = _
        rw [walked]
        rfl

end Sys2Proof.Machine
end

section
/-! CH_STOP and CH_START (R109, R110): O40 and O39. -/

namespace Sys2Proof.Machine

/-! ### A port that asks is awake (R202) -/

section
variable {s t : State} {p : Port}

theorem not_quiet_of_awake (awake : (s.port p).dormant = false) : s.quiet = false := by
  refine Bool.eq_false_iff.mpr fun quiet => ?_
  obtain ⟨-, -, -, -, -, -, -, -, -, asleep⟩ := (quiet_iff s).mp quiet
  have dormant := asleep p (by cases p <;> decide)
  rw [awake] at dormant
  contradiction

/-- R202: while a port is awake, MONITOR is not entered. -/
theorem Reacts.awake {E : List Effect} (h : Reacts E s t) (awake : (s.port p).dormant = false) : t.power = s.power ∧ t.seq = s.seq := by
  refine (h.rel (fun s t => (s.port p).dormant = false → (t.port p).dormant = false ∧ t.power = s.power ∧ t.seq = s.seq)
    (fun _ a => ⟨a, rfl, rfl⟩) (fun _ _ _ f g a => ?_) (fun e _ v w touch a => ?_) awake).2
  · obtain ⟨first, power, seq⟩ := f a
    obtain ⟨second, power', seq'⟩ := g first
    exact ⟨second, power'.trans power, seq'.trans seq⟩
  · have outer : w.outer = v.outer := touch.outer
    refine ⟨(congrArg PortState.dormant (Keeps.port (s := v) (t := w) outer p) :).trans a, ?_⟩
    by_cases monitor : e = .monitor
    · subst monitor
      cases touch
      rw [monitorTest, if_neg (by rw [not_quiet_of_awake a]; decide)]
      exact ⟨rfl, rfl⟩
    · exact ⟨touch.power_eq monitor, touch.seq_eq monitor⟩

theorem handedOver_awake (i : Instr) (h : Hands s p) : ((handedOver p i s).port p).dormant = false := by
  have still := handedOver_still p i s h
  have dormant (u : State) : (u.still.port p).dormant = (u.port p).dormant := by cases p <;> rfl
  rw [← dormant, still]
  show ((s.still.ports.set p _).get p).dormant = false
  cases p <;> rfl

theorem handReply_answers (code : ReplyCode) (l : List Byte) (u : State) : Answers (handReply p code l u) p code l := by
  cases p <;> rfl

theorem handReply_outer (code : ReplyCode) (l : List Byte) (u : State) :
    (handReply p code l u).outer = { u.outer with ports := (handReply p code l u).outer.ports } := by
  cases p <;> rfl

theorem handReply_noticed {code : ReplyCode} {l : List Byte} {u : State} {q : Port} {k : Notice} (h : Noticed u q k) :
    Noticed (handReply p code l u) q k := by
  cases p <;> cases q <;> exact h

/-- The frame of a request: what its block's reactions and its reply leave. -/
theorem handReply_frame {u v : State} (kept : Keeps u v) (code : ReplyCode) (l : List Byte) :
    (handReply p code l v).outer = { u.outer with ports := (handReply p code l v).outer.ports } := by
  have same : v.outer = u.outer := kept
  rw [← same]
  exact handReply_outer code l v

end

/-! ### The other channel, and an event that changes nothing -/

section
variable (y : Change) (s : State)

theorem commit_a_other : { (commit .a y s).chB with stale := s.chB.stale } = s.chB :=
  (congrArg (fun ch : Channel => { ch with stale := s.chB.stale }) (commit_a_chB y s) :)

theorem commit_b_other : { (commit .b y s).chA with stale := s.chA.stale } = s.chA :=
  (congrArg (fun ch : Channel => { ch with stale := s.chA.stale }) (commit_b_chA y s) :)

/-- An event that leaves channel A as it was, its stage in line with it. -/
theorem commit_a_nothing (stage : s.pathA.stage.target = s.chA.presented) : commit .a (Change.nothing s.chA) s = s := by
  have charged : takeCharge s.chA.presented s = s := by
    rw [takeCharge, if_pos]
    rw [stage, beq_self_eq_true, Bool.or_true]
  have stays : settleChange (Change.nothing s.chA) s.chA.state s = s := by
    simp [settleChange, Change.nothing]
  rw [commit_eq]
  refine Eq.trans ?_ stays
  exact congrArg (settleChange (Change.nothing s.chA) s.chA.state) charged

/-- An event that leaves channel B as it was, the link and its request in line with it. -/
theorem commit_b_nothing (stage : s.linkStage.target = s.linkTarget) (wants : s.chB.wantsLink s.profile = s.chB.request) :
    commit .b (Change.nothing s.chB) s = s := by
  have followed : linkFollow s = s := by rw [linkFollow, if_pos stage.symm]
  have synced : syncChargeB s = s := by
    unfold syncChargeB
    exact if_pos wants
  have stays : settleChange (Change.nothing s.chB) s.chB.state s = s := by
    simp [settleChange, Change.nothing]
  have handed : syncChargeB (linkFollow s) = s := by rw [followed, synced]
  rw [commit_b_eq]
  refine Eq.trans ?_ stays
  exact congrArg (settleChange (Change.nothing s.chB) s.chB.state) handed

end

theorem cellOf_eq {cell : Nat} {c : Cell} (named : cell = if c = .a then 0 else 1) : cellOf cell = some c := by
  subst named
  cases c <;> rfl

theorem cellOf_none {cell : Nat} (unlisted : 2 ≤ cell) : cellOf cell = none := by
  match cell, unlisted with
  | n + 2, _ => rfl

/-! ### CH_STOP (R110) -/

theorem exec_chStop {s : State} {p : Port} (cell : Nat) (h : Hands s p) (ne : p ≠ .input) :
    exec (.chStop p (Framing.ofLength 1) cell) s
      = .next (takeChStop p cell (handedOver p (.chStop p (Framing.ofLength 1) cell) s)) :=
  exec_handed (r := .chStop) rfl s h (by cases p <;> first | rfl | contradiction)

/-- R110: a stop of a channel that is not IDLE. -/
theorem Change.stop_of_not_idle {ch : Channel} (busy : ch.state ≠ .idle) : Change.stop ch =
    { ch := { (if ch.state = .active then ch.leave .idle else ch) with state := .idle, slot := none, code := .none }
      entered := false, ended := false, trigger := true } := by
  unfold Change.stop
  cases state : ch.state with
  | idle => contradiction
  | active => rfl
  | done => rfl
  | fault => rfl

/-- Settles O40: the stop is one event of the channel. -/
theorem channelStops : Obligations.ChannelStops := by
  intro s p cell h ne i u
  have ran : exec i s = .next (takeChStop p cell u) := exec_chStop cell h ne
  refine ⟨fun unlisted => ?_, fun c member named => ⟨fun idle stageA stageB => ?_, fun busy => ?_⟩⟩
  · rw [ran, takeChStop, cellOf_none unlisted]
    rfl
  · rw [ran, takeChStop, cellOf_eq named]
    have stop : Change.stop (u.channel c) = Change.nothing (u.channel c) := by rw [Change.stop, idle]
    have same : commit c (Change.nothing (u.channel c)) u = u := by
      cases c with
      | a => exact commit_a_nothing u (stageA rfl)
      | b =>
        obtain ⟨stage, request⟩ := stageB rfl
        have wantsNot : u.chB.wantsLink u.profile = false := by
          rw [Channel.wantsLink, show u.chB.state = .idle from idle]
          rfl
        exact commit_b_nothing u stage (wantsNot.trans request.symm)
    show Host.Outcome.next (handReply p .ok _ (commit c (Change.stop (u.channel c)) u)) = _
    rw [stop, same, idle]
    rfl
  · let y := Change.stop (u.channel c)
    let v := commit c y u
    have stops := Change.stop_of_not_idle busy
    have idle : y.ch.state = .idle := by show (Change.stop _).ch.state = _; rw [stops]
    have left := commit_of_idle c (y := y) (by rw [idle]; nofun) u
    have reacts : Reacts (channelEffects c) u v := commit_reacts u c y
    have trig : y.trigger = true := by show (Change.stop _).trigger = true; rw [stops]
    have wanted : PassWanted u v := commit_passWanted trig (handedOver_running p i s h) (handedOver_operating p i s h.1.1)
    obtain ⟨power, seq⟩ := reacts.awake (handedOver_awake i h)
    let stopped : Channel := { (if (u.channel c).state = .active then (u.channel c).leave .idle else u.channel c) with
      state := .idle, slot := none, code := .none }
    have shape : { v.channel c with stale := false }
        = { stopped with stale := false, request := if c = .b then false else y.ch.request } := by
      rw [left, show y.ch = stopped from congrArg Change.ch stops]
    refine ⟨handReply p .ok (bytesOf 1 (u.channel c).state.code) v, ?_, wanted, handReply_answers .ok _ v,
      (congrArg Channel.state shape :), (congrArg Channel.slot shape :), (congrArg Channel.code shape :),
      (congrArg Channel.timer shape :).trans ?_, (congrArg Channel.run shape :).trans ?_, fun active => ?_, fun b => ?_, fun a => ?_,
      fun b => ?_, power, seq, handReply_frame reacts.keeps .ok _⟩
    · rw [ran, takeChStop, cellOf_eq named]
    · show (if (u.channel c).state = .active then _ else _ : Channel).timer = _
      split <;> rfl
    · show (if (u.channel c).state = .active then _ else _ : Channel).run = _
      split <;> rfl
    · have leaves : stopped = { (u.channel c).leave .idle with slot := none, code := .none } := by
        exact congrArg (fun ch : Channel => { ch with state := .idle, slot := none, code := .none })
          (if_pos active : (if (u.channel c).state = .active then (u.channel c).leave .idle else u.channel c) = _)
      rw [leaves] at shape
      exact ⟨(congrArg Channel.reasons shape :), (congrArg Channel.presented shape :)⟩
    · subst b
      exact (congrArg Channel.request shape :)
    · subst a
      exact commit_a_other y u
    · subst b
      exact commit_b_other y u

end Sys2Proof.Machine
end

section
/-! Channel B while it is ACTIVE: NO_LINK follows the holder (R94, R95, R98); CH_START (R109), O39. -/

namespace Sys2Proof.Machine

/-! ### NO_LINK follows the holder -/

/-- An ACTIVE channel B holds NO_LINK exactly where CHARGE_B does not hold the link, and presents the smaller of its published
setpoint and its demand. -/
def FollowsB (s : State) : Prop :=
  s.chB.state = .active → s.chB.reasons.noLink = decide (s.arb.holder ≠ some .chargeB) ∧ s.chB.Presents .b s.profile

theorem holder_chargeB (a : Arbiter) : a.holder = some .chargeB ↔ a.link = .held .chargeB := by
  unfold Arbiter.holder
  cases link : a.link with
  | held r => simp
  | free => simp
  | changeover => simp

section
variable {s t : State}

theorem FollowsB.congr (h : FollowsB s) (chB : { t.chB with stale := false } = { s.chB with stale := false })
    (holder : t.arb.link = .held .chargeB ↔ s.arb.link = .held .chargeB) (profile : t.profile = s.profile) : FollowsB t := by
  intro active
  have state : t.chB.state = s.chB.state := (congrArg Channel.state chB :)
  obtain ⟨noLink, presents⟩ := h (state.symm.trans active)
  refine ⟨?_, ?_⟩
  · rw [show t.chB.reasons = s.chB.reasons from (congrArg Channel.reasons chB :), noLink]
    exact decide_eq_decide.mpr (not_congr (((holder_chargeB _).trans holder.symm).trans (holder_chargeB _).symm))
  · unfold Channel.Presents at *
    rw [profile, show t.chB.presented = s.chB.presented from (congrArg Channel.presented chB :),
      show t.chB.published = s.chB.published from (congrArg Channel.published chB :), presents]
    exact congrArg (min s.chB.published) (congrArg (Channel.demand .b s.profile) chB :).symm

theorem FollowsB.reacts {E : List Effect} (h : FollowsB s) (reacts : Reacts E s t) (nB : .chB ∉ E) (nb : .linkB ∉ E) (na : .arb ∉ E)
    (nl : .lock ∉ E) : FollowsB t :=
  h.congr (reacts.chB_fresh nB nb) (by rw [reacts.arb_eq na nl]) (Keeps.profile reacts.keeps)

/-- R94: after a report of the link, NO_LINK is as reported. -/
theorem followsB_reported {noLink : Bool} (holder : s.arb.link = .held .chargeB ↔ noLink = false) : FollowsB (reportToB noLink s) := by
  let ch := (Change.withReasons .b s.profile { s.chB.reasons with noLink := noLink } s.chB).ch
  have changed : FollowsB { s with chB := ch } := by
    intro active
    have was : s.chB.state = .active := by
      by_contra idle
      have same : ch = s.chB := by
        show (Change.withReasons .b s.profile _ s.chB).ch = _
        rw [withReasons_of_not_active idle]
        rfl
      exact idle (by rw [← same]; exact active)
    have reasoned : ch = ({ s.chB with reasons := { s.chB.reasons with noLink := noLink } } : Channel).represent .b s.profile := by
      show (Change.withReasons .b s.profile _ s.chB).ch = _
      rw [Change.withReasons, if_pos was]
      rfl
    refine ⟨?_, ?_⟩
    · have told : decide (s.arb.holder ≠ some .chargeB) = noLink := by
        rw [Bool.eq_iff_iff, decide_eq_true_iff, ne_eq, holder_chargeB, holder, Bool.not_eq_false]
      refine Eq.trans ?_ told.symm
      show ch.reasons.noLink = noLink
      rw [reasoned]
      rfl
    · show ch.Presents .b s.profile
      rw [reasoned]
      rfl
  have followed : FollowsB (linkFollow { s with chB := ch }) :=
    changed.reacts (linkFollow_reacts _) (by decide) (by decide) (by decide) (by decide)
  unfold reportToB
  dsimp only
  split
  · exact followed.reacts (trigger_reacts (E := [.pass]) _ (by decide)) (by decide) (by decide) (by decide) (by decide)
  · exact followed

theorem FollowsB.linkFollow (h : FollowsB s) : FollowsB (linkFollow s) :=
  h.reacts (linkFollow_reacts s) (by decide) (by decide) (by decide) (by decide)

theorem FollowsB.setArb (h : FollowsB s) {a : Arbiter} (holder : a.link = .held .chargeB ↔ s.arb.link = .held .chargeB) :
    FollowsB (s.setArb a) := FollowsB.congr (s := s) (t := s.setArb a) h rfl holder rfl

/-- R94, R122: a loss tells channel B where CHARGE_B is the loser. -/
theorem FollowsB.lost {r : Requester} (h : FollowsB s) (held : s.arb.link = .held r) (stands : Bool) :
    FollowsB (lossTaken r stands s) := by
  unfold lossTaken
  dsimp only
  split
  next own =>
    refine followsB_reported ?_
    rw [linkFollow_arb]
    show (s.arb.lost _ r stands).link = _ ↔ _
    rw [lost_link]
    exact iff_of_false nofun nofun
  next other =>
    refine FollowsB.linkFollow (h.setArb ?_)
    rw [lost_link, held]
    exact iff_of_false nofun fun same => other (LinkState.held.inj same)

theorem followsRules : EngineRules FollowsB where
  calm reacts h := h.reacts reacts (by decide) (by decide) (by decide) (by decide)
  follows h := h.linkFollow
  grants {s r} h unheld _ := by
    unfold grantTaken
    dsimp only
    split
    next own =>
      refine followsB_reported ?_
      rw [linkFollow_arb]
      show (s.arb.granted _ _ r).link = _ ↔ _
      rw [granted_link, own]
      exact iff_of_true rfl rfl
    next other =>
      refine FollowsB.linkFollow (h.setArb ?_)
      rw [granted_link]
      exact iff_of_false (fun same => other (LinkState.held.inj same)) (unheld.not_held _)
  loses h held := h.lost held true
  frees h changing := h.setArb (iff_of_false nofun (by rw [changing]; nofun))
  pends h := h.setArb Iff.rfl
  told {s cause} h := by
    rw [reportLossToEngine_eq]
    exact FollowsB.congr (s := s) h rfl Iff.rfl rfl
  queue h _ := FollowsB.congr h rfl Iff.rfl rfl
  ending reacts h := h.reacts reacts (by decide) (by decide) (by decide) (by decide)
  asks h _ := h.setArb Iff.rfl
  gives h held := h.lost held false
  unasks h _ := h.setArb Iff.rfl

/-- R99: the request is brought in line without NO_LINK getting out of step. -/
theorem FollowsB.syncChargeB (h : FollowsB s) : FollowsB (syncChargeB s) := by
  have asked (b : Bool) : FollowsB { s with chB := { s.chB with request := b } } := h
  unfold Machine.syncChargeB
  dsimp only
  split
  · exact h
  · split
    · exact followsRules.toLinkRules.raiseLink followsRules.startChecks (asked _) fun _ _ => (asked _).setArb Iff.rfl
    · exact followsRules.toLinkRules.withdrawLink followsRules.startChecks (fun held => (asked _).lost held false)
        fun _ => (asked _).setArb Iff.rfl

theorem FollowsB.commit_b {y : Change} (h : y.ch.state = .active → y.ch.reasons.noLink = decide (s.arb.holder ≠ some .chargeB)
    ∧ y.ch.Presents .b s.profile) : FollowsB (commit .b y s) := by
  have changed : FollowsB (s.setChannel .b y.ch) := h
  rw [commit_b_eq]
  exact ((changed.reacts (changedB_reacts y s) (by decide) (by decide) (by decide) (by decide)).syncChargeB).reacts
    (settleChange_reacts y _ _) (by decide) (by decide) (by decide) (by decide)

end

/-! ### CH_START (R109) -/

/-- R107: a walk that comes to FAULT does so with CHAIN_LOOP. -/
theorem Channel.walk_fault {c : Cell} {profile : List StepRecord} {x : Sample} (k : Nat) : ∀ {n : Nat} {ch : Channel},
    ch.state = .active → (Channel.walk c profile x k n ch).state = .fault → (Channel.walk c profile x k n ch).code = .chainLoop := by
  induction k with
  | zero => exact fun _ _ => rfl
  | succ k ih =>
    intro n ch active
    rw [Channel.walk]
    split
    · exact nofun
    · dsimp only
      split
      · exact ih active
      · intro fault
        rw [show (ch.enter c profile x n).state = .active from active] at fault
        contradiction

/-- R95: an entry judges TEMP alone of the reasons. -/
theorem Channel.walk_noLink {c : Cell} {profile : List StepRecord} {x : Sample} (k : Nat) : ∀ {n : Nat} {ch : Channel},
    (Channel.walk c profile x k n ch).state = .active → (Channel.walk c profile x k n ch).reasons.noLink = ch.reasons.noLink := by
  induction k with
  | zero => exact fun active => nomatch active
  | succ k ih =>
    intro n ch
    rw [Channel.walk]
    split
    · exact nofun
    · dsimp only
      split
      · exact ih
      · exact fun _ => rfl

theorem exec_chStart {s : State} {p : Port} (cell slot : Nat) (h : Hands s p) (ne : p ≠ .input) :
    exec (.chStart p (Framing.ofLength 2) cell slot) s
      = .next (takeChStart p cell slot (handedOver p (.chStart p (Framing.ofLength 2) cell slot) s)) :=
  exec_handed (r := .chStart) rfl s h (by cases p <;> first | rfl | contradiction)

/-- R99: whether an ACTIVE channel in a step wants the link. -/
theorem Channel.wantsLink_eq {ch : Channel} {profile : List StepRecord} (active : ch.state = .active)
    (step : (ch.step profile).kind ≠ .endStep) : ch.wantsLink profile = decide ((ch.step profile).kind ≠ .rest ∧ ch.reasons.hold = false
      ∧ ch.reasons.temp = false ∧ ch.reasons.noInput = false ∧ ch.reasons.deficit = false ∧ ch.reasons.dieHot = false) := by
  have charges (k : StepKind) (h : k ≠ .endStep) : k.charging = decide (k ≠ .rest) := by cases k <;> first | rfl | contradiction
  rw [Channel.wantsLink, active, charges _ step, Reasons.stopsRequest]
  simp only [Bool.decide_and, Bool.not_or, Bool.and_assoc]
  cases ch.reasons.hold <;> cases ch.reasons.temp <;> cases ch.reasons.noInput <;> cases ch.reasons.deficit <;>
    cases ch.reasons.dieHot <;> simp

/-- R95, R109: a channel as a start of it begins its walk. -/
def startedAs (c : Cell) (u : State) : Channel :=
  { u.channel c with
    state := .active, slot := none, code := .none, reasons := u.causes c, timer := 0, run := 0
    published := if (u.channel c).stale then 0 else (u.channel c).published }

section
variable {c : Cell} {slot k : Nat} {u : State}

theorem Change.walk_ended {profile : List StepRecord} {x : Sample} {ch : Channel} {st : ChannelState} (stops : st = .done ∨ st = .fault)
    (is : (Change.walk c profile x slot ch).ch.state = st) : (Change.walk c profile x slot ch).ended = true := by
  show (Change.walk c profile x slot ch).ch.stopped = true
  rw [Channel.stopped, is]
  rcases stops with rfl | rfl <;> rfl

/-- R105, R107: a start whose walk comes to END. -/
theorem startChannel_ends (passes : PassesThrough u.profile (u.sample.volt c) slot k) (few : k < 4)
    (ends : (u.profile.getD (chainSlot u.profile slot k) StepRecord.ended).kind = .endStep) :
    let v := startChannel c slot u
    (v.channel c).state = .done ∧ (v.channel c).slot = some (chainSlot u.profile slot k) ∧ (v.channel c).code = .none
      ∧ (v.channel c).reasons = Reasons.none ∧ (v.channel c).presented = 0 ∧ Noticed v .main .chEnd ∧ Noticed v .hub .chEnd := by
  intro v
  let y := Change.walk c u.profile u.sample slot (startedAs c u)
  have walked : y.ch = { ((startedAs c u).passed c u.profile u.sample slot k).leave .done with slot := some (chainSlot u.profile slot k) } :=
    Channel.walk_ends passes few ends
  have done : y.ch.state = .done := by rw [walked]; rfl
  have left : { v.channel c with stale := false } = { y.ch with stale := false, request := if c = .b then false else y.ch.request } :=
    commit_of_idle c (y := y) (by rw [done]; nofun) u
  rw [walked] at left
  refine ⟨(congrArg Channel.state left :), (congrArg Channel.slot left :), (congrArg Channel.code left :).trans ?_,
    (congrArg Channel.reasons left :), (congrArg Channel.presented left :), (commit_noticed c y u).2 (Change.walk_ended (.inl rfl) done)⟩
  exact Channel.passed_code _ slot k

/-- R107: a start whose walk is given up. -/
theorem startChannel_loops (passes : PassesThrough u.profile (u.sample.volt c) slot 4) :
    let v := startChannel c slot u
    (v.channel c).state = .fault ∧ (v.channel c).code = .chainLoop ∧ (v.channel c).slot = some (chainSlot u.profile slot 3)
      ∧ (v.channel c).reasons = Reasons.none ∧ (v.channel c).presented = 0
      ∧ Noticed v .main .chStep ∧ Noticed v .hub .chStep ∧ Noticed v .main .chEnd ∧ Noticed v .hub .chEnd := by
  intro v
  let y := Change.walk c u.profile u.sample slot (startedAs c u)
  have walked : y.ch = ((startedAs c u).enter c u.profile u.sample (chainSlot u.profile slot 3)).fail .chainLoop :=
    Channel.walk_loops passes
  have failed : y.ch.state = .fault := by rw [walked]; rfl
  have left : { v.channel c with stale := false } = { y.ch with stale := false, request := if c = .b then false else y.ch.request } :=
    commit_of_idle c (y := y) (by rw [failed]; nofun) u
  rw [walked] at left
  obtain ⟨main, hub⟩ := (commit_noticed c y u).1 (Change.walk_entered (PassesThrough.enters passes (by decide)))
  exact ⟨(congrArg Channel.state left :), (congrArg Channel.code left :), (congrArg Channel.slot left :),
    (congrArg Channel.reasons left :), (congrArg Channel.presented left :), main, hub,
    (commit_noticed c y u).2 (Change.walk_ended (.inr rfl) failed)⟩

/-- R105, R107: a start that comes to FAULT. -/
theorem startChannel_fault (fault : ((startChannel c slot u).channel c).state = .fault) :
    let v := startChannel c slot u
    (v.channel c).code = .chainLoop ∧ Noticed v .main .chEnd ∧ Noticed v .hub .chEnd := by
  intro v
  let y := Change.walk c u.profile u.sample slot (startedAs c u)
  have linkless := commit_linkless c y u
  have failed : y.ch.state = .fault := (congrArg Channel.state linkless :).symm.trans fault
  exact ⟨(congrArg Channel.code linkless :).trans (Channel.walk_fault _ rfl failed),
    (commit_noticed c y u).2 (Change.walk_ended (.inr rfl) failed)⟩

/-- R98: what channel A presents after an event. -/
theorem commit_a_presents {y : Change} (presents : y.ch.Presents .a u.profile) : (commit .a y u).chA.Presents .a u.profile := by
  have same := commit_a_chA y u
  exact ((congrArg Channel.presented same :).trans presents).trans
    (congrArg (fun ch : Channel => min ch.published (ch.demand .a u.profile)) same.symm :)

/-- R94, R95, R98: NO_LINK and the presented setpoint after an event that leaves the channel ACTIVE. -/
theorem commit_inStep {y : Change} (active : y.ch.state = .active) (presents : y.ch.Presents c u.profile)
    (causes : y.ch.reasons.noLink = (u.causes c).noLink) :
    ((commit c y u).channel c).reasons.noLink = decide (c = .b ∧ (commit c y u).arb.holder ≠ some .chargeB)
      ∧ ((commit c y u).channel c).Presents c u.profile := by
  cases c with
  | a => exact ⟨(congrArg (·.reasons.noLink) (commit_a_chA y u) :).trans causes, commit_a_presents presents⟩
  | b =>
    have told : (u.causes .b).noLink = decide (u.arb.holder ≠ some .chargeB) := by
      rw [Bool.eq_iff_iff, decide_eq_true_iff]
      exact bne_iff_ne
    have follows : FollowsB (commit .b y u) := FollowsB.commit_b fun _ => ⟨causes.trans told, presents⟩
    have state : (commit .b y u).chB.state = y.ch.state := (congrArg Channel.state (commit_linkless .b y u) :)
    obtain ⟨noLink, presents⟩ := follows (state.trans active)
    rw [Keeps.profile (commit_reacts u .b y).keeps] at presents
    exact ⟨noLink.trans (by simp), presents⟩

/-- R95, R97, R99, R106: a start whose walk comes to a step that it stays in. -/
theorem startChannel_stays (passes : PassesThrough u.profile (u.sample.volt c) slot k) (few : k < 4) :
    let v := startChannel c slot u
    let n := chainSlot u.profile slot k
    let r := u.profile.getD n StepRecord.ended
    r.kind ≠ .endStep → ¬ r.PassesAt (u.sample.volt c) →
    (v.channel c).state = .active ∧ (v.channel c).slot = some n ∧ (v.channel c).code = .none
      ∧ (v.channel c).timer = 0 ∧ (v.channel c).run = 0
      ∧ (v.channel c).reasons.hold = decide (u.hold.state ≠ .off)
      ∧ (v.channel c).reasons.temp = decide (u.sample.temp c < r.cold * 10 ∨ r.hot * 10 ≤ u.sample.temp c)
      ∧ (v.channel c).reasons.noInput = (u.alloc.published && decide (u.alloc.record.pBud = 0))
      ∧ (v.channel c).reasons.deficit = (u.alloc.published && decide (0 < u.alloc.record.deficit))
      ∧ (v.channel c).reasons.dieHot = u.prot.device.dieHot ∧ (v.channel c).reasons.starved = false
      ∧ (v.channel c).reasons.noLink = decide (c = .b ∧ v.arb.holder ≠ some .chargeB)
      ∧ (v.channel c).Presents c u.profile
      ∧ (c = .b → v.chB.request = decide (r.kind ≠ .rest ∧ v.chB.reasons.hold = false ∧ v.chB.reasons.temp = false
          ∧ v.chB.reasons.noInput = false ∧ v.chB.reasons.deficit = false ∧ v.chB.reasons.dieHot = false))
      ∧ Noticed v .main .chStep ∧ Noticed v .hub .chStep := by
  intro v n r step stays
  let y := Change.walk c u.profile u.sample slot (startedAs c u)
  have walked : y.ch = (startedAs c u).enter c u.profile u.sample n := Channel.walk_stays passes few step stays
  have active : y.ch.state = .active := by rw [walked]; rfl
  have presents : y.ch.Presents c u.profile := by rw [walked]; rfl
  obtain ⟨noLink, presented⟩ := commit_inStep active presents (Channel.walk_noLink _ active)
  have linkless : (v.channel c).linkless = { y.ch.linkless with request := if c = .b then y.ch.wantsLink u.profile else y.ch.request } :=
    commit_linkless c y u
  have firstStep : (u.profile.getD slot StepRecord.ended).kind ≠ .endStep := by
    cases k with
    | zero => exact step
    | succ k => exact PassesThrough.enters passes (Nat.succ_pos k)
  have field {β : Type} (f : Channel → β) (blind : ∀ ch : Channel, f ch.linkless = f ch)
      (unasked : ∀ (ch : Channel) b, f { ch with request := b } = f ch) :
      f (v.channel c) = f ((startedAs c u).enter c u.profile u.sample n) := by
    rw [← blind (v.channel c), linkless, unasked, blind, walked]
  refine ⟨field Channel.state (fun _ => rfl) (fun _ _ => rfl), field Channel.slot (fun _ => rfl) (fun _ _ => rfl),
    field Channel.code (fun _ => rfl) (fun _ _ => rfl), field Channel.timer (fun _ => rfl) (fun _ _ => rfl),
    field Channel.run (fun _ => rfl) (fun _ _ => rfl), ?_, ?_,
    field (·.reasons.noInput) (fun _ => rfl) (fun _ _ => rfl), field (·.reasons.deficit) (fun _ => rfl) (fun _ _ => rfl),
    field (·.reasons.dieHot) (fun _ => rfl) (fun _ _ => rfl), field (·.reasons.starved) (fun _ => rfl) (fun _ _ => rfl), noLink, presented,
    fun b => ?_, (commit_noticed c y u).1 (Change.walk_entered firstStep)⟩
  · refine (field (·.reasons.hold) (fun _ => rfl) (fun _ _ => rfl)).trans ?_
    show (u.hold.state != .off) = _
    exact Bool.eq_iff_iff.mpr (by rw [bne_iff_ne, decide_eq_true_iff])
  · refine (field (·.reasons.temp) (fun _ => rfl) (fun _ _ => rfl)).trans ?_
    show outsideWindow r.cold r.hot (u.sample.temp c) = _
    rw [outsideWindow, Bool.decide_or]
  · subst b
    have now : v.chB.state = .active := field Channel.state (fun _ => rfl) (fun _ _ => rfl)
    have same : v.chB.step u.profile = r := field (Channel.step u.profile) (fun _ => rfl) (fun _ _ => rfl)
    have asks : v.chB.request = v.chB.wantsLink u.profile :=
      (congrArg Channel.request linkless :).trans (congrArg (Channel.wantsLink u.profile) linkless :).symm
    rw [asks, Channel.wantsLink_eq now (by rw [same]; exact step), same]

end

theorem handReply_channel (p : Port) (code : ReplyCode) (l : List Byte) (u : State) (c : Cell) :
    (handReply p code l u).channel c = u.channel c := by cases c <;> rfl

/-- Settles O39: the start is one event of the channel, and its walk is read off the profile. -/
theorem channelStarts : Obligations.ChannelStarts := by
  intro s p cell slot h ne i u x
  have ran : exec i s = .next (takeChStart p cell slot u) := exec_chStart cell slot h ne
  refine ⟨fun unlisted => ?_, fun c member named within => ?_⟩
  · rw [ran, takeChStart]
    rcases unlisted with cell | slot
    · rw [cellOf_none cell]
      rfl
    · split
      · rfl
      · exact congrArg Host.Outcome.next (if_pos slot)
  intro latched
  have judged : exec i s = .next (judgeStart p c slot u) := by
    rw [ran, takeChStart, cellOf_eq named]
    exact congrArg Host.Outcome.next (if_neg (Nat.not_le.mpr within))
  refine ⟨fun active => ?_, fun idle out => ?_, fun idle clear => ?_⟩
  · rw [judged, judgeStart, if_pos active]
    rfl
  · rw [judged, judgeStart, if_neg idle]
    exact congrArg Host.Outcome.next (if_pos out)
  let v := startChannel c slot u
  have reacts : Reacts (channelEffects c) u v := startChannel_reacts u c slot
  have wanted : PassWanted u v := commit_passWanted rfl (handedOver_running p i s h) (handedOver_operating p i s h.1.1)
  have accepted : exec i s = .next (handReply p .ok (startReply (v.channel c)) v) := by
    rw [judged, judgeStart, if_neg idle]
    exact congrArg Host.Outcome.next (if_neg (Bool.eq_false_iff.mp clear))
  have answers : Answers (handReply p .ok (startReply (v.channel c)) v) p .ok (startReply (v.channel c)) := handReply_answers ..
  have frame := handReply_frame (p := p) reacts.keeps .ok (startReply (v.channel c))
  have told {q : Port} {k : Notice} : Noticed v q k → Noticed (handReply p .ok (startReply (v.channel c)) v) q k := handReply_noticed
  have channel := handReply_channel p .ok (startReply (v.channel c)) v c
  have kept : v.profile = u.profile := Keeps.profile reacts.keeps
  have kept : (handReply p .ok (startReply (v.channel c)) v).profile = u.profile := kept
  have arb : (handReply p .ok (startReply (v.channel c)) v).arb = v.arb := rfl
  have chA : (handReply p .ok (startReply (v.channel c)) v).chA = v.chA := rfl
  have chB : (handReply p .ok (startReply (v.channel c)) v).chB = v.chB := rfl
  refine ⟨handReply p .ok (startReply (v.channel c)) v, accepted, wanted, ?_⟩
  generalize handReply p .ok (startReply (v.channel c)) v = t at answers frame told channel kept arb chA chB
  rw [channel, kept, arb, chA, chB]
  refine ⟨answers, frame, fun a => ?_, fun b => ?_, fun fault => ?_, fun k few passes => ⟨fun some => ?_, fun ends => ?_, fun step stays => ?_⟩,
    fun passes => ?_⟩
  · subst a
    exact commit_a_other _ u
  · subst b
    exact commit_b_other _ u
  · obtain ⟨code, main, hub⟩ := startChannel_fault fault
    exact ⟨code, told main, told hub⟩
  · obtain ⟨main, hub⟩ := (commit_noticed c (Change.walk c u.profile u.sample slot (startedAs c u)) u).1
      (Change.walk_entered (PassesThrough.enters passes some))
    exact ⟨told main, told hub⟩
  · obtain ⟨state, slot, code, reasons, presented, main, hub⟩ := startChannel_ends passes (List.mem_range.mp few) ends
    exact ⟨state, slot, code, reasons, presented, told main, told hub⟩
  · obtain ⟨state, slot, code, timer, run, hold, temp, noInput, deficit, dieHot, starved, noLink, presents, request, main, hub⟩ :=
      startChannel_stays passes (List.mem_range.mp few) step stays
    exact ⟨state, slot, code, timer, run, hold, temp, noInput, deficit, dieHot, starved, noLink, presents, request, told main, told hub⟩
  · obtain ⟨state, code, slot, reasons, presented, main, hub, main', hub'⟩ := startChannel_loops passes
    exact ⟨state, code, slot, reasons, presented, told main, told hub, told main', told hub'⟩

end Sys2Proof.Machine
end

section
/-! The publication of a pass (R81 to R86, R124): O38 and O37. -/

namespace Sys2Proof.Machine

/-! ### Who asks for the link, by SUPPLY (R81, R124) -/

/-- The arbiter is sound, and SUPPLY is asked for exactly where d holds. -/
def SupplyAsked (d : Prop) (a : Arbiter) : Prop := a.Sound ∧ (a.asks .supply ↔ d)

section
variable {d : Prop} {a : Arbiter} {r : Requester}

/-- R117: another requester waits. -/
theorem SupplyAsked.waits (h : SupplyAsked d a) (ne : r ≠ .supply) (unheld : a.link ≠ .held r) :
    SupplyAsked d { a with waiting := a.waiting.put r true } := by
  obtain ⟨sound, asks⟩ := h
  have supply : (a.waiting.put r true).has .supply = a.waiting.has .supply := Waiting.has_put_other _ (Ne.symm ne) true
  refine ⟨⟨fun q held => ?_, fun waits => sound.2 (supply.symm.trans waits)⟩, ?_⟩
  · by_cases own : q = r
    · exact absurd (own ▸ held) unheld
    · exact (Waiting.has_put_other _ own true).trans (sound.1 q held)
  · rw [← asks, Arbiter.asks, Arbiter.asks]
    exact or_congr (by rw [supply]) Iff.rfl

/-- R125, R128: another requester waits no more. -/
theorem SupplyAsked.waitsNot (h : SupplyAsked d a) (ne : r ≠ .supply) (y : Bool) :
    SupplyAsked d { a with waiting := a.waiting.put r false, yieldPending := y } := by
  obtain ⟨sound, asks⟩ := h
  have supply : (a.waiting.put r false).has .supply = a.waiting.has .supply := Waiting.has_put_other _ (Ne.symm ne) false
  refine ⟨⟨fun q held => ?_, fun waits => sound.2 (supply.symm.trans waits)⟩, ?_⟩
  · by_cases own : q = r
    · exact own ▸ Waiting.has_put_self _ _ _
    · exact (Waiting.has_put_other _ own false).trans (sound.1 q held)
  · rw [← asks, Arbiter.asks, Arbiter.asks]
    exact or_congr (by rw [supply]) Iff.rfl

/-- R122: the holder loses the link; SUPPLY asks on where it is not SUPPLY that gives it up. -/
theorem SupplyAsked.loses (asks : a.asks .supply ↔ d) (held : a.link = .held r) (now : Nat) (stands : Bool)
    (own : r = .supply → stands = true) : SupplyAsked d (a.lost now r stands) := by
  refine ⟨unheld_sound (.inr (lost_link ..)), (lost_asks held now stands .supply).trans ?_⟩
  split
  next supply =>
    subst supply
    exact iff_of_true (own rfl) (asks.mp (.inr held))
  next => exact asks

theorem supplyRules (d : Prop) : BalanceArbRules (SupplyAsked d) where
  grants now tenure h unheld chosen :=
    ⟨granted_sound chosen _ _, (granted_asks unheld (waits_of_choose chosen).1 now tenure .supply).trans h.2⟩
  loses now h held := SupplyAsked.loses h.2 held now true fun _ => rfl
  frees {a} h changing := by
    refine ⟨unheld_sound (.inl rfl), Iff.trans ?_ h.2⟩
    rw [Arbiter.asks, Arbiter.asks, changing]
    exact or_congr_right (iff_of_false nofun nofun)
  pends h := h
  asks h unheld := h.waits nofun unheld
  gives now h held := SupplyAsked.loses h.2 held now false nofun
  unasks y h _ := h.waitsNot (r := .balance) nofun y

end

section
variable {d : Prop} {s : State} {c : Cell} {y : Change}

/-- A property that the arbiter's rules and the start checks keep, an event of a channel keeps where CHARGE_B's request does. -/
theorem LinkRules.commit {P : State → Prop} (rules : LinkRules P) (answers : ∀ s, P s → P (startChecks s))
    (ending : ∀ {s t}, Reacts [.notice, .monitor] s t → P s → P t) (chB : ∀ {s} ch, P s → P { s with chB := ch })
    (chA : ∀ {s} ch, P s → P { s with chA := ch }) (path : ∀ {s} n, P s → P (takeCharge n s))
    (asks : ∀ {s}, P s → s.arb.link ≠ .held .chargeB → P (asked .chargeB s))
    (gives : ∀ {s}, P s → s.arb.link = .held .chargeB → P (lossTaken .chargeB false s))
    (unasks : ∀ {s}, P s → s.arb.link ≠ .held .chargeB → P (unasked .chargeB s)) (h : P s) : P (commit c y s) := by
  have changed : P (s.setChannel c y.ch) := by
    cases c with
    | a => exact chA _ h
    | b => exact chB _ h
  have told := ending ((toldChange_reacts c y s).mono (by decide)) changed
  have synced (u : State) (hu : P u) : P (syncChargeB u) := by
    unfold syncChargeB
    dsimp only
    split
    · exact hu
    · split
      · exact rules.raiseLink answers (chB _ hu) fun unheld _ => asks (chB _ hu) unheld
      · exact rules.withdrawLink answers (gives (chB _ hu)) (unasks (chB _ hu))
  have handed : P (handPresented c (toldChange c y s)) := by
    cases c with
    | a => exact path _ told
    | b => exact synced _ (rules.follows told)
  have tested (u : State) (hu : P u) (b : Bool) : P (if b then monitorTest u else u) := by
    split
    · exact ending (monitorTest_reacts u (by decide)) hu
    · exact hu
  rw [commit_eq, settleChange]
  split
  · exact rules.calm (trigger_reacts _ (by decide)) (tested _ handed _)
  · exact tested _ handed _

theorem EngineRules.commit {P : State → Prop} (rules : EngineRules P) (chB : ∀ {s} ch, P s → P { s with chB := ch })
    (chA : ∀ {s} ch, P s → P { s with chA := ch }) (path : ∀ {s} n, P s → P (takeCharge n s))
    (asks : ∀ {s}, P s → s.arb.link ≠ .held .chargeB → P (asked .chargeB s))
    (gives : ∀ {s}, P s → s.arb.link = .held .chargeB → P (lossTaken .chargeB false s))
    (unasks : ∀ {s}, P s → s.arb.link ≠ .held .chargeB → P (unasked .chargeB s)) : P s → P (commit c y s) :=
  rules.toLinkRules.commit rules.startChecks (fun reacts => rules.ending (reacts.mono (by decide))) chB chA path asks gives unasks

theorem SupplyAsked.commit (h : SupplyAsked d s.arb) : SupplyAsked d (commit c y s).arb :=
  (supplyRules d).engineRules.commit (fun _ h => h) (fun _ h => h)
    (fun n h => (congrArg (SupplyAsked d) ((takeCharge_reacts _ n).arb_eq (by decide) (by decide))).mpr h)
    (fun h unheld => h.waits nofun unheld)
    (fun {s} h held => by
      have lost : SupplyAsked d (s.arb.lost s.now .chargeB false) := SupplyAsked.loses h.2 held _ false nofun
      refine (congrArg (SupplyAsked d) (?_ : (lossTaken .chargeB false s).arb = s.arb.lost s.now .chargeB false)).mpr lost
      exact ((reportToB_sameUsers _ _).arb).trans (linkFollow_arb _))
    (fun h _ => h.waitsNot (r := .chargeB) nofun _) h

/-- R81, R124: after SUPPLY's part of a publication the request stands exactly where the record says. -/
theorem publishSupply_asked (sound : s.arb.Sound) : SupplyAsked (s.alloc.record.supply = true) (publishSupply s).arb := by
  have rules (d : Prop) := (supplyRules d).engineRules
  unfold publishSupply
  split
  next raise =>
    have yes {a : Arbiter} (h : a.asks .supply) : a.asks .supply ↔ s.alloc.record.supply = true := iff_of_true h raise
    unfold raiseReq raiseLink
    split
    next asks =>
      rw [Bool.or_eq_true, decide_eq_true_iff] at asks
      exact ⟨sound, yes asks.symm⟩
    next idle =>
      have waits : (asked .supply s).arb.asks .supply := (asked_asks .supply s .supply).mpr (.inl rfl)
      have unheld (link : s.arb.Unheld) : SupplyAsked (s.alloc.record.supply = true) (asked .supply s).arb :=
        ⟨unheld_sound link, yes waits⟩
      dsimp only
      split
      next free => exact (rules _).toLinkRules.chooseFree (rules _).startChecks (unheld (.inl free)) free
      next holder held =>
        refine (rules _).toLinkRules.loseLink_of (s := asked .supply s) (r := holder) (cause := .preemption) (rules _).startChecks ?_
        have lost : SupplyAsked (s.alloc.record.supply = true) ((asked .supply s).arb.lost s.now holder true) :=
          SupplyAsked.loses (yes waits) held _ true fun _ => rfl
        have taken : (lossTaken holder true (asked .supply s)).arb = (asked .supply s).arb.lost s.now holder true := by
          unfold lossTaken
          dsimp only
          split
          · exact ((reportToB_sameUsers _ _).arb).trans (linkFollow_arb _)
          · exact linkFollow_arb _
        exact (congrArg (SupplyAsked _) taken).mpr lost
      next link => exact unheld (.inr link)
  next lower =>
    have no {a : Arbiter} (h : ¬ a.asks .supply) : a.asks .supply ↔ s.alloc.record.supply = true := iff_of_false h lower
    refine (rules _).toLinkRules.withdrawLink (rules _).startChecks (fun held => ?_) fun unheld => ?_
    · have lost : SupplyAsked (s.alloc.record.supply = true) (s.arb.lost s.now .supply false) := by
        refine ⟨unheld_sound (.inr (lost_link ..)), no fun asks => ?_⟩
        have stands := (lost_asks held s.now false .supply).mp asks
        contradiction
      exact (congrArg (SupplyAsked _) (linkFollow_arb _)).mpr lost
    · exact ⟨unasked_sound sound .supply, no fun asks => ((unasked_asks unheld .supply).mp asks).1 rfl⟩

end

end Sys2Proof.Machine
end

section
/-! The parts of a publication, one at a time (R82 to R86): O38 and O37. -/

namespace Sys2Proof.Machine

/-! ### Channels while a pass goes on (R97) -/

section
variable {E : List Effect} {s t : State} {x : Snapshot}

theorem trigger_computing (computing : s.alloc.pass = some x) : (trigger s).chA = s.chA ∧ (trigger s).chB = s.chB := by
  obtain ignored | ⟨idle, -⟩ | ⟨-, asked⟩ := trigger_cases s
  · rw [ignored]
    exact ⟨rfl, rfl⟩
  · rw [computing] at idle
    contradiction
  · rw [asked]
    exact ⟨rfl, rfl⟩

/-- While a pass goes on no trigger clears a stale mark. -/
theorem Reacts.chA_computing (h : Reacts E s t) (computing : s.alloc.pass = some x) (nA : .chA ∉ E) : t.chA = s.chA := by
  refine (h.rel (fun s t => s.alloc.pass = some x → t.alloc.pass = some x ∧ t.chA = s.chA) (fun _ c => ⟨c, rfl⟩)
    (fun _ _ _ f g c => ⟨(g (f c).1).1, (g (f c).1).2.trans (f c).2⟩) (fun e he v w touch c => ⟨(touch.passGoesOn x c).1, ?_⟩)
    computing).2
  by_cases pass : e = .pass
  · subst pass
    cases touch
    exact (trigger_computing c).1
  · exact touch.chA_eq (ne_of_mem_of_not_mem he nA) pass

end

/-! ### The parts -/

theorem raiseOwner_reacts (k : Notice) (o : Owner) (s : State) : Reacts [.notice] s (raiseOwner k o s) := by
  cases o with
  | internal => exact .refl s
  | port p => exact raiseNotice_reacts s (by decide) k p

/-- R32: the claims of a publication. -/
def publishedTable (grants : List GrantOut) (s : State) : ClaimTable :=
  { s.table with claims := s.table.claims.map (Claim.published grants s) }

theorem publishGrants_reacts (grants : List GrantOut) (s : State) :
    Reacts [.notice] (s.setTable (publishedTable grants s)) (publishGrants grants s) :=
  .foldl _ _ (fun c _ u => raiseOwner_reacts .grant c.owner u) _

theorem publishNotices_reacts (old : Publication) (s : State) : Reacts [.notice] s (publishNotices old s) :=
  (raiseIf_reacts s _ fun u => raiseMainHub_reacts u (by decide) _).trans (raiseIf_reacts _ _ fun u => raiseMainHub_reacts u (by decide) _)

/-- Between s and u only parts of the publication of x have been taken: the pass goes on under the record of s. -/
structure Publishes (x : Snapshot) (s u : State) : Prop where
  outer : u.outer = { s.outer with table := u.table, pathA := u.outer.pathA }
  computing : u.alloc.pass = some x
  rerun : s.alloc.rerun = true → u.alloc.rerun = true
  noticed : ∀ {p k}, Noticed s p k → Noticed u p k

namespace Publishes
variable {x : Snapshot} {s t u : State}

theorem refl (computing : s.alloc.pass = some x) : Publishes x s s := ⟨rfl, computing, id, id⟩

theorem trans (h : Publishes x s t) (k : Publishes x t u) : Publishes x s u := by
  refine ⟨?_, k.computing, k.rerun ∘ h.rerun, k.noticed ∘ h.noticed⟩
  rw [k.outer, h.outer]

theorem of_reacts {E : List Effect} (computing : s.alloc.pass = some x) (h : Reacts E s u) : Publishes x s u := by
  obtain ⟨goesOn, kept⟩ := h.passGoesOn x computing
  have outer : u.outer = s.outer := h.keeps
  have table : u.table = s.table := Keeps.table h.keeps
  refine ⟨?_, goesOn, kept, h.noticed⟩
  rw [outer, table]
  rfl

theorem setTable (computing : s.alloc.pass = some x) (table : ClaimTable) : Publishes x s (s.setTable table) := ⟨rfl, computing, id, id⟩

theorem setPathA (computing : s.alloc.pass = some x) (path : PathA) : Publishes x s (s.setPathA path) := ⟨rfl, computing, id, id⟩

theorem record (h : Publishes x s u) : u.alloc.record = s.alloc.record := (congrArg (fun v => v.alloc.record) h.outer :)
theorem prot (h : Publishes x s u) : u.prot = s.prot := (congrArg State.prot h.outer :)

theorem dormant (h : Publishes x s u) (p : Port) : (u.port p).dormant = (s.port p).dormant := by
  cases p
  · exact (congrArg (fun v => v.ports.main.dormant) h.outer :)
  · exact (congrArg (fun v => v.ports.hub.dormant) h.outer :)
  · exact (congrArg (fun v => v.ports.input.dormant) h.outer :)

theorem publishTo (computing : s.alloc.pass = some x) (old : Publication) (grants : List GrantOut) (r : Recipient) :
    Publishes x s (publishTo old grants r s) := by
  cases r with
  | table =>
    have taken : Publishes x s (s.setTable (publishedTable grants s)) := setTable computing _
    exact taken.trans (of_reacts taken.computing (publishGrants_reacts grants s))
  | channelA => exact of_reacts computing (publishToChannel_reacts s .a)
  | channelB => exact of_reacts computing (publishToChannel_reacts s .b)
  | path => exact setPathA computing _
  | supply => exact of_reacts computing (publishSupply_reacts s)
  | link => exact of_reacts computing (linkFollow_reacts s)
  | notices => exact of_reacts computing (publishNotices_reacts old s)

end Publishes

/-! ### One part's turn among the others -/

theorem everyRecipient_arranged (order : Nat) : (arrange order everyRecipient).Nodup ∧ ∀ r, r ∈ arrange order everyRecipient := by
  refine ⟨(arrange_perm order everyRecipient).nodup_iff.mpr (by decide), fun r => (arrange_perm order everyRecipient).mem_iff.mpr ?_⟩
  cases r <;> decide

/-- R82: the publication up to the end of its pass. -/
def publishAll (old : Publication) (grants : List GrantOut) (order : Nat) (s : State) : State :=
  (arrange order everyRecipient).foldl (fun s r => publishTo old grants r s) s

/-- The turn of one part of a publication. -/
theorem publishAll_turn (r : Recipient) {s : State} {x : Snapshot} (old : Publication) (grants : List GrantOut) (order : Nat)
    (computing : s.alloc.pass = some x) {Pre Post : State → Prop}
    (before : ∀ y ≠ r, ∀ u, Publishes x s u → Pre u → Pre (publishTo old grants y u))
    (turn : ∀ u, Publishes x s u → Pre u → Post (publishTo old grants r u))
    (after : ∀ y ≠ r, ∀ u, Publishes x s u → Post u → Post (publishTo old grants y u)) (first : Pre s) :
    Publishes x s (publishAll old grants order s) ∧ Post (publishAll old grants order s) := by
  have carried (y : Recipient) (u : State) (h : Publishes x s u) : Publishes x s (publishTo old grants y u) :=
    h.trans (.publishTo h.computing old grants y)
  obtain ⟨nodup, mem⟩ := everyRecipient_arranged order
  exact foldl_turn (Pre := fun u => Publishes x s u ∧ Pre u) (Post := fun u => Publishes x s u ∧ Post u)
    (fun s r => publishTo old grants r s)
    (fun y ne u hu => ⟨carried y u hu.1, before y ne u hu.1 hu.2⟩) (fun u hu => ⟨carried r u hu.1, turn u hu.1 hu.2⟩)
    (fun y ne u hu => ⟨carried y u hu.1, after y ne u hu.1 hu.2⟩) nodup (mem r) ⟨.refl computing, first⟩

/-- The record that a publication writes, the pass still going on. -/
def recorded (x : Snapshot) (s : State) : State :=
  s.setAlloc { s.alloc with record := x.figures (nextCount s.alloc.record.count), published := true }

theorem exec_publication {s : State} {x : Snapshot} (on : s.operating = true) (computing : s.alloc.pass = some x) (order : Nat) :
    exec (.publication order) s = .next (publish x order s) := by
  refine congrArg Host.Outcome.next ((if_pos on).trans ?_)
  rw [computing]

theorem endPass_kept (s : State) : { endPass s with alloc := s.alloc, chA := s.chA, chB := s.chB } = s
    ∧ { (endPass s).chA with stale := s.chA.stale } = s.chA ∧ { (endPass s).chB with stale := s.chB.stale } = s.chB
    ∧ (endPass s).alloc.record = s.alloc.record := by
  unfold endPass
  split <;> exact ⟨rfl, rfl, rfl, rfl⟩

/-! ### SUPPLY and the link (R81, R84, R124) -/

/-- Where SUPPLY holds the link, it carries n to the node. -/
def Carrying (n : Nat) (s : State) : Prop :=
  s.alloc.record.sB = n ∧ (s.arb.link = .held .supply → s.linkStage.target = Flow.of .bToNode n)

section
variable {n : Nat} {s t : State}

theorem Carrying.congr (h : Carrying n s) (record : t.alloc.record = s.alloc.record) (link : t.arb.link = s.arb.link)
    (stage : t.linkStage = s.linkStage) : Carrying n t :=
  ⟨(congrArg Publication.sB record).trans h.1, fun held => (congrArg Stage.target stage).trans (h.2 (link ▸ held))⟩

theorem Carrying.reacts {E : List Effect} (h : Carrying n s) (reacts : Reacts E s t) (na : .arb ∉ E) (nl : .lock ∉ E) (ns : .link ∉ E) :
    Carrying n t :=
  h.congr (Keeps.record reacts.keeps) (by rw [reacts.arb_eq na nl]) (reacts.linkStage_eq ns)

/-- R8: once the link follows, it carries what SUPPLY asks. -/
theorem carrying_follows (record : s.alloc.record.sB = n) : Carrying n (linkFollow s) := by
  refine ⟨(congrArg Publication.sB (Keeps.record (linkFollow_outer s))).trans record, fun held => ?_⟩
  rw [linkFollow_arb] at held
  rw [linkFollow_target, State.linkTarget, held]
  show Flow.of .bToNode s.alloc.record.sB = _
  rw [record]

theorem Carrying.reported (h : Carrying n s) (noLink : Bool) : Carrying n (reportToB noLink s) := by
  have changed (ch : Channel) : Carrying n (linkFollow { s with chB := ch }) := carrying_follows (s := { s with chB := ch }) h.1
  have triggered (u : State) (hu : Carrying n u) : Carrying n (trigger u) :=
    hu.reacts (trigger_reacts (E := [.pass]) u (by decide)) (by decide) (by decide) (by decide)
  unfold reportToB
  dsimp only
  split
  · exact triggered _ (changed _)
  · exact changed _

theorem Carrying.taken (h : Carrying n s) (a : Arbiter) (c : Prop) [Decidable c] (noLink : Bool) :
    Carrying n (if c then reportToB noLink (linkFollow (s.setArb a)) else linkFollow (s.setArb a)) := by
  have followed : Carrying n (linkFollow (s.setArb a)) := carrying_follows h.1
  split
  · exact followed.reported _
  · exact followed

theorem carryingRules (n : Nat) : EngineRules (Carrying n) where
  calm reacts h := h.reacts reacts (by decide) (by decide) (by decide)
  follows h := carrying_follows h.1
  grants h _ _ := h.taken _ _ _
  loses h _ := h.taken _ _ _
  frees h _ := ⟨h.1, nofun⟩
  pends h := h
  told {s cause} h := by
    rw [reportLossToEngine_eq]
    exact h
  queue h _ := h
  ending reacts h := h.reacts reacts (by decide) (by decide) (by decide)
  asks h _ := h
  gives h _ := h.taken _ _ _
  unasks h _ := h

theorem Carrying.commit {c : Cell} {y : Change} (h : Carrying n s) : Carrying n (commit c y s) :=
  (carryingRules n).commit (fun _ h => h) (fun _ h => h)
    (fun m h => h.reacts (takeCharge_reacts _ m) (by decide) (by decide) (by decide))
    (fun h _ => h) (fun h _ => h.taken _ _ _) (fun h _ => h) h

theorem Carrying.publishSupply (h : Carrying n s) : Carrying n (publishSupply s) := by
  have rules := (carryingRules n).toLinkRules
  unfold Machine.publishSupply
  split
  · exact rules.raiseLink (carryingRules n).startChecks h fun _ _ => h
  · exact rules.withdrawLink (carryingRules n).startChecks (fun _ => h.taken _ _ _) fun _ => h

/-- R81: the SUPPLY request and the arbiter after the parts of a publication. -/
theorem publishAll_asked {x : Snapshot} (old : Publication) (grants : List GrantOut) (order : Nat)
    (computing : s.alloc.pass = some x) (sound : s.arb.Sound) :
    SupplyAsked (s.alloc.record.supply = true) (publishAll old grants order s).arb := by
  have others (d : Prop) (y : Recipient) (ne : y ≠ .supply) (u : State) (h : SupplyAsked d u.arb) :
      SupplyAsked d (publishTo old grants y u).arb := by
    have kept {E : List Effect} {v w : State} (reacts : Reacts E v w) (na : .arb ∉ E) (nl : .lock ∉ E) (hv : SupplyAsked d v.arb) :
        SupplyAsked d w.arb := (congrArg (SupplyAsked d) (reacts.arb_eq na nl)).mpr hv
    cases y with
    | table => exact kept (publishGrants_reacts grants u) (by decide) (by decide) h
    | channelA => exact h.commit
    | channelB => exact h.commit
    | path => exact h
    | supply => contradiction
    | link => exact kept (linkFollow_reacts u) (by decide) (by decide) h
    | notices => exact kept (publishNotices_reacts old u) (by decide) (by decide) h
  refine (publishAll_turn .supply old grants order computing (Pre := fun u => u.arb.Sound)
    (Post := fun u => SupplyAsked (s.alloc.record.supply = true) u.arb) (fun y ne u _ pre => ?_) (fun u published pre => ?_)
    (fun y ne u _ post => others _ y ne u post) sound).2
  · exact (others (u.arb.asks .supply) y ne u ⟨pre, Iff.rfl⟩).1
  · have asked := publishSupply_asked pre
    rw [published.record] at asked
    exact asked

/-- R84: the link in SUPPLY's hand after the parts of a publication. -/
theorem publishAll_carrying {x : Snapshot} (old : Publication) (grants : List GrantOut) (order : Nat)
    (computing : s.alloc.pass = some x) : Carrying s.alloc.record.sB (publishAll old grants order s) := by
  refine (publishAll_turn .link old grants order computing (Pre := fun _ => True)
    (Post := Carrying s.alloc.record.sB) (fun _ _ _ _ _ => trivial) (fun u published _ => ?_) (fun y ne u _ post => ?_) trivial).2
  · exact carrying_follows (congrArg Publication.sB published.record)
  · cases y with
    | table =>
      have taken : Carrying s.alloc.record.sB (u.setTable (publishedTable grants u)) := post
      exact taken.reacts (publishGrants_reacts grants u) (by decide) (by decide) (by decide)
    | channelA => exact post.commit
    | channelB => exact post.commit
    | path => exact post
    | supply => exact post.publishSupply
    | link => contradiction
    | notices => exact post.reacts (publishNotices_reacts old u) (by decide) (by decide) (by decide)

end

/-- Settles O38: SUPPLY's part of the publication, and the link's. -/
theorem supplyFollowsPublication : Obligations.SupplyFollowsPublication := by
  intro s order on sound x computing
  let r := recorded x s
  let v := publishAll s.alloc.record x.grants order r
  have going : r.alloc.pass = some x := Option.mem_def.mp computing
  obtain ⟨arbSound, asks⟩ := publishAll_asked s.alloc.record x.grants order going sound
  have carries := publishAll_carrying s.alloc.record x.grants order going
  have recordIs : v.alloc.record = r.alloc.record := (publishAll_turn .link s.alloc.record x.grants order going
    (Pre := fun _ => True) (Post := fun _ => True) (fun _ _ _ _ _ => trivial) (fun _ _ _ => trivial) (fun _ _ _ _ _ => trivial)
    trivial).1.record
  obtain ⟨kept, -, -, record⟩ := endPass_kept v
  have arb : (endPass v).arb = v.arb := (congrArg State.arb kept :)
  have stage : (endPass v).linkStage = v.linkStage := (congrArg State.linkStage kept :)
  have supply : r.alloc.record.supply = true ↔ 0 < r.alloc.record.sB := decide_eq_true_iff
  refine ⟨endPass v, exec_publication on computing order, ?_⟩
  rw [arb, stage, record, recordIs]
  refine ⟨asks.trans supply, fun some => ?_, carries.2⟩
  have asked : v.arb.asks .supply := asks.mpr (supply.mpr some)
  have holds (q : Requester) (ne : q ≠ .supply) : v.arb.link ≠ .held q := by
    rintro held
    rcases asked with waits | own
    · rcases arbSound.2 waits with free | changing
      · rw [free] at held; contradiction
      · rw [changing] at held; contradiction
    · rw [own] at held
      exact ne (LinkState.held.inj held).symm
  exact ⟨holds _ nofun, holds _ nofun⟩

end Sys2Proof.Machine
end

section
/-! What a publication leaves, field by field, and O37 (R32, R33, R37, R82 to R86). -/

namespace Sys2Proof.Machine

section
variable {x : Snapshot} {s : State} (old : Publication) (grants : List GrantOut) (order : Nat)

/-! ### What each part leaves to the others -/

theorem publishTo_table {y : Recipient} (ne : y ≠ .table) (u : State) : (publishTo old grants y u).table = u.table := by
  cases y with
  | table => contradiction
  | channelA => exact Keeps.table (publishToChannel_reacts u .a).keeps
  | channelB => exact Keeps.table (publishToChannel_reacts u .b).keeps
  | path => rfl
  | supply => exact Keeps.table (publishSupply_reacts u).keeps
  | link => exact Keeps.table (linkFollow_reacts u).keeps
  | notices => exact Keeps.table (publishNotices_reacts old u).keeps

theorem publishTo_path {y : Recipient} (ne : y ≠ .path) (u : State) :
    (publishTo old grants y u).pathA.supply = u.pathA.supply ∧ (publishTo old grants y u).pathA.bridge = u.pathA.bridge := by
  have kept {E : List Effect} {v w : State} (h : Reacts E v w) : w.pathA.supply = v.pathA.supply ∧ w.pathA.bridge = v.pathA.bridge :=
    ⟨Keeps.supply h.keeps, (congrArg (fun u => u.pathA.bridge) (show w.outer = v.outer from h.keeps) :)⟩
  cases y with
  | table => exact kept (v := u.setTable (publishedTable grants u)) (publishGrants_reacts grants u)
  | channelA => exact kept (publishToChannel_reacts u .a)
  | channelB => exact kept (publishToChannel_reacts u .b)
  | path => contradiction
  | supply => exact kept (publishSupply_reacts u)
  | link => exact kept (linkFollow_reacts u)
  | notices => exact kept (publishNotices_reacts old u)

theorem publishTo_chA {y : Recipient} (ne : y ≠ .channelA) {u : State} (computing : u.alloc.pass = some x) :
    (publishTo old grants y u).chA = u.chA := by
  cases y with
  | table => exact (publishGrants_reacts grants u).chA_computing (s := u.setTable _) computing (by decide)
  | channelA => contradiction
  | channelB => exact (publishToChannel_reacts u .b).chA_computing computing (by decide)
  | path => rfl
  | supply => exact (publishSupply_reacts u).chA_computing computing (by decide)
  | link => exact (linkFollow_reacts u).chA_computing computing (by decide)
  | notices => exact (publishNotices_reacts old u).chA_computing computing (by decide)

/-- Channel B stands but for what reports of the link change, its stale mark included. -/
def SameB (v u : State) : Prop := u.chB.linkless = v.chB.linkless ∧ u.chB.stale = v.chB.stale

omit old grants order in
/-- While a pass goes on reports of the link leave the stale mark. -/
theorem sameB_of_reacts {E : List Effect} {u v : State} (h : Reacts E u v) (computing : u.alloc.pass = some x) (nB : .chB ∉ E) :
    SameB u v := by
  refine ⟨h.chB_linkless nB, (h.rel (fun s t => s.alloc.pass = some x → t.alloc.pass = some x ∧ t.chB.stale = s.chB.stale)
    (fun _ c => ⟨c, rfl⟩) (fun _ _ _ f g c => ⟨(g (f c).1).1, (g (f c).1).2.trans (f c).2⟩)
    (fun e he v w touch c => ⟨(touch.passGoesOn x c).1, ?_⟩) computing).2⟩
  by_cases pass : e = .pass
  · subst pass
    cases touch
    rw [(trigger_computing c).2]
  · by_cases report : e = .linkB
    · subst report
      cases touch with
      | linkB ch _ same mark => exact mark
    · exact congrArg Channel.stale (touch.chB_eq (ne_of_mem_of_not_mem he nB) report pass)

theorem publishTo_chB {y : Recipient} (ne : y ≠ .channelB) {u : State} (computing : u.alloc.pass = some x) :
    SameB u (publishTo old grants y u) := by
  cases y with
  | table => exact sameB_of_reacts (u := u.setTable (publishedTable grants u)) (publishGrants_reacts grants u) computing (by decide)
  | channelA => exact sameB_of_reacts (publishToChannel_reacts u .a) computing (by decide)
  | channelB => contradiction
  | path => exact ⟨rfl, rfl⟩
  | supply => exact sameB_of_reacts (publishSupply_reacts u) computing (by decide)
  | link => exact sameB_of_reacts (linkFollow_reacts u) computing (by decide)
  | notices => exact sameB_of_reacts (publishNotices_reacts old u) computing (by decide)

/-! ### What each part makes of its own -/

/-- R83, R97: what a publication makes of a channel, for its setpoint and its STARVED flag. -/
def Channel.TakesPublication (f : Publication) (setpoint : Nat) (starved : Bool) (ch t : Channel) : Prop :=
  t.published = (if ch.stale = true then 0 else setpoint)
    ∧ (ch.state = .active → t.reasons.noInput = decide (f.pBud = 0) ∧ t.reasons.deficit = decide (0 < f.deficit)
      ∧ (ch.stale = false → t.reasons.starved = starved))

omit old grants order in
/-- It turns on nothing that a report of the link changes. -/
theorem Channel.TakesPublication.linkless {f : Publication} {setpoint : Nat} {starved : Bool} {ch t : Channel} :
    Channel.TakesPublication f setpoint starved ch t.linkless ↔ Channel.TakesPublication f setpoint starved ch t := Iff.rfl

omit old grants order in
theorem publication_taken (c : Cell) (f : Publication) (profile : List StepRecord) (setpoint : Nat) (starved : Bool) (ch : Channel) :
    Channel.TakesPublication f setpoint starved ch
      (Change.publication c profile setpoint starved (f.pBud == 0) (decide (0 < f.deficit)) ch).ch := by
  refine ⟨rfl, fun active => ?_⟩
  unfold Change.publication Change.reasons Channel.represent
  dsimp only
  rw [if_pos active]
  refine ⟨Bool.eq_iff_iff.mpr (by rw [beq_iff_eq, decide_eq_true_iff]), rfl, fun fresh => ?_⟩
  rw [fresh]
  rfl

omit order in
/-- R32: the owner of a claim whose grant changes is told. -/
theorem publishGrants_noticed {c : Claim} {p : Port} (member : c ∈ s.table.claims) (owner : c.owner = .port p)
    (changed : Claim.regranted grants s c = true) : Noticed (publishGrants grants s) p .grant := by
  have tells (l : List Claim) : ∀ u : State, c ∈ l → Noticed (l.foldl (fun s c => raiseOwner .grant c.owner s) u) p .grant := by
    induction l with
    | nil => exact fun _ none => absurd none List.not_mem_nil
    | cons d l ih =>
      intro u member
      rcases List.mem_cons.mp member with rfl | later
      · have told : Noticed (raiseOwner .grant c.owner u) p .grant := by
          rw [owner]
          exact raiseNotice_noticed .grant p u
        exact (Reacts.foldl (E := [.notice]) (fun s (c : Claim) => raiseOwner .grant c.owner s) l
          (fun d _ v => raiseOwner_reacts .grant d.owner v) _).noticed told
      · exact ih _ later
  exact tells _ _ (List.mem_filter.mpr ⟨member, changed⟩)

omit order in
/-- R86: DEFICIT and SHORTFALL tell of a crossing of zero. -/
theorem publishNotices_noticed : (crossesZero old.deficit s.alloc.record.deficit = true →
      Noticed (publishNotices old s) .main .deficit ∧ Noticed (publishNotices old s) .hub .deficit)
    ∧ (crossesZero old.shortfall s.alloc.record.shortfall = true →
      Noticed (publishNotices old s) .main .shortfall ∧ Noticed (publishNotices old s) .hub .shortfall) := by
  have both (k : Notice) (u : State) : Noticed (raiseMainHub k u) .main k ∧ Noticed (raiseMainHub k u) .hub k :=
    ⟨raiseNotice_keepsNoticed _ _ _ _ _ (raiseNotice_noticed k .main u), raiseNotice_noticed k .hub _⟩
  let u := raiseIf (crossesZero old.deficit s.alloc.record.deficit) (raiseMainHub .deficit) s
  have last : Reacts [.notice] u (publishNotices old s) := raiseIf_reacts _ _ fun v => raiseMainHub_reacts v (by decide) _
  refine ⟨fun crosses => ?_, fun crosses => ?_⟩
  · have raised : u = raiseMainHub .deficit s := if_pos crosses
    obtain ⟨main, hub⟩ := both .deficit s
    rw [← raised] at main hub
    exact ⟨last.noticed main, last.noticed hub⟩
  · have raised : publishNotices old s = raiseMainHub .shortfall u := if_pos crosses
    rw [raised]
    exact both .shortfall u

theorem crossesZero_of {m n : Nat} (crosses : m = 0 ↔ n ≠ 0) : crossesZero m n = true := by
  unfold crossesZero
  cases m <;> cases n <;> simp_all

end

/-! ### Every part's mark on the end of the publication -/

section
variable {x : Snapshot} {s : State} (old : Publication) (grants : List GrantOut) (order : Nat) (computing : s.alloc.pass = some x)
include computing

theorem publishAll_publishes : Publishes x s (publishAll old grants order s) :=
  (publishAll_turn .table old grants order computing (Pre := fun _ => True) (Post := fun _ => True) (fun _ _ _ _ _ => trivial)
    (fun _ _ _ => trivial) (fun _ _ _ _ _ => trivial) trivial).1

omit computing in
theorem takenGrant_congr {u : State} (dormant : ∀ p, (u.port p).dormant = (s.port p).dormant) (c : Claim) :
    takenGrant grants u c = takenGrant grants s c := by
  have owner : u.ownerDormant c = s.ownerDormant c := by
    unfold State.ownerDormant
    cases c.owner with
    | internal => rfl
    | port p => exact dormant p
  unfold takenGrant
  rw [owner]

theorem publishAll_table : (publishAll old grants order s).table = publishedTable grants s
    ∧ ∀ c ∈ s.table.claims, ∀ p, c.owner = .port p → Claim.regranted grants s c = true →
      Noticed (publishAll old grants order s) p .grant := by
  refine (publishAll_turn .table old grants order computing (Pre := fun u => u.table = s.table)
    (Post := fun u => u.table = publishedTable grants s ∧ ∀ c ∈ s.table.claims, ∀ p, c.owner = .port p →
      Claim.regranted grants s c = true → Noticed u p .grant) (fun y ne u _ pre => ?_) (fun u published pre => ?_)
    (fun y ne u published post => ?_) rfl).2
  · exact (publishTo_table old grants ne u).trans pre
  · have taken (c : Claim) := takenGrant_congr grants published.dormant c
    refine ⟨(Keeps.table (publishGrants_reacts grants u).keeps).trans ?_, fun c member p owner changed => ?_⟩
    · have each : Claim.published grants u = Claim.published grants s := by
        funext c
        rw [Claim.published, Claim.published, taken c]
      show publishedTable grants u = _
      rw [publishedTable, publishedTable, pre, each]
    · refine publishGrants_noticed grants (pre ▸ member) owner ?_
      rw [Claim.regranted, taken c]
      exact changed
  · have more : Publishes x u (publishTo old grants y u) := .publishTo published.computing old grants y
    exact ⟨(publishTo_table old grants ne u).trans post.1,
      fun c member p owner changed => more.noticed (post.2 c member p owner changed)⟩

theorem publishAll_chA : Channel.TakesPublication s.alloc.record s.alloc.record.cA s.alloc.record.starvedA s.chA
    (publishAll old grants order s).chA := by
  refine (publishAll_turn .channelA old grants order computing (Pre := fun u => u.chA = s.chA)
    (Post := fun u => Channel.TakesPublication s.alloc.record s.alloc.record.cA s.alloc.record.starvedA s.chA u.chA)
    (fun y ne u published pre => ?_) (fun u published pre => ?_) (fun y ne u published post => ?_) rfl).2
  · exact (publishTo_chA old grants ne published.computing).trans pre
  · let y := Change.publication .a u.profile u.alloc.record.cA u.alloc.record.starvedA (u.alloc.record.pBud == 0)
      (decide (0 < u.alloc.record.deficit)) u.chA
    have taken := publication_taken .a u.alloc.record u.profile u.alloc.record.cA u.alloc.record.starvedA u.chA
    have left : (commit .a y u).chA.linkless = y.ch.linkless := (congrArg Channel.linkless (commit_a_chA y u) :)
    rw [published.record, pre] at taken
    show Channel.TakesPublication _ _ _ _ (commit .a y u).chA
    rw [← Channel.TakesPublication.linkless, left, Channel.TakesPublication.linkless]
    show Channel.TakesPublication _ _ _ _ (Change.publication .a u.profile u.alloc.record.cA u.alloc.record.starvedA
      (u.alloc.record.pBud == 0) (decide (0 < u.alloc.record.deficit)) u.chA).ch
    rw [published.record, pre]
    exact taken
  · rw [publishTo_chA old grants ne published.computing]
    exact post

theorem publishAll_chB : Channel.TakesPublication s.alloc.record s.alloc.record.cB s.alloc.record.starvedB s.chB
    (publishAll old grants order s).chB := by
  refine (publishAll_turn .channelB old grants order computing (Pre := fun u => SameB s u)
    (Post := fun u => Channel.TakesPublication s.alloc.record s.alloc.record.cB s.alloc.record.starvedB s.chB u.chB)
    (fun y ne u published pre => ?_) (fun u published pre => ?_) (fun y ne u published post => ?_) ⟨rfl, rfl⟩).2
  · obtain ⟨same, mark⟩ := publishTo_chB old grants ne published.computing
    exact ⟨same.trans pre.1, mark.trans pre.2⟩
  · let y := Change.publication .b u.profile u.alloc.record.cB u.alloc.record.starvedB (u.alloc.record.pBud == 0)
      (decide (0 < u.alloc.record.deficit)) u.chB
    have taken : Channel.TakesPublication u.alloc.record u.alloc.record.cB u.alloc.record.starvedB u.chB y.ch :=
      publication_taken .b u.alloc.record u.profile u.alloc.record.cB u.alloc.record.starvedB u.chB
    have left : (commit .b y u).chB.linkless = { y.ch.linkless with request := y.ch.wantsLink u.profile } := commit_b_chB y u
    obtain ⟨same, mark⟩ := pre
    have state : u.chB.state = s.chB.state := (congrArg Channel.state same :)
    show Channel.TakesPublication _ _ _ _ (commit .b y u).chB
    rw [← Channel.TakesPublication.linkless, left]
    rw [published.record, Channel.TakesPublication, mark, state] at taken
    exact taken
  · rw [← Channel.TakesPublication.linkless, (publishTo_chB old grants ne published.computing).1, Channel.TakesPublication.linkless]
    exact post

theorem publishAll_path : (publishAll old grants order s).pathA.supply = s.alloc.record.sA
    ∧ (publishAll old grants order s).pathA.bridge = false := by
  refine (publishAll_turn .path old grants order computing (Pre := fun _ => True)
    (Post := fun u => u.pathA.supply = s.alloc.record.sA ∧ u.pathA.bridge = false) (fun _ _ _ _ _ => trivial)
    (fun u published _ => ?_) (fun y ne u _ post => ?_) trivial).2
  · exact ⟨congrArg Publication.sA published.record, rfl⟩
  · obtain ⟨supply, bridge⟩ := publishTo_path old grants ne u
    exact ⟨supply.trans post.1, bridge.trans post.2⟩

theorem publishAll_noticed : (crossesZero old.deficit s.alloc.record.deficit = true →
      Noticed (publishAll old grants order s) .main .deficit ∧ Noticed (publishAll old grants order s) .hub .deficit)
    ∧ (crossesZero old.shortfall s.alloc.record.shortfall = true →
      Noticed (publishAll old grants order s) .main .shortfall ∧ Noticed (publishAll old grants order s) .hub .shortfall) := by
  refine (publishAll_turn .notices old grants order computing (Pre := fun _ => True)
    (Post := fun u => (crossesZero old.deficit s.alloc.record.deficit = true → Noticed u .main .deficit ∧ Noticed u .hub .deficit)
      ∧ (crossesZero old.shortfall s.alloc.record.shortfall = true → Noticed u .main .shortfall ∧ Noticed u .hub .shortfall))
    (fun _ _ _ _ _ => trivial) (fun u published _ => ?_) (fun y ne u published post => ?_) trivial).2
  · have told := publishNotices_noticed (s := u) old
    rw [published.record] at told
    exact told
  · have more : Publishes x u (publishTo old grants y u) := .publishTo published.computing old grants y
    exact ⟨fun crosses => (post.1 crosses).imp more.noticed more.noticed, fun crosses => (post.2 crosses).imp more.noticed more.noticed⟩

end

/-! ### The end of the pass (R66) -/

theorem endPass_pass (v : State) : (endPass v).alloc.rerun = false
    ∧ ((endPass v).alloc.pass = none ∨ (endPass v).alloc.pass = some (endPass v).snapshot)
    ∧ (v.alloc.rerun = true → (endPass v).alloc.pass = some (endPass v).snapshot) := by
  unfold endPass
  split
  next again => exact ⟨rfl, .inr rfl, fun _ => rfl⟩
  next idle => exact ⟨Bool.eq_false_iff.mpr idle, .inl rfl, fun again => absurd again idle⟩

theorem endPass_frame (v : State) : (endPass v).outer = { v.outer with alloc := (endPass v).outer.alloc }
    ∧ (endPass v).table = v.table ∧ (endPass v).pathA = v.pathA ∧ (endPass v).prot = v.prot ∧ (endPass v).port = v.port
    ∧ (endPass v).chA.published = v.chA.published ∧ (endPass v).chA.reasons = v.chA.reasons
    ∧ (endPass v).chB.published = v.chB.published ∧ (endPass v).chB.reasons = v.chB.reasons := by
  unfold endPass
  split <;> exact ⟨rfl, rfl, rfl, rfl, rfl, rfl, rfl, rfl, rfl⟩

/-- R33, R37: the figures taken for a claim, as O37 has them. -/
theorem takenGrant_eq (grants : List GrantOut) (s : State) (c : Claim) :
    takenGrant grants s c = (grants.find? (fun g => g.admission == c.admission)).filter (fun g =>
      g.standing != .suspended && !(c.cls == .elective && (match c.owner with
        | .internal => false
        | .port p => (s.port p).dormant))) := by
  show _ = Option.filter (fun g : GrantOut => g.standing != .suspended && !(c.cls == .elective && s.ownerDormant c)) _
  unfold takenGrant
  cases grants.find? (fun g => g.admission == c.admission) with
  | none => rfl
  | some g =>
    obtain ⟨admission, grant, standing⟩ := g
    cases c.cls <;> cases s.ownerDormant c <;> cases standing <;> rfl

/-- R32: the table with the figures taken. -/
theorem publishedTable_eq (grants : List GrantOut) (s : State) {taken : Claim → Option GrantOut}
    (is : ∀ c, takenGrant grants s c = taken c) :
    publishedTable grants s = { s.table with claims := s.table.claims.map (fun c =>
      match taken c with
      | some g => { c with grant := g.grant, standing := g.standing }
      | none => c) } := by
  have each : Claim.published grants s = fun c =>
      match taken c with
      | some g => { c with grant := g.grant, standing := g.standing }
      | none => c := by
    funext c
    rw [Claim.published, is c]
    cases taken c <;> rfl
  rw [publishedTable, each]

/-- Settles O37: each part's own mark, and the end of the pass. -/
theorem publicationTaken : Obligations.PublicationTaken := by
  refine fun s order on x computing => ?_
  intro f taken
  let r := recorded x s
  let v := publishAll s.alloc.record x.grants order r
  have going : r.alloc.pass = some x := Option.mem_def.mp computing
  have is (c : Claim) : takenGrant x.grants r c = taken c := takenGrant_eq x.grants r c
  have published : Publishes x r v := publishAll_publishes s.alloc.record x.grants order going
  obtain ⟨table, told⟩ := publishAll_table s.alloc.record x.grants order going
  have chA := publishAll_chA s.alloc.record x.grants order going
  have chB := publishAll_chB s.alloc.record x.grants order going
  obtain ⟨supply, bridge⟩ := publishAll_path s.alloc.record x.grants order going
  obtain ⟨deficit, shortfall⟩ := publishAll_noticed s.alloc.record x.grants order going
  obtain ⟨kept, keptA, keptB, record⟩ := endPass_kept v
  obtain ⟨noRerun, pass, again⟩ := endPass_pass v
  obtain ⟨outerIs, tableIs, pathIs, protIs, portIs, publishedA, reasonsA, publishedB, reasonsB⟩ := endPass_frame v
  have still {p : Port} {k : Notice} (h : Noticed v p k) : Noticed (endPass v) p k := by
    unfold Noticed at *
    rw [portIs]
    exact h
  refine ⟨endPass v, exec_publication on computing order, record.trans published.record, noRerun, pass,
    fun rerun => again (published.rerun rerun), ?_, ?_, ?_, ?_, ?_, ?_, ?_, ?_, ?_, ?_, ?_, ?_⟩
  · exact tableIs.trans (table.trans (publishedTable_eq x.grants r is))
  · intro c member p _ owner g figures changed
    refine still (told c member p owner ?_)
    rw [Claim.regranted, is c, Option.mem_def.mp figures]
    exact bne_iff_ne.mpr changed
  · exact publishedA.trans chA.1
  · exact publishedB.trans chB.1
  · intro active
    rw [reasonsA]
    exact chA.2 active
  · intro active
    rw [reasonsB]
    exact chB.2 active
  · rw [pathIs]
    exact supply
  · rw [pathIs]
    exact bridge
  · have isolated : (endPass v).isolated .a = s.prot.cellA.uv :=
      (congrArg (fun q : Protection => q.cellA.uv) (protIs.trans published.prot) :)
    rw [State.allowanceA, isolated, pathIs, supply]
    rfl
  · exact fun crosses => (deficit (crossesZero_of crosses)).imp still still
  · exact fun crosses => (shortfall (crossesZero_of crosses)).imp still still
  · rw [outerIs, published.outer, tableIs]
    rfl

end Sys2Proof.Machine
end

section
/-! Channel B and a SUSPENDED head under the arbiter's operations; HOLD (R153, R154), O48. -/

namespace Sys2Proof.Machine

/-! ### What reports of the link keep of channel B -/

/-- A property of channel B alone that its stale mark and reports of NO_LINK keep. -/
structure ChannelRules (Q : Channel → Prop) : Prop where
  mark : ∀ {ch : Channel} {ch' : Channel}, { ch' with stale := false } = { ch with stale := false } → Q ch → Q ch'
  told : ∀ {ch : Channel} (profile : List StepRecord) (b : Bool), Q ch →
    Q (Change.withReasons .b profile { ch.reasons with noLink := b } ch).ch

section
variable {Q : Channel → Prop} (rules : ChannelRules Q) {s t : State}
include rules

theorem ChannelRules.reacts {E : List Effect} (reacts : Reacts E s t) (nB : .chB ∉ E) (nb : .linkB ∉ E) (h : Q s.chB) : Q t.chB :=
  rules.mark (reacts.chB_fresh nB nb) h

theorem ChannelRules.reported (b : Bool) (h : Q s.chB) : Q (reportToB b s).chB := by
  have changed : Q (linkFollow { s with chB := (Change.withReasons .b s.profile { s.chB.reasons with noLink := b } s.chB).ch }).chB :=
    rules.reacts (s := { s with chB := _ }) (linkFollow_reacts _) (by decide) (by decide) (rules.told s.profile b h)
  unfold reportToB
  dsimp only
  split
  · exact rules.reacts (trigger_reacts (E := [.pass]) _ (by decide)) (by decide) (by decide) changed
  · exact changed

theorem ChannelRules.taken (h : Q s.chB) (a : Arbiter) (c : Prop) [Decidable c] (b : Bool) :
    Q (if c then reportToB b (linkFollow (s.setArb a)) else linkFollow (s.setArb a)).chB := by
  have followed : Q (linkFollow (s.setArb a)).chB := rules.reacts (s := s.setArb a) (linkFollow_reacts _) (by decide) (by decide) h
  split
  · exact rules.reported b followed
  · exact followed

theorem ChannelRules.engineRules : EngineRules fun s => Q s.chB where
  calm reacts := rules.reacts reacts (by decide) (by decide)
  follows := rules.reacts (linkFollow_reacts _) (by decide) (by decide)
  grants h _ _ := rules.taken h _ _ _
  loses h _ := rules.taken h _ _ _
  frees h _ := h
  pends h := h
  told {s cause} h := by
    rw [reportLossToEngine_eq]
    exact h
  queue h _ := h
  ending reacts := rules.reacts reacts (by decide) (by decide)
  asks h _ := h
  gives h _ := rules.taken h _ _ _
  unasks h _ := h

/-- Where the request is not turned on, an event of channel B leaves what it says. -/
theorem ChannelRules.commit_b (request : ∀ {ch : Channel} (b : Bool), Q ch → Q { ch with request := b }) {y : Change} (h : Q y.ch) :
    Q (commit .b y s).chB := by
  have changed : Q (changedB y s).chB := rules.mark (changedB_chB y s) h
  have asked (u : State) (hu : Q u.chB) (b : Bool) : Q ({ u with chB := { u.chB with request := b } } : State).chB := request b hu
  have synced (u : State) (hu : Q u.chB) : Q (syncChargeB u).chB := by
    unfold syncChargeB
    dsimp only
    split
    · exact hu
    · have rules' := rules.engineRules
      split
      · exact rules'.toLinkRules.raiseLink rules'.startChecks (asked u hu _) fun _ _ => asked u hu _
      · exact rules'.toLinkRules.withdrawLink rules'.startChecks (fun _ => rules.taken (s := { u with chB := _ }) (asked u hu _) _ _ _)
          fun _ => asked u hu _
  rw [commit_b_eq]
  exact rules.reacts (settleChange_reacts y _ _) (by decide) (by decide) (synced _ changed)

end

/-- R94, R98: an ACTIVE channel under a hold, which presents 0. -/
def Channel.PresentsNone (ch : Channel) : Prop := ch.state = .active → ch.reasons.hold = true ∧ ch.presented = 0

/-- R98: HOLD leaves no demand. -/
theorem represent_held (c : Cell) (profile : List StepRecord) {ch : Channel} (hold : ch.reasons.hold = true) :
    (ch.represent c profile).presented = 0 := by
  have stopped : ch.demand c profile = 0 := by
    refine if_neg ?_
    rw [Reasons.stopsDemand, hold]
    simp
  rw [Channel.represent, stopped]
  exact Nat.min_zero _

theorem withReasons_held (c : Cell) (profile : List StepRecord) {r : Reasons} (hold : r.hold = true) (ch : Channel) :
    (Change.withReasons c profile r ch).ch.PresentsNone := by
  unfold Change.withReasons
  split
  · exact fun _ => ⟨hold, represent_held c profile hold⟩
  next idle => exact fun active => absurd active idle

theorem presentsNone_rules : ChannelRules Channel.PresentsNone where
  mark {ch ch'} same h active := by
    obtain ⟨hold, presented⟩ := h ((congrArg Channel.state same :).symm.trans active)
    exact ⟨(congrArg (fun x : Channel => x.reasons.hold) same :).trans hold, (congrArg Channel.presented same :).trans presented⟩
  told {ch} profile b h active := by
    have was : ch.state = .active := by
      by_contra idle
      rw [withReasons_of_not_active idle] at active
      exact idle active
    exact withReasons_held .b profile (r := { ch.reasons with noLink := b }) (h was).1 ch active

/-! ### A SUSPENDED head stays (R141) -/

/-- The head, where there is one, is SUSPENDED. -/
def HeadRests (s : State) : Prop := ∀ j ∈ s.bal.queue.head?, j.state = .suspended

theorem HeadRests.reacts {E : List Effect} {s t : State} (h : HeadRests s) (reacts : Reacts E s t) (nq : .queue ∉ E) : HeadRests t := by
  unfold HeadRests
  rw [reacts.queue_eq nq]
  exact h

/-- R140: no report of a loss reaches a head that does not run. -/
theorem HeadRests.lossQueue {s : State} (h : HeadRests s) (cause : LossCause) (now : Nat) :
    lossQueue cause now s.bal.queue = s.bal.queue := by
  unfold HeadRests at h
  cases queue : s.bal.queue with
  | nil => rfl
  | cons j rest =>
    rw [queue] at h
    refine if_neg fun runs => ?_
    have suspended := h j rfl
    rw [runs.2] at suspended
    contradiction

theorem HeadRests.told {s : State} (h : HeadRests s) (cause : LossCause) : HeadRests (reportLossToEngine cause s) := by
  rw [reportLossToEngine_eq, h.lossQueue]
  exact h

theorem headRestsRules : LinkRules HeadRests :=
  .of_blind (fun reacts h => h.reacts reacts (by decide)) (fun h => h.reacts (linkFollow_reacts _) (by decide)) (fun h _ _ => h)
    (fun h _ => h) (fun h _ => h) (fun h => h) fun h => h.told _

/-- R139: only a QUEUED head takes a grant. -/
theorem HeadRests.startChecks (s : State) (h : HeadRests s) : HeadRests (startChecks s) := by
  have same : Machine.startChecks s = s := by
    unfold Machine.startChecks
    split
    · rfl
    next j rest queue =>
      refine if_neg fun queued => ?_
      have suspended := h j (by rw [queue]; rfl)
      rw [queued] at suspended
      contradiction
  rw [same]
  exact h

theorem HeadRests.lost {s : State} (h : HeadRests s) (r : Requester) (stands : Bool) : HeadRests (lossTaken r stands s) := by
  have followed : HeadRests (linkFollow (s.setArb (s.arb.lost s.now r stands))) :=
    HeadRests.reacts (s := s.setArb (s.arb.lost s.now r stands)) h (linkFollow_reacts _) (by decide)
  unfold lossTaken
  dsimp only
  split
  · exact followed.reacts (reportToB_reacts _ _) (by decide)
  · exact followed

theorem HeadRests.withdrawReq {s : State} (h : HeadRests s) (r : Requester) : HeadRests (withdrawReq r s) :=
  headRestsRules.withdrawLink HeadRests.startChecks (fun _ => h.lost r false) fun _ => h

theorem HeadRests.commit {s : State} (h : HeadRests s) (c : Cell) (y : Change) : HeadRests (commit c y s) :=
  headRestsRules.commit HeadRests.startChecks (fun reacts h => h.reacts reacts (by decide)) (fun _ h => h) (fun _ h => h)
    (fun n h => h.reacts (takeCharge_reacts _ n) (by decide)) (fun h _ => h) (fun h _ => h.lost _ _) (fun h _ => h) h

/-- R141: suspended, the head is SUSPENDED. -/
theorem suspendHead_rests (s : State) : HeadRests (suspendHead s) := by
  have set (j : Job) (rest : List Job) (u : State) (suspended : j.state = .suspended) : HeadRests (u.setQueue (j :: rest)) := by
    intro i head
    rw [← Option.some.inj head]
    exact suspended
  unfold suspendHead
  split
  next empty => exact fun j head => absurd head (by rw [empty]; exact Option.not_mem_none j)
  next j rest queue =>
    split
    next suspended =>
      intro i head
      rw [queue] at head
      rw [← Option.some.inj head]
      exact suspended
    next => exact (set _ _ _ rfl).withdrawReq _
    next =>
      exact ((set (j.stops s.now .suspended) rest s rfl).reacts (linkFollow_reacts _) (by decide)).withdrawReq _

/-! ### The hold leaves OFF (R153, R154) -/

section
variable {w : State}

/-- R153: what the blocks make of a hold that begins. -/
structure HoldBegun (w t : State) : Prop where
  stateA : t.chA.state = w.chA.state
  stateB : t.chB.state = w.chB.state
  chA : t.chA.PresentsNone
  chB : t.chB.PresentsNone
  request : t.chB.request = false
  head : HeadRests t

theorem HoldBegun.reacts {E : List Effect} {t u : State} (h : HoldBegun w t) (reacts : Reacts E t u) (nA : .chA ∉ E) (nB : .chB ∉ E)
    (nb : .linkB ∉ E) (nq : .queue ∉ E) : HoldBegun w u := by
  have chA := reacts.chA_fresh nA
  have chB := reacts.chB_fresh nB nb
  exact ⟨(congrArg Channel.state chA :).trans h.stateA, (congrArg Channel.state chB :).trans h.stateB, presentsNone_rules.mark chA h.chA,
    presentsNone_rules.mark chB h.chB, (congrArg Channel.request chB :).trans h.request, h.head.reacts reacts nq⟩

theorem holdBegan_channel_presents (c : Cell) (s : State) :
    ((holdBegan (.channel c) s).channel c).PresentsNone
      ∧ ((holdBegan (.channel c) s).channel c).state = (s.channel c).state := by
  let y := Change.withReasons c s.profile { (s.channel c).reasons with hold := true } (s.channel c)
  have held : y.ch.PresentsNone := withReasons_held c s.profile rfl (s.channel c)
  have state : y.ch.state = (s.channel c).state := by
    show (Change.withReasons c s.profile _ (s.channel c)).ch.state = _
    unfold Change.withReasons
    split <;> rfl
  refine ⟨?_, (congrArg Channel.state (commit_linkless c y s) :).trans state⟩
  cases c with
  | a => exact presentsNone_rules.mark (commit_a_chA y s) held
  | b => exact presentsNone_rules.commit_b (fun _ h => h) held

theorem reportHoldBegan_begun (w : State) : HoldBegun w (reportHoldBegan w) := by
  let a := holdBegan (.channel .a) w
  obtain ⟨presentsA, stateA⟩ := holdBegan_channel_presents .a w
  have stateB : a.chB.state = w.chB.state := (congrArg Channel.state (commit_a_chB _ w) :)
  unfold reportHoldBegan
  split
  · let b := holdBegan (.channel .b) a
    obtain ⟨presentsB, stateB'⟩ := holdBegan_channel_presents .b a
    have keepA : { b.chA with stale := false } = { a.chA with stale := false } :=
      (commit_reacts a .b _).chA_fresh (show Effect.chA ∉ channelEffects .b by decide)
    have suspends := suspendHead_reacts b
    have keepA' := suspends.chA_fresh (by decide)
    exact ⟨((congrArg Channel.state keepA' :).trans (congrArg Channel.state keepA :)).trans stateA,
      ((congrArg Channel.state (suspends.chB_linkless (by decide)) :).trans stateB').trans stateB,
      presentsNone_rules.mark keepA' (presentsNone_rules.mark keepA presentsA),
      presentsNone_rules.engineRules.suspendHead presentsB,
      (suspends.request_eq (by decide)).trans (UsersStand.holdBegan_b_holds a).1, suspendHead_rests b⟩
  · let e := suspendHead a
    have suspends : Reacts engineEffects a e := suspendHead_reacts a
    obtain ⟨presentsB, stateB'⟩ := holdBegan_channel_presents .b e
    have keepA : { e.chA with stale := false } = { a.chA with stale := false } := suspends.chA_fresh (by decide)
    have keepA' : { (holdBegan (.channel .b) e).chA with stale := false } = { e.chA with stale := false } :=
      (commit_reacts e .b _).chA_fresh (show Effect.chA ∉ channelEffects .b by decide)
    exact ⟨((congrArg Channel.state keepA' :).trans (congrArg Channel.state keepA :)).trans stateA,
      (stateB'.trans (congrArg Channel.state (suspends.chB_linkless (by decide)) :)).trans stateB,
      presentsNone_rules.mark keepA' (presentsNone_rules.mark keepA presentsA), presentsB,
      (UsersStand.holdBegan_b_holds e).1, (suspendHead_rests a).commit .b _⟩

end

/-! ### HOLD (R154) -/

theorem exec_hold {s : State} {p : Port} (h : Hands s p) :
    exec (.hold p (Framing.ofLength 0)) s = .next (takeHold p (handedOver p (.hold p (Framing.ofLength 0)) s)) :=
  exec_handed (r := .hold) rfl s h (by cases p <;> rfl)

/-- The number of holders, counted port by port. -/
theorem holdCount_eq (h : HoldCtl) : h.count = ([Port.main, .hub, .input].filter (fun q => (h.holders.get q).joined)).length := by
  simp only [HoldCtl.count, List.filter, PerPort.get]
  cases h.holders.main.joined <;> cases h.holders.hub.joined <;> cases h.holders.input.joined <;> rfl

/-- R154: the number of holders once port p has joined. -/
theorem holdCount_joined (s : State) (p : Port) {x : Holder} (joined : x.joined = true) :
    (s.setHolder p x).hold.count = ([Port.main, .hub, .input].filter (fun q => q = p || (s.holder q).joined)).length := by
  rw [holdCount_eq]
  refine congrArg (fun f => ([Port.main, .hub, .input].filter f).length) (funext fun q => ?_)
  show ((s.hold.holders.set p x).get q).joined = (decide (q = p) || (s.hold.holders.get q).joined)
  cases p <;> cases q <;> simp [PerPort.set, PerPort.get, joined]

/-- R154: the number of holders where port p is one of them. -/
theorem holdCount_same (s : State) {p : Port} (joined : (s.holder p).joined = true) :
    s.hold.count = ([Port.main, .hub, .input].filter (fun q => q = p || (s.holder q).joined)).length := by
  have same : s.setHolder p (s.holder p) = s := by cases p <;> rfl
  have count := holdCount_joined s p joined
  rwa [same] at count

/-- R154: the first port to hold. -/
def firstHolder (p : Port) (s : State) : State :=
  s.setHolder p { s.holder p with joined := true, expiry := none, unanswered := true }

theorem setHolder_holder (s : State) (p : Port) (x : Holder) : (s.setHolder p x).holder p = x := by cases p <;> rfl

theorem setHolder_other (s : State) {p q : Port} (ne : q ≠ p) (x : Holder) : (s.setHolder p x).holder q = s.holder q := by
  cases p <;> cases q <;> first | rfl | contradiction

/-- R154: what the beginning of a hold leaves, with port p its first holder. -/
theorem beginHold_frame (w : State) : Keeps w (beginHold w) :=
  (reportHoldBegan_reacts (w.setHold { w.hold with state := .pending })).keeps.trans (trigger_outer _)

theorem beginHold_begun (w : State) : HoldBegun w (beginHold w) := by
  have begun := (reportHoldBegan_begun (w.setHold { w.hold with state := .pending })).reacts
    (trigger_reacts (E := [.pass]) _ (by decide)) (by decide) (by decide) (by decide) (by decide)
  exact ⟨begun.stateA, begun.stateB, begun.chA, begun.chB, begun.request, begun.head⟩

theorem beginHold_on (w : State) : (beginHold w).hold.state ≠ .off := by
  have told := reportHoldBegan_reacts (w.setHold { w.hold with state := .pending })
  have both : Reacts blockEffects (w.setHold { w.hold with state := .pending }) (beginHold w) := told.trans (trigger_reacts _ (by decide))
  exact mt both.holdOff_iff.mp nofun

theorem beginHold_wanted {w : State} (running : w.power.phase = .running) (on : w.operating = true) : PassWanted w (beginHold w) := by
  have told := reportHoldBegan_reacts (w.setHold { w.hold with state := .pending })
  exact told.passGoesOn.passWanted ((Keeps.phase told.keeps).trans running) (told.operating_eq.trans on)

/-- What an ACTIVE channel comes to as a hold begins. -/
theorem HoldBegun.channel {w t : State} (h : HoldBegun w t) (c : Cell) (active : (w.channel c).state = .active) :
    (t.channel c).state = .active ∧ (t.channel c).reasons.hold = true ∧ (t.channel c).presented = 0 := by
  cases c with
  | a =>
    have stays := h.stateA.trans active
    exact ⟨stays, h.chA stays⟩
  | b =>
    have stays := h.stateB.trans active
    exact ⟨stays, h.chB stays⟩

/-- Settles O48: the join of an empty set is the blocks' part, the others change the set alone. -/
theorem holdJoins : Obligations.HoldJoins := by
  intro s p hands i u h n effective joins
  have ran : exec i s = .next (takeHold p u) := exec_hold hands
  have reply (b : Bool) (x : HoldCtl) (count : x.count = n) : holdReply b x = bytesOf 1 b.toNat ++ bytesOf 1 n := by
    rw [holdReply, count]
  refine ⟨fun joined => ?_, fun apart pending => ?_, fun apart effective => ?_, fun apart off => ?_⟩
  · have coded : (u.hold.state == .effective).toNat = if effective then 1 else 0 := by
      by_cases is : effective
      · rw [if_pos is, beq_iff_eq.mpr is]
        rfl
      · rw [if_neg is, beq_eq_false_iff_ne.mpr is]
        rfl
    rw [ran, takeHold, if_pos joined, reply _ _ (holdCount_same u joined), coded]
    rfl
  · rw [ran, takeHold, if_neg (Bool.eq_false_iff.mp apart), joinHold, pending]
    exact congrArg (fun l => Host.Outcome.next (handReply p .ok l _)) (reply false _ (holdCount_joined u p rfl))
  · rw [ran, takeHold, if_neg (Bool.eq_false_iff.mp apart), joinHold, show u.hold.state = .effective from effective]
    exact congrArg (fun l => Host.Outcome.next (handReply p .ok l _)) (reply true _ (holdCount_joined u p rfl))
  · let w := firstHolder p u
    let v := beginHold w
    let l := bytesOf 1 0 ++ bytesOf 1 n
    have begun : HoldBegun w v := beginHold_begun w
    have kept : Keeps w v := beginHold_frame w
    have holders (q : Port) : (v.holder q).quiet = (w.holder q).quiet := kept.holder q
    have own : (w.holder p) = { u.holder p with joined := true, expiry := none, unanswered := true } := setHolder_holder u p _
    refine ⟨handReply p .ok l v, ?_, handReply_answers .ok l v, ?_, beginHold_on w, ?_, ?_, fun c _ active => ?_, fun _ => begun.request,
      begun.head, ?_, fun q ne => ?_⟩
    · rw [ran, takeHold, if_neg (Bool.eq_false_iff.mp apart), joinHold, show u.hold.state = .off from off]
      exact congrArg (fun l => Host.Outcome.next (handReply p .ok l _)) (reply false _ (holdCount_joined u p rfl))
    · exact (beginHold_wanted (w := w) (handedOver_running p i s hands) (handedOver_operating p i s hands.1.1)).handReply p .ok l
    · exact (congrArg Holder.joined (holders p) :).trans (congrArg Holder.joined own :)
    · exact (congrArg Holder.unanswered (holders p) :).trans (congrArg Holder.unanswered own :)
    · have activeW : (w.channel c).state = .active := by cases c <;> exact active
      rw [handReply_channel]
      exact begun.channel c activeW
    · have outer : v.outer = w.outer := kept
      rw [handReply_outer, outer]
      rfl
    · exact (holders q).trans (congrArg Holder.quiet (setHolder_other u ne _))

end Sys2Proof.Machine
end

section
/-! The head where it may hold the BALANCE request (R138, R141); UNHOLD and the expiry of a holder (R159 to R161), O49. -/

namespace Sys2Proof.Machine

/-! ### A head that may hold the request is not SUSPENDED -/

/-- The head may hold the request (R138), and none is SUSPENDED. -/
def HeadReleased (s : State) : Prop := s.balanceAllowed = true ∧ ∀ j ∈ s.bal.queue.head?, j.state ≠ .suspended

theorem Reacts.allowed_iff {E : List Effect} {s t : State} (h : Reacts E s t) (nh : .hot ∉ E) :
    t.balanceAllowed = true ↔ s.balanceAllowed = true := by
  rw [balanceAllowed_iff, balanceAllowed_iff, State.Allowed, State.Allowed, h.holdOff_iff, h.hot_eq nh]

theorem HeadReleased.reacts {E : List Effect} {s t : State} (h : HeadReleased s) (reacts : Reacts E s t) (nq : .queue ∉ E)
    (nh : .hot ∉ E) : HeadReleased t := by
  refine ⟨(reacts.allowed_iff nh).mpr h.1, ?_⟩
  rw [reacts.queue_eq nq]
  exact h.2

theorem HeadReleased.setQueue {s : State} (allowed : s.balanceAllowed = true) {j : Job} (state : j.state ≠ .suspended) (rest : List Job) :
    HeadReleased (s.setQueue (j :: rest)) := by
  refine ⟨allowed, fun i head => ?_⟩
  rw [← Option.some.inj head]
  exact state

theorem HeadReleased.told {s : State} (h : HeadReleased s) (cause : LossCause) : HeadReleased (reportLossToEngine cause s) := by
  rw [reportLossToEngine_eq]
  obtain ⟨allowed, head⟩ := h
  cases queue : s.bal.queue with
  | nil => exact ⟨allowed, fun j none => nomatch none⟩
  | cons j rest =>
    rw [queue] at head
    rw [lossQueue]
    split
    · exact .setQueue allowed (j := j.stops s.now .queued) nofun rest
    · exact .setQueue allowed (head j rfl) rest

theorem headReleasedRules : LinkRules HeadReleased :=
  .of_blind (fun reacts h => h.reacts reacts (by decide) (by decide)) (fun h => h.reacts (linkFollow_reacts _) (by decide) (by decide))
    (fun h _ _ => h) (fun h _ => h) (fun h _ => h) (fun h => h) fun h => h.told _

theorem HeadReleased.lost {s : State} (h : HeadReleased s) (r : Requester) (stands : Bool) : HeadReleased (lossTaken r stands s) := by
  have followed : HeadReleased (linkFollow (s.setArb (s.arb.lost s.now r stands))) :=
    HeadReleased.reacts (s := s.setArb (s.arb.lost s.now r stands)) h (linkFollow_reacts _) (by decide) (by decide)
  unfold lossTaken
  dsimp only
  split
  · exact followed.reacts (reportToB_reacts _ _) (by decide) (by decide)
  · exact followed

/-- R138: a job that becomes the head where it may hold the request raises it. -/
theorem newHead_released {f : State → State} (answers : ∀ s, HeadReleased s → HeadReleased (f s)) {s : State}
    (allowed : s.balanceAllowed = true) : HeadReleased (newHead f s) := by
  unfold newHead
  split
  next empty => exact ⟨allowed, fun j head => absurd head (by rw [empty]; exact Option.not_mem_none j)⟩
  next j rest _ =>
    rw [if_pos allowed]
    exact headReleasedRules.raiseLink answers (.setQueue allowed (j := { j with state := .queued }) nofun rest) fun _ _ =>
      .setQueue allowed (j := { j with state := .queued }) nofun rest

theorem endHead_released {f : State → State} (answers : ∀ s, HeadReleased s → HeadReleased (f s)) (reaches : ∀ s, Reacts engineEffects s (f s))
    {s : State} (h : HeadReleased s) (reason : EndReason) : HeadReleased (endHead f reason s) := by
  unfold endHead
  split
  · exact h
  next j rest _ =>
    have left : (s.setQueue rest).balanceAllowed = true := h.1
    dsimp only
    refine (newHead_released answers (((recordEnding_reacts (E := engineEffects) _ (by decide) (by decide) j reason).allowed_iff
      (by decide)).mpr ?_)).reacts (queueEmptied_reacts (E := [.monitor]) _ (by decide)) (by decide) (by decide)
    split
    · exact left
    · exact ((withdrawLink_reacts (by decide) reaches (by decide) _ _).allowed_iff (by decide)).mpr left

/-- R139: a head that is granted the link runs, or leaves the place to one that is QUEUED. -/
theorem HeadReleased.startChecks (s : State) (h : HeadReleased s) : HeadReleased (startChecks s) := by
  unfold Machine.startChecks
  split
  · exact h
  next j rest _ =>
    split
    · split
      next w _ =>
        let job : Job := { j with state := .running, resolved := some w, heldSince := some s.now }
        exact headReleasedRules.follows (.setQueue h.1 (j := job) nofun rest)
      next => exact endHead_released (fun _ => id) (fun _ => .refl _) h _
    · exact h

theorem HeadReleased.raiseReq {s : State} (h : HeadReleased s) (r : Requester) : HeadReleased (raiseReq r s) :=
  headReleasedRules.raiseLink HeadReleased.startChecks h fun _ _ => h

theorem HeadReleased.commit {s : State} (h : HeadReleased s) (c : Cell) (y : Change) : HeadReleased (commit c y s) :=
  headReleasedRules.commit HeadReleased.startChecks (fun reacts h => h.reacts reacts (by decide) (by decide)) (fun _ h => h)
    (fun _ h => h) (fun n h => h.reacts (takeCharge_reacts _ n) (by decide) (by decide)) (fun h _ => h) (fun h _ => h.lost _ _)
    (fun h _ => h) h

/-- R141: the release. -/
theorem releaseHead_released {s : State} (allowed : s.balanceAllowed = true) : HeadReleased (releaseHead s) := by
  unfold releaseHead
  split
  next empty => exact ⟨allowed, fun j head => absurd head (by rw [empty]; exact Option.not_mem_none j)⟩
  next j rest queue =>
    split
    · exact (HeadReleased.setQueue allowed (j := { j with state := .queued }) nofun rest).raiseReq _
    next stays =>
      rw [allowed, Bool.and_true, decide_eq_true_iff] at stays
      refine ⟨allowed, fun i head => ?_⟩
      rw [queue] at head
      rw [← Option.some.inj head]
      exact stays

/-! ### The hold returns to OFF (R161) -/

theorem everyListener_arranged (order : Nat) : (arrange order everyListener).Nodup ∧ ∀ l, l ∈ arrange order everyListener := by
  refine ⟨(arrange_perm order everyListener).nodup_iff.mpr (by decide), fun l => (arrange_perm order everyListener).mem_iff.mpr ?_⟩
  match l with
  | .channel .a => decide
  | .channel .b => decide
  | .engine => decide

/-- R161: the blocks take the end of the hold. -/
def holdEndedAll (order : Nat) (s : State) : State := (arrange order everyListener).foldl (fun s l => holdEnded l s) s

theorem holdEndedAll_reacts (order : Nat) (s : State) : Reacts blockEffects s (holdEndedAll order s) := holdEndeds_reacts _ s

theorem endHold_eq (order : Nat) (s : State) :
    endHold order true s = monitorTest (trigger (holdEndedAll order (s.setHold { s.hold with state := .off }))) := rfl

/-- R94: an ACTIVE channel told of the end holds no HOLD. -/
theorem holdEnded_channel (c : Cell) (s : State) :
    ((holdEnded (.channel c) s).channel c).state = (s.channel c).state
      ∧ ((s.channel c).state = .active → ((holdEnded (.channel c) s).channel c).reasons.hold = false) := by
  let y := Change.withReasons c s.profile { (s.channel c).reasons with hold := false } (s.channel c)
  have left := commit_linkless c y s
  have made : y.ch.state = (s.channel c).state ∧ ((s.channel c).state = .active → y.ch.reasons.hold = false) := by
    unfold y Change.withReasons
    split
    · exact ⟨rfl, fun _ => rfl⟩
    next idle => exact ⟨rfl, fun active => absurd active idle⟩
  exact ⟨(congrArg Channel.state left :).trans made.1,
    fun active => (congrArg (fun ch : Channel => ch.reasons.hold) left :).trans (made.2 active)⟩

/-- A report to another block leaves the channel but for what reports of the link change. -/
theorem holdEnded_other {c : Cell} {l : Listener} (ne : l ≠ .channel c) (s : State) :
    ((holdEnded l s).channel c).linkless = (s.channel c).linkless := by
  match l, c, ne with
  | .engine, .a, _ => exact (congrArg Channel.linkless ((releaseHead_reacts s).chA_fresh (by decide)) :)
  | .engine, .b, _ => exact (releaseHead_reacts s).chB_linkless (by decide)
  | .channel .a, .b, _ => exact (congrArg Channel.linkless (commit_a_chB _ s) :)
  | .channel .b, .a, _ => exact (congrArg Channel.linkless (commit_b_chA _ s) :)

theorem holdEndedAll_channel (order : Nat) (c : Cell) {s : State} (active : (s.channel c).state = .active) :
    ((holdEndedAll order s).channel c).reasons.hold = false := by
  obtain ⟨nodup, mem⟩ := everyListener_arranged order
  refine foldl_turn (fun s l => holdEnded l s) (x := .channel c) (Pre := fun u => (u.channel c).state = .active)
    (Post := fun u => (u.channel c).reasons.hold = false) (fun l ne u pre => ?_) (fun u pre => (holdEnded_channel c u).2 pre)
    (fun l ne u post => ?_) nodup (mem _) active
  · exact (congrArg Channel.state (holdEnded_other ne u) :).trans pre
  · exact (congrArg (fun ch : Channel => ch.reasons.hold) (holdEnded_other ne u) :).trans post

theorem holdEndedAll_released (order : Nat) {s : State} (allowed : s.balanceAllowed = true) : HeadReleased (holdEndedAll order s) := by
  obtain ⟨nodup, mem⟩ := everyListener_arranged order
  refine foldl_turn (fun s l => holdEnded l s) (x := .engine) (Pre := fun u => u.balanceAllowed = true)
    (Post := HeadReleased) (fun l _ u pre => ((holdEnded_reacts u l).allowed_iff (by decide)).mpr pre)
    (fun u pre => releaseHead_released pre) (fun l ne u post => ?_) nodup (mem _) allowed
  cases l with
  | engine => contradiction
  | channel c => exact post.commit c _

theorem holdEnded_rested (l : Listener) (s : State) : Rested s (holdEnded l s) := by
  cases l with
  | engine => exact .of_reacts (releaseHead_reacts s) (by decide) (by decide)
  | channel c =>
    refine commit_rested fun idle => ?_
    rw [Change.withReasons, if_neg idle]
    exact idle

theorem holdEndedAll_rested (order : Nat) (s : State) : Rested s (holdEndedAll order s) := by
  have folded (l : List Listener) : ∀ s, Rested s (l.foldl (fun s l => holdEnded l s) s) := by
    induction l with
    | nil => exact .refl
    | cons l ls ih => exact fun s => (holdEnded_rested l s).trans (ih _)
  exact folded _ s

/-- R161: what the end of the hold comes to. -/
structure HoldEnds (v t : State) : Prop where
  wanted : PassWanted v t
  off : t.hold.state = .off
  channels : ∀ c, (v.channel c).state = .active → (t.channel c).reasons.hold = false
  head : v.bal.dieHot = false → ∀ j ∈ t.bal.queue.head?, j.state ≠ .suspended
  tested : MonitorTested v t
  outer : Keeps v t
  noticed : ∀ {p : Port} {k : Notice}, Noticed v p k → Noticed t p k

theorem endHold_ends (order : Nat) {v : State} (on : v.operating = true) (running : v.power.phase = .running) :
    HoldEnds v (endHold order true v) := by
  let w := v.setHold { v.hold with state := .off }
  let u := holdEndedAll order w
  have told : Reacts blockEffects w u := holdEndedAll_reacts order w
  have last : Reacts [.pass, .monitor] u (monitorTest (trigger u)) :=
    (trigger_reacts u (by decide)).trans (monitorTest_reacts _ (by decide))
  have all : Reacts blockEffects w (monitorTest (trigger u)) := told.trans (last.mono (by decide))
  have wanted : PassWanted w (trigger u) := told.passGoesOn.passWanted ((Keeps.phase told.keeps).trans running) (told.operating_eq.trans on)
  have started : Rested v w := .of_same rfl rfl fun ⟨stopped, detached, _, rest⟩ => ⟨stopped, detached, rfl, rest⟩
  have rested : Rested v (monitorTest (trigger u)) :=
    (started.trans (holdEndedAll_rested order w)).trans (.of_reacts last (by decide) (by decide))
  rw [endHold_eq]
  refine ⟨wanted.monitorTest, all.holdOff_iff.mpr rfl, fun c active => ?_, fun cool => ?_,
    rested.tested (monitorTest_unquiet _) (Bool.and_eq_true_iff.mp on).1, all.keeps,
    fun {p k} told => all.noticed (s := w) told⟩
  · have hold : (u.channel c).reasons.hold = false := holdEndedAll_channel order c (s := w) (by cases c <;> exact active)
    cases c with
    | a => exact (congrArg (fun ch : Channel => ch.reasons.hold) (last.chA_fresh (by decide)) :).trans hold
    | b => exact (congrArg (fun ch : Channel => ch.reasons.hold) (last.chB_fresh (by decide) (by decide)) :).trans hold
  · have allowed : w.balanceAllowed = true := (balanceAllowed_iff w).mpr ⟨rfl, cool⟩
    exact ((holdEndedAll_released order allowed).reacts last (by decide) (by decide)).2

/-! ### A port leaves the holder set (R159 to R161) -/

/-- R159, R160: port p out of the holder set. -/
def leftHold (p : Port) (v : State) : State := v.setHolder p { v.holder p with joined := false, expiry := none }

/-- The holders but for port p. -/
def otherHolders (p : Port) (v : State) : List Port := [Port.main, .hub, .input].filter (fun q => q ≠ p && (v.holder q).joined)

theorem leftHold_count (p : Port) (v : State) : (leftHold p v).hold.count = (otherHolders p v).length := by
  rw [holdCount_eq]
  refine congrArg (fun f => ([Port.main, .hub, .input].filter f).length) (funext fun q => ?_)
  show ((v.hold.holders.set p _).get q).joined = (decide (q ≠ p) && (v.hold.holders.get q).joined)
  cases p <;> cases q <;> simp [PerPort.set, PerPort.get]

theorem leftHold_empty (p : Port) (v : State) : (leftHold p v).hold.empty = true ↔ otherHolders p v = [] := by
  have counted := leftHold_count p v
  rw [← List.length_eq_zero_iff, ← counted]
  simp only [HoldCtl.empty, HoldCtl.count]
  cases (leftHold p v).hold.holders.main.joined <;> cases (leftHold p v).hold.holders.hub.joined <;>
    cases (leftHold p v).hold.holders.input.joined <;> decide

theorem leaveHold_others {p : Port} {v : State} (others : otherHolders p v ≠ []) (order : Nat) (own : Bool) :
    leaveHold p order own v = leftHold p v :=
  if_neg (mt (leftHold_empty p v).mp others)

theorem leaveHold_last {p : Port} {v : State} (others : otherHolders p v = []) (order : Nat) (own : Bool) :
    leaveHold p order own v = endHold order own (leftHold p v) :=
  if_pos ((leftHold_empty p v).mpr others)

theorem MonitorTested.handReply {u t : State} (h : MonitorTested u t) (p : Port) (code : ReplyCode) (l : List Byte) :
    MonitorTested u (handReply p code l t) := by
  have port (q : Port) : ((Machine.handReply p code l t).port q).dormant = (t.port q).dormant := by cases p <;> cases q <;> rfl
  have rests : (Machine.handReply p code l t).RestsForMonitor ↔ t.RestsForMonitor := by
    unfold State.RestsForMonitor
    simp only [port]
    exact Iff.rfl
  unfold MonitorTested at *
  simp only [rests]
  exact h

theorem exec_unhold {s : State} {p : Port} (order : Nat) (h : Hands s p) :
    exec (.unhold p (Framing.ofLength 0) order) s
      = .next (takeUnhold p order (handedOver p (.unhold p (Framing.ofLength 0) order) s)) :=
  exec_handed (r := .unhold) rfl s h (by cases p <;> rfl)

/-- R159 to R161: the last holder has left. -/
theorem leaveHold_ends {p : Port} {v : State} (others : otherHolders p v = []) (order : Nat) (on : v.operating = true)
    (running : v.power.phase = .running) : HoldEnds (leftHold p v) (leaveHold p order true v)
      ∧ ((leaveHold p order true v).holder p).joined = false := by
  have ends : HoldEnds (leftHold p v) (endHold order true (leftHold p v)) := endHold_ends order (v := leftHold p v) on running
  rw [leaveHold_last others]
  exact ⟨ends, (congrArg Holder.joined (ends.outer.holder p) :).trans (congrArg Holder.joined (setHolder_holder v p _) :)⟩

/-- Settles O49: the set changes, and the last to leave ends the hold. -/
theorem holdLeaves : Obligations.HoldLeaves := by
  intro s p order i u others left ends
  refine ⟨fun hands apart => ?_, fun hands joined some => ?_, fun hands joined none => ?_, fun on running due timed => ?_⟩
  · rw [exec_unhold order hands]
    exact congrArg Host.Outcome.next (if_neg (Bool.eq_false_iff.mp apart))
  · rw [exec_unhold order hands, takeUnhold, if_pos joined, leaveHold_others some]
    exact congrArg (fun n => Host.Outcome.next (withReply p .ok (bytesOf 1 u.hold.state.code ++ bytesOf 1 n) (left u)))
      (leftHold_count p u)
  · obtain ⟨ended, holder⟩ := leaveHold_ends none order (handedOver_operating p i s hands.1.1) (handedOver_running p i s hands)
    have ran : exec i s = .next (handReply p .ok (unholdReply (leaveHold p order true u).hold) (leaveHold p order true u)) := by
      rw [exec_unhold order hands, takeUnhold, if_pos joined]
    let v := leaveHold p order true u
    have reply : unholdReply v.hold = bytesOf 1 0 ++ bytesOf 1 0 := by
      have emptied : v.hold.empty = true := (holdEmpty_of_keeps ended.outer).trans ((leftHold_empty p u).mpr none)
      have count : v.hold.count = 0 := by
        rw [HoldCtl.empty, Bool.and_eq_true, Bool.and_eq_true, Bool.not_eq_true', Bool.not_eq_true', Bool.not_eq_true'] at emptied
        obtain ⟨⟨main, hub⟩, input⟩ := emptied
        rw [HoldCtl.count, main, hub, input]
        rfl
      rw [unholdReply, ended.off, count]
      rfl
    refine ⟨handReply p .ok (unholdReply v.hold) v, ran, ?_, ended.wanted, ended.off, holder, fun c _ active => ?_, fun cool => ?_,
      ended.tested.handReply p .ok _, handReply_frame ended.outer .ok _⟩
    · rw [reply]
      exact handReply_answers ..
    · rw [handReply_channel]
      exact ended.channels c (by cases c <;> exact active)
    · exact ended.head cool
  · intro v
    have ran : exec (.holdExpiry p order) s = .next (leaveHold p order true v) := by
      refine congrArg Host.Outcome.next ((if_pos on).trans ?_)
      rw [holderExpires, Option.mem_def.mp timed]
      exact congrArg (leaveHold p order true) (by cases p <;> rfl)
    refine ⟨fun some => ?_, fun none => ?_⟩
    · rw [ran]
      exact congrArg Host.Outcome.next (leaveHold_others (v := v) some order true)
    · obtain ⟨ended, holder⟩ := leaveHold_ends (v := v) none order on running
      have told : Noticed v p .holdExpired := by
        have raised := raiseNotice_noticed .holdExpired p (reach due s)
        have is : raiseNotice .holdExpired p (reach due s) = v := by cases p <;> rfl
        rwa [is] at raised
      have frame : (leaveHold p order true v).outer = (leftHold p v).outer := ended.outer
      refine ⟨leaveHold p order true v, ran, ⟨ended.wanted, ended.off, holder, fun c _ active => ended.channels c ?_, ended.head,
        ended.tested, ?_⟩, ended.noticed told⟩
      · cases c <;> exact active
      · rw [frame]
        rfl

end Sys2Proof.Machine
end

section
/-! A head that gives the link up (R121 to R123, R138, R145), and the grant to one of the three (R121, R139). -/

namespace Sys2Proof.Machine

/-! ### The choice while BALANCE cannot be chosen (R119) -/

theorem choose_ne_of_backoff {a : Arbiter} {n : Nat} {r q : Requester} (backoff : a.backoff q = some n) (chosen : a.choose = some r) : r ≠ q := by
  rintro rfl
  have none := (waits_of_choose chosen).2
  rw [backoff] at none
  contradiction

/-- R119: a request whose backoff runs does not change the choice. -/
theorem choose_put_balance {a : Arbiter} {n : Nat} (backoff : a.backoffBalance = some n) (b : Bool) :
    ({ a with waiting := a.waiting.put .balance b } : Arbiter).choose = a.choose := by
  have ineligible (w : Waiting) : ({ a with waiting := w } : Arbiter).eligible .balance = false := by
    rw [Arbiter.eligible, show ({ a with waiting := w } : Arbiter).backoff .balance = some n from backoff]
    exact Bool.and_false _
  have was : a.eligible .balance = false := ineligible a.waiting
  unfold Arbiter.choose
  rw [ineligible, was]
  rfl

/-! ### The link given up by a head that ends (R122, R123, R125) -/

/-- What the arbiter comes to as BALANCE gives the link up for good; n is the end of its backoff, `pair` what the link served last. -/
structure GivenUp (pair : Option Requester) (n : Nat) (a : Arbiter) : Prop where
  unheld : a.link ≠ .held .balance
  waits : a.waiting.balance = false
  backoff : a.backoffBalance = some n
  fresh : a.tenureExpired = false
  unchosen : a.link = .free → a.choose = none
  pair : a.lastPair = if a.link = .held .chargeB then some .chargeB else pair

theorem grantLink_of_ne (f g : State → State) {r : Requester} (ne : r ≠ .balance) (s : State) : grantLink f r s = grantLink g r s := by
  cases r with
  | supply => rfl
  | chargeB => rfl
  | balance => contradiction

theorem grantLink_arb (f : State → State) {r : Requester} (ne : r ≠ .balance) (s : State) :
    (grantLink f r s).arb = s.arb.granted s.now s.settings.tenure r := (grantLink_sameUsers f s ne).arb

/-- R121: a grant that the engine is not told of leaves the engine. -/
theorem grantLink_ne_reacts (f : State → State) {r : Requester} (ne : r ≠ .balance) (s : State) :
    Reacts arbiterEffects s (grantLink f r s) := by
  rw [grantLink_of_ne f id ne]
  exact grantLink_reacts (List.Subset.refl _) (fun u => .refl u) r s

theorem endChangeover_givesUp (f : State → State) {l : State} {n : Nat}
    (waits : l.arb.waiting.balance = false) (backoff : l.arb.backoffBalance = some n) (fresh : l.arb.tenureExpired = false) :
    GivenUp l.arb.lastPair n (endChangeover f l).arb ∧ Reacts arbiterEffects l (endChangeover f l) := by
  unfold endChangeover
  split
  next r chosen =>
    have ne : r ≠ .balance := choose_ne_of_backoff (q := .balance) backoff chosen
    refine ⟨?_, grantLink_ne_reacts f ne l⟩
    rw [grantLink_arb f ne]
    cases r with
    | supply => exact ⟨nofun, waits, backoff, rfl, nofun, rfl⟩
    | chargeB => exact ⟨nofun, waits, backoff, rfl, nofun, rfl⟩
    | balance => contradiction
  next unchosen =>
    have freed : Reacts arbiterEffects l (l.setArb { l.arb with link := .free }) :=
      (Touches.arb { l.arb with link := .free } l rfl).reacts (by decide)
    have reported := reportLink_reacts (l.setArb { l.arb with link := .free })
    refine ⟨?_, freed.trans (reported.mono (by decide))⟩
    rw [reported.arb_eq (by decide) (by decide)]
    exact ⟨nofun, waits, backoff, fresh, fun _ => unchosen, rfl⟩

/-- R125: BALANCE withdraws while it holds the link. -/
theorem withdrawLink_givesUp (f : State → State) {s : State} (held : s.arb.link = .held .balance) :
    GivenUp s.arb.lastPair (s.now + 100) (withdrawLink f .balance s).arb ∧ Reacts arbiterEffects s (withdrawLink f .balance s) := by
  have lost : Reacts arbiterEffects s (s.setArb (s.arb.lost s.now .balance false)) :=
    (Touches.arb (s.arb.lost s.now .balance false) s rfl).reacts (by decide)
  have told : Reacts arbiterEffects s (afterLoss .withdrawal .balance s) :=
    (lost.trans ((linkFollow_reacts _).mono (by decide))).trans
      (((reportLink_reacts _).mono (by decide)).trans (trigger_reacts _ (by decide)))
  have arb : (afterLoss .withdrawal .balance s).arb = s.arb.lost s.now .balance false := (afterLoss_sameUsers s .withdrawal .balance).arb
  rw [withdrawLink_held f held, loseLink_eq]
  split
  · obtain ⟨given, reacts⟩ := endChangeover_givesUp f (l := afterLoss .withdrawal .balance s) (n := s.now + 100)
      (by rw [arb]; rfl) (by rw [arb]; rfl) (by rw [arb]; rfl)
    rw [show (afterLoss .withdrawal .balance s).arb.lastPair = s.arb.lastPair from (congrArg Arbiter.lastPair arb :)] at given
    exact ⟨given, told.trans reacts⟩
  · refine ⟨?_, told⟩
    rw [arb]
    exact ⟨nofun, rfl, rfl, rfl, nofun, rfl⟩

/-! ### The next head waits (R138) -/

/-- R138: the next job as the head, where BALANCE can only wait. -/
def nextWaits (s : State) : State :=
  match s.bal.queue with
  | [] => s
  | j :: rest =>
    if s.balanceAllowed then asked .balance (s.setQueue ({ j with state := .queued } :: rest))
    else s.setQueue ({ j with state := .suspended } :: rest)

section
variable {pair : Option Requester} {n : Nat} {s : State}

theorem GivenUp.raise (h : GivenUp pair n s.arb) (f : State → State) : raiseLink f .balance s = asked .balance s := by
  have idle : ¬ (s.arb.link = .held .balance || s.arb.waiting.has .balance) = true := by
    rw [Bool.or_eq_true, decide_eq_true_iff]
    exact not_or.mpr ⟨h.unheld, Bool.eq_false_iff.mp h.waits⟩
  unfold raiseLink
  rw [if_neg idle]
  dsimp only
  split
  next free =>
    have unchosen : (asked .balance s).arb.choose = none := (choose_put_balance h.backoff true).trans (h.unchosen free)
    show chooseFree f (asked .balance s) = _
    unfold chooseFree
    rw [unchosen]
  next holder _ =>
    show (if s.arb.tenureExpired && holder == .chargeB then _ else asked .balance s) = asked .balance s
    rw [h.fresh, Bool.false_and]
    exact if_neg Bool.false_ne_true
  next => rfl

theorem GivenUp.newHead (h : GivenUp pair n s.arb) (f : State → State) : newHead f s = nextWaits s := by
  unfold Machine.newHead nextWaits
  cases s.bal.queue with
  | nil => rfl
  | cons j rest =>
    dsimp only
    split
    · exact GivenUp.raise (s := s.setQueue ({ j with state := .queued } :: rest)) h f
    · rfl

/-- R138: the queue and the arbiter as the next job waits, or is SUSPENDED. -/
theorem nextWaits_eq (s : State) : (nextWaits s).bal.queue.map Job.tag = s.bal.queue.map Job.tag
    ∧ (nextWaits s).bal.last = s.bal.last
    ∧ (∀ k ∈ (nextWaits s).bal.queue.head?, k.state = if s.balanceAllowed then .queued else .suspended)
    ∧ (s.arb.waiting.balance = false →
      (nextWaits s).arb = { s.arb with waiting := { s.arb.waiting with balance := decide (s.bal.queue ≠ []) && s.balanceAllowed } }) := by
  unfold nextWaits
  cases queue : s.bal.queue with
  | nil =>
    refine ⟨congrArg (List.map Job.tag) queue, rfl, fun k head => absurd head (by rw [queue]; exact Option.not_mem_none k), fun idle => ?_⟩
    show s.arb = { s.arb with waiting := { s.arb.waiting with balance := false } }
    rw [← idle]
  | cons j rest =>
    dsimp only
    split
    next allowed =>
      refine ⟨rfl, rfl, fun k head => ?_, fun _ => ?_⟩
      · rw [← Option.some.inj head]
      · rw [allowed]
        rfl
    next forbidden =>
      refine ⟨rfl, rfl, fun k head => ?_, fun idle => ?_⟩
      · rw [← Option.some.inj head]
      · rw [Bool.eq_false_iff.mpr forbidden, Bool.and_false]
        show s.arb = { s.arb with waiting := { s.arb.waiting with balance := false } }
        rw [← idle]

/-- R145: what the end of a head that holds the link comes to: it has given the link up, and the next job waits for it. -/
structure HeadGaveUp (s t : State) (j : Job) (rest : List Job) (reason : EndReason) : Prop where
  arb : ∃ a, GivenUp s.arb.lastPair (s.now + 100) a
    ∧ t.arb = { a with waiting := { a.waiting with balance := decide (rest ≠ []) && s.balanceAllowed } }
  tags : t.bal.queue.map Job.tag = rest.map Job.tag
  head : ∀ k ∈ t.bal.queue.head?, k.state = if s.balanceAllowed then .queued else .suspended
  last : t.bal.last = s.bal.last.set j.originator (some { tag := j.tag, reason := reason, moved := j.moved })
  noticed : Noticed t j.originator .balDone

theorem endHead_held (f : State → State) {j : Job} {rest : List Job} (queue : s.bal.queue = j :: rest) (held : s.arb.link = .held .balance)
    (going : j.state ≠ .suspended) (reason : EndReason) : HeadGaveUp s (endHead f reason s) j rest reason := by
  let e := withdrawLink f .balance (s.setQueue rest)
  let r := recordEnding j reason e
  obtain ⟨given, reacts⟩ := withdrawLink_givesUp f (s := s.setQueue rest) held
  have bal : e.bal = { s.bal with queue := rest } := reacts.bal_eq (by decide) (by decide) (by decide)
  have recorded : Reacts [.last, .notice] e r := recordEnding_reacts e (by decide) (by decide) j reason
  have arb : r.arb = e.arb := recorded.arb_eq (by decide) (by decide)
  have given' : GivenUp s.arb.lastPair (s.now + 100) r.arb := by rw [arb]; exact given
  have ended : endHead f reason s = queueEmptied (nextWaits r) := by
    rw [endHead, queue]
    dsimp only
    rw [if_neg going]
    exact congrArg queueEmptied (given'.newHead f)
  have queueIs : r.bal.queue = rest := (recorded.queue_eq (by decide)).trans (congrArg Balance.queue bal)
  have allowed : r.balanceAllowed = s.balanceAllowed := by
    rw [Bool.eq_iff_iff, recorded.allowed_iff (by decide), reacts.allowed_iff (by decide)]
    exact Iff.rfl
  have lastIs : r.bal.last = s.bal.last.set j.originator (some { tag := j.tag, reason := reason, moved := j.moved }) := by
    show e.bal.last.set _ _ = _
    rw [bal]
  have told : Noticed (nextWaits r) j.originator .balDone := by
    have raised : Noticed r j.originator .balDone := raiseNotice_noticed .balDone j.originator _
    have same : (nextWaits r).ports = r.ports := by
      unfold nextWaits
      split
      · rfl
      · split <;> rfl
    rwa [Noticed, State.port, same]
  obtain ⟨tags, last, head, waits⟩ := nextWaits_eq r
  have emptied : Reacts [.monitor] (nextWaits r) (queueEmptied (nextWaits r)) := queueEmptied_reacts _ (by decide)
  rw [ended]
  refine ⟨⟨r.arb, given', ?_⟩, ?_, ?_, ?_, emptied.noticed told⟩
  · rw [emptied.arb_eq (by decide) (by decide), waits given'.waits, queueIs, allowed]
  · rw [emptied.queue_eq (by decide), tags, queueIs]
  · rw [emptied.queue_eq (by decide), ← allowed]
    exact head
  · rw [emptied.last_eq (by decide), last, lastIs]

end

end Sys2Proof.Machine
end

section
/-! The grant that follows from a choice (R119, R121, R139, R145). -/

namespace Sys2Proof.Machine

section
variable {v t : State} {w : Requester}

/-! ### What the reports that end a grant leave -/

theorem reported_reacts (g : State) : Reacts calmEffects g (trigger (reportLink g)) :=
  ((reportLink_reacts g).mono (by decide)).trans (trigger_reacts _ (by decide))

theorem reported_view (g : State) : (trigger (reportLink g)).hold.view = g.arb.link := (reportLink_sameUsers g).view

theorem grantTaken_reacts (w : Requester) (v : State) : Reacts (.arb :: reportBEffects) v (grantTaken w v) := by
  have granted : Reacts (.arb :: reportBEffects) v (v.setArb (v.arb.granted v.now v.settings.tenure w)) :=
    (Touches.arb (v.arb.granted v.now v.settings.tenure w) v (by cases w <;> rfl)).reacts (by decide)
  have followed := granted.trans ((linkFollow_reacts _).mono (by decide))
  unfold grantTaken
  dsimp only
  split
  · exact followed.trans ((reportToB_reacts _ false).mono (by decide))
  · exact followed

theorem grantTaken_arb (w : Requester) (v : State) : (grantTaken w v).arb = v.arb.granted v.now v.settings.tenure w := by
  unfold grantTaken
  dsimp only
  split
  · exact (reportToB_sameUsers _ _).arb.trans (linkFollow_arb _)
  · exact linkFollow_arb _

theorem grantLink_eq (f : State → State) (w : Requester) (v : State) :
    grantLink f w v = trigger (reportLink (if w = .balance then f (grantTaken w v) else grantTaken w v)) := by
  cases w <;> rfl

/-- R98, R8: the target of the link after a report to channel B. -/
theorem reportToB_target (b : Bool) (u : State) : (reportToB b u).linkStage.target = (reportToB b u).linkTarget := by
  have changed (x : State) : (linkFollow x).linkStage.target = (linkFollow x).linkTarget :=
    (linkFollow_target x).trans (linkFollow_linkTarget x).symm
  have triggered (x : State) (h : x.linkStage.target = x.linkTarget) : (trigger x).linkStage.target = (trigger x).linkTarget := by
    have last : Reacts [.pass] x (trigger x) := trigger_reacts x (by decide)
    unfold State.linkTarget at *
    rw [last.linkStage_eq (by decide), last.arb_eq (by decide) (by decide), Keeps.record last.keeps, Keeps.present last.keeps,
      last.bal_eq (by decide) (by decide) (by decide),
      show (trigger x).chB.presented = x.chB.presented from (congrArg Channel.presented (last.chB_fresh (by decide) (by decide)) :)]
    exact h
  unfold reportToB
  dsimp only
  split
  · exact triggered _ (changed _)
  · exact changed _

/-! ### The grant to each of the three -/

theorem grant_supply (f : State → State) (v : State) : let t := grantLink f .supply v
    t.hold.view = .held .supply ∧ t.linkStage.target = Flow.of .bToNode v.alloc.record.sB ∧ t.bal = v.bal
      ∧ t.arb = v.arb.granted v.now v.settings.tenure .supply := by
  have bal := (grantLink_ne_reacts f (r := .supply) nofun v).bal_eq (by decide) (by decide) (by decide)
  have last := reported_reacts (grantTaken .supply v)
  refine ⟨(reported_view (grantTaken .supply v)).trans ?_, (congrArg Stage.target (last.linkStage_eq (by decide))).trans ?_, bal,
    grantLink_arb f (r := .supply) nofun v⟩
  · rw [grantTaken_arb]
    rfl
  · exact linkFollow_target _

theorem grant_chargeB (f : State → State) (v : State) : let t := grantLink f .chargeB v
    t.hold.view = .held .chargeB ∧ t.bal = v.bal ∧ (v.chB.state = .active → t.chB.reasons.noLink = false)
      ∧ (v.present = true → t.linkStage.target = Flow.of .nodeToB t.chB.presented)
      ∧ t.arb = v.arb.granted v.now v.settings.tenure .chargeB := by
  let g := grantTaken .chargeB v
  have reacts := grantLink_ne_reacts f (r := .chargeB) nofun v
  have last : Reacts calmEffects g (grantLink f .chargeB v) := reported_reacts g
  have fresh := last.chB_fresh (by decide) (by decide)
  refine ⟨(reported_view g).trans ?_, reacts.bal_eq (by decide) (by decide) (by decide), fun active => ?_, fun present => ?_,
    grantLink_arb f (r := .chargeB) nofun v⟩
  · rw [show g.arb = _ from grantTaken_arb .chargeB v]
    rfl
  · have follows : FollowsB g := followsB_reported (by rw [linkFollow_arb]; exact iff_of_true rfl rfl)
    have still : g.chB.state = .active := (congrArg Channel.state ((grantTaken_reacts .chargeB v).chB_linkless (by decide)) :).trans active
    have holder : g.arb.holder = some .chargeB := (holder_chargeB _).mpr (by rw [show g.arb = _ from grantTaken_arb .chargeB v]; rfl)
    refine (congrArg (fun ch : Channel => ch.reasons.noLink) fresh :).trans ((follows still).1.trans ?_)
    rw [holder]
    rfl
  · have target : g.linkStage.target = g.linkTarget := reportToB_target _ _
    have carries : g.linkTarget = Flow.of .nodeToB g.chB.presented := by
      rw [State.linkTarget, show g.arb = _ from grantTaken_arb .chargeB v]
      exact if_pos ((Keeps.present (grantTaken_reacts .chargeB v).keeps).trans present)
    rw [last.linkStage_eq (by decide), target, carries, show (grantLink f .chargeB v).chB.presented = g.chB.presented from
      (congrArg Channel.presented fresh :)]

/-- R139: the head RUNS. -/
def headRuns (j : Job) (way : Way) (now : Nat) : Job := { j with state := .running, resolved := some way, heldSince := some now }

theorem grant_balance_runs (v : State) {j : Job} {rest : List Job} (queue : v.bal.queue = j :: rest) (queued : j.state = .queued)
    (runs : j.endsAtStart v.sample = none) : let t := grantLink startChecks .balance v
    t.hold.view = .held .balance
      ∧ t.linkStage.target = Flow.of (if j.wayAtStart v.sample = .aToB then .aToB else .bToA) j.rate
      ∧ t.bal = { v.bal with queue := headRuns j (j.wayAtStart v.sample) v.now :: rest }
      ∧ t.arb = v.arb.granted v.now v.settings.tenure .balance := by
  let g := grantTaken .balance v
  have reacts : Reacts (.arb :: reportBEffects) v g := grantTaken_reacts .balance v
  have bal : g.bal = v.bal := reacts.bal_eq (by decide) (by decide) (by decide)
  have arb : g.arb = v.arb.granted v.now v.settings.tenure .balance := grantTaken_arb .balance v
  let q := g.setQueue (headRuns j (j.wayAtStart v.sample) v.now :: rest)
  have check : j.startCheck g.sample = .inl (j.wayAtStart v.sample) := by
    rw [Keeps.sample reacts.keeps, Job.startCheck_eq, runs]
  have started : startChecks g = linkFollow q := by
    rw [startChecks, bal, queue]
    dsimp only
    rw [if_pos queued, check]
    exact congrArg (fun n => linkFollow (g.setQueue (headRuns j (j.wayAtStart v.sample) n :: rest))) (Keeps.now reacts.keeps)
  have followed := linkFollow_reacts q
  have last : Reacts calmEffects (linkFollow q) (grantLink startChecks .balance v) := by
    rw [grantLink_eq, if_pos rfl, show startChecks (grantTaken .balance v) = _ from started]
    exact reported_reacts _
  have all : Reacts (.view :: followEffects) q (grantLink startChecks .balance v) :=
    (followed.mono (by decide)).trans (last.mono (by decide))
  refine ⟨?_, (congrArg Stage.target (last.linkStage_eq (by decide))).trans ((linkFollow_target q).trans ?_), ?_, ?_⟩
  · rw [grantLink_eq, if_pos rfl, reported_view, show startChecks (grantTaken .balance v) = _ from started, linkFollow_arb]
    show g.arb.link = _
    rw [arb]
    rfl
  · have own : q.arb.link = .held .balance := by
      show g.arb.link = _
      rw [arb]
      rfl
    rw [State.linkTarget, own]
    show (if JobState.running = .running then Flow.of (wayDir (j.wayAtStart v.sample)) j.rate else Flow.zero) = _
    cases j.wayAtStart v.sample <;> rfl
  · rw [all.bal_eq (by decide) (by decide) (by decide)]
    show ({ g.bal with queue := headRuns j (j.wayAtStart v.sample) v.now :: rest } : Balance) = _
    rw [bal]
  · rw [all.arb_eq (by decide) (by decide)]
    exact arb

/-- R139, R145: the head that is granted the link ends at its start checks. -/
theorem grant_balance_ends (v : State) {j : Job} {rest : List Job} (queue : v.bal.queue = j :: rest) (queued : j.state = .queued)
    {r : EndReason} (ends : j.endsAtStart v.sample = some r) : let t := grantLink startChecks .balance v
    t.arb.link ≠ .held .balance ∧ t.arb.backoffBalance = some (v.now + 100)
      ∧ t.arb.lastPair = (if t.arb.link = .held .chargeB then some .chargeB else some .balance)
      ∧ t.bal.queue.map Job.tag = rest.map Job.tag ∧ Noticed t j.originator .balDone
      ∧ t.bal.last = v.bal.last.set j.originator (some { tag := j.tag, reason := r, moved := j.moved })
      ∧ (rest = [] → t.arb.waiting.balance = false) := by
  let g := grantTaken .balance v
  have reacts : Reacts (.arb :: reportBEffects) v g := grantTaken_reacts .balance v
  have bal : g.bal = v.bal := reacts.bal_eq (by decide) (by decide) (by decide)
  have arb : g.arb = v.arb.granted v.now v.settings.tenure .balance := grantTaken_arb .balance v
  have check : j.startCheck g.sample = .inr r := by
    rw [Keeps.sample reacts.keeps, Job.startCheck_eq, ends]
  have queueIs : g.bal.queue = j :: rest := by rw [bal, queue]
  have ended : startChecks g = endHead id r g := by
    rw [startChecks, queueIs]
    dsimp only
    rw [if_pos queued, check]
  have last : Reacts calmEffects (endHead id r g) (grantLink startChecks .balance v) := by
    rw [grantLink_eq, if_pos rfl, show startChecks (grantTaken .balance v) = _ from ended]
    exact reported_reacts _
  obtain ⟨⟨a, given, arbIs⟩, tags, -, lastIs, noticed⟩ := endHead_held id queueIs (by rw [arb]; rfl) (by rw [queued]; nofun) r
  have now : g.now = v.now := Keeps.now reacts.keeps
  intro t
  have arbT : t.arb = _ := (last.arb_eq (by decide) (by decide)).trans arbIs
  refine ⟨?_, ?_, ?_, ?_, last.noticed noticed, ?_, fun alone => ?_⟩
  · rw [arbT]
    exact given.unheld
  · rw [arbT, ← now]
    exact given.backoff
  · rw [arbT]
    exact given.pair.trans (by rw [show g.arb.lastPair = some .balance by rw [arb]; rfl])
  · rw [last.queue_eq (by decide)]
    exact tags
  · rw [last.last_eq (by decide), lastIs, bal]
  · rw [arbT, alone]
    rfl

/-! ### The grant as a whole -/

theorem grantLink_wanted (f : State → State) (reaches : ∀ s, Reacts engineEffects s (f s)) (on : v.operating = true)
    (running : v.power.phase = .running) (w : Requester) : PassWanted v (grantLink f w v) := by
  have taken : Reacts engineEffects v (if w = .balance then f (grantTaken w v) else grantTaken w v) := by
    have granted : Reacts engineEffects v (grantTaken w v) := (grantTaken_reacts w v).mono (by decide)
    exact .ite (granted.trans (reaches _)) granted
  have told := taken.trans ((reportLink_reacts _).mono (by decide))
  rw [grantLink_eq]
  exact told.passGoesOn.passWanted ((Keeps.phase told.keeps).trans running) (told.operating_eq.trans on)

theorem startChecks_of_empty {s : State} (empty : s.bal.queue = []) : startChecks s = s := by rw [startChecks, empty]

/-- R202: a grant with an empty queue tests for nothing; any other leaves nothing to be tested for. -/
theorem grantLink_tested (on : v.operating = true) (unheld : v.arb.Unheld) (chosen : v.arb.choose = some w) :
    let t := grantLink startChecks w v
    if v.RestsForMonitor then t.power = v.power ∧ t.seq = v.seq else MonitorTested v t := by
  split
  next rests =>
    obtain ⟨-, -, -, -, -, empty, -⟩ := rests
    have taken := grantTaken_reacts w v
    have answer : (if w = .balance then startChecks (grantTaken w v) else grantTaken w v) = grantTaken w v := by
      split
      · exact startChecks_of_empty ((taken.queue_eq (by decide)).trans empty)
      · rfl
    have all : Reacts arbiterEffects v (grantLink startChecks w v) := by
      rw [grantLink_eq, answer]
      exact (taken.mono (by decide)).trans ((reported_reacts _).mono (by decide))
    exact ⟨all.power_eq (by decide), all.seq_eq (by decide)⟩
  next busy =>
    have unquiet : v.quiet = false := Bool.eq_false_iff.mpr fun quiet => by
      obtain ⟨-, -, -, rests⟩ := (quiet_iff v).mp quiet
      exact busy rests
    have rested : Rested v (grantLink startChecks w v) :=
      .of_reacts (grantLink_reacts (E := engineEffects) (by decide) startChecks_reacts w v) (by decide) (by decide)
    exact rested.tested (unquietRules.grantLink startChecks_unquiet unquiet unheld chosen) (Bool.and_eq_true_iff.mp on).1

theorem grantLink_granted (on : v.operating = true) (running : v.power.phase = .running) (unheld : v.arb.Unheld)
    (chosen : v.arb.choose = some w) : Granted v (grantLink startChecks w v) w := by
  have outer : (grantLink startChecks w v).outer = v.outer := grantLink_outer startChecks_outer w v
  refine ⟨grantLink_wanted startChecks startChecks_reacts on running w, grantLink_tested on unheld chosen, ?_, ?_⟩
  · rw [outer]
  cases w with
  | supply => exact grant_supply startChecks v
  | chargeB => exact grant_chargeB startChecks v
  | balance =>
    have stays (same : startChecks (grantTaken .balance v) = grantTaken .balance v) :
        (grantLink startChecks .balance v).arb = v.arb.granted v.now v.settings.tenure .balance := by
      rw [grantLink_eq, if_pos rfl, same, (reported_reacts _).arb_eq (by decide) (by decide), grantTaken_arb]
    have bal : (grantTaken .balance v).bal = v.bal := (grantTaken_reacts .balance v).bal_eq (by decide) (by decide) (by decide)
    cases queue : v.bal.queue with
    | nil =>
      have arb := stays (startChecks_of_empty (by rw [bal, queue]))
      exact ⟨.inl ⟨congrArg Arbiter.link arb, congrArg Arbiter.lastPair arb⟩, fun j none => nomatch none⟩
    | cons j rest =>
      by_cases queued : j.state = .queued
      · cases check : j.endsAtStart v.sample with
        | none =>
          obtain ⟨view, target, balIs, arb⟩ := grant_balance_runs v queue queued check
          refine ⟨.inl ⟨(congrArg Arbiter.link arb :), (congrArg Arbiter.lastPair arb :)⟩, fun k head _ => ?_⟩
          obtain rfl := Option.some.inj head
          exact ⟨fun _ => ⟨view, target, balIs, arb⟩, fun r ends => absurd (check.symm.trans ends) nofun⟩
        | some r =>
          obtain ⟨unheld, backoff, pair, tags, noticed, last, -⟩ := grant_balance_ends v queue queued check
          refine ⟨.inr backoff, fun k head _ => ?_⟩
          obtain rfl := Option.some.inj head
          refine ⟨fun runs => absurd (check.symm.trans runs) nofun, fun q ends => ?_⟩
          obtain rfl := Option.some.inj (check.symm.trans ends)
          exact ⟨unheld, backoff, pair, tags, noticed, last⟩
      · have arb := stays (by rw [startChecks, bal, queue]; exact if_neg queued)
        refine ⟨.inl ⟨congrArg Arbiter.link arb, congrArg Arbiter.lastPair arb⟩, fun k head is => ?_⟩
        obtain rfl := Option.some.inj head
        exact absurd is queued

/-! ### A grant after reports that change neither arbiter nor engine -/

theorem Granted.back {u : State} {E : List Effect} (h : Granted v t w) (reacts : Reacts E u v) (na : .arb ∉ E) (nl : .lock ∉ E)
    (nq : .queue ∉ E) (nlast : .last ∉ E) (nh : .hot ∉ E) (nm : .monitor ∉ E) (nA : .chA ∉ E) (nB : .chB ∉ E) : Granted u t w := by
  obtain ⟨wanted, tested, outer, taken⟩ := h
  have arb : v.arb = u.arb := reacts.arb_eq na nl
  have bal : v.bal = u.bal := reacts.bal_eq nq nlast nh
  have kept : v.outer = u.outer := reacts.keeps
  have stateB : v.chB.state = u.chB.state := (congrArg Channel.state (reacts.chB_linkless nB) :)
  have rests : v.RestsForMonitor ↔ u.RestsForMonitor := by
    have stateA : v.chA.state = u.chA.state := (congrArg Channel.state (reacts.chA_fresh nA) :)
    have dormant (q : Port) : (v.port q).dormant = (u.port q).dormant := (congrArg PortState.dormant (Keeps.port reacts.keeps q) :)
    unfold State.RestsForMonitor
    rw [reacts.power_eq nm, Keeps.input reacts.keeps, reacts.holdOff_iff, stateA, stateB, bal]
    simp only [dormant]
  refine ⟨?_, ?_, ?_, ?_⟩
  · unfold PassWanted at *
    cases was : u.alloc.pass with
    | none =>
      cases now : v.alloc.pass with
      | none =>
        rw [now] at wanted
        exact wanted
      | some x =>
        rw [now] at wanted
        exact ⟨x, wanted.1, .inl wanted.2⟩
    | some x =>
      rw [(reacts.passGoesOn x was).1] at wanted
      exact wanted
  · unfold MonitorTested at *
    simp only [rests, reacts.power_eq nm, reacts.seq_eq nm] at tested
    exact tested
  · rw [← kept]
    exact outer
  · rw [arb, bal, Keeps.now reacts.keeps, Keeps.settings reacts.keeps, Keeps.sample reacts.keeps, Keeps.record reacts.keeps,
      Keeps.present reacts.keeps, stateB] at taken
    exact taken

end

end Sys2Proof.Machine
end

section
/-! CHARGE_B yields to BALANCE (R122, R126, R127), and the choice that follows (R119, R123). -/

namespace Sys2Proof.Machine

/-! ### CHARGE_B waits in its backoff -/

/-- CHARGE_B waits out its backoff, which ends at n. -/
structure WaitsB (n : Nat) (a : Arbiter) : Prop where
  unheld : a.link ≠ .held .chargeB
  waits : a.waiting.chargeB = true
  backoff : a.backoffChargeB = some n

theorem waitsBRules (n : Nat) : BalanceArbRules (WaitsB n) where
  grants {a r} now tenure h _ chosen := by
    have ne : r ≠ .chargeB := choose_ne_of_backoff (q := .chargeB) h.backoff chosen
    cases r with
    | supply => exact ⟨nofun, h.waits, h.backoff⟩
    | chargeB => contradiction
    | balance => exact ⟨nofun, h.waits, h.backoff⟩
  loses {a r} now h held := by
    cases r with
    | supply => exact ⟨nofun, h.waits, h.backoff⟩
    | chargeB => exact absurd held h.unheld
    | balance => exact ⟨nofun, h.waits, h.backoff⟩
  frees h _ := ⟨nofun, h.waits, h.backoff⟩
  pends h := ⟨h.unheld, h.waits, h.backoff⟩
  asks h _ := ⟨h.unheld, h.waits, h.backoff⟩
  gives _ h _ := ⟨nofun, h.waits, h.backoff⟩
  unasks _ h _ := ⟨h.unheld, h.waits, h.backoff⟩

/-- R98: NO_LINK leaves no demand. -/
theorem presents_of_noLink {c : Cell} {profile : List StepRecord} {ch : Channel} (presents : ch.Presents c profile)
    (noLink : ch.reasons.noLink = true) : ch.presented = 0 := by
  have stopped : ch.demand c profile = 0 := by
    refine if_neg ?_
    rw [Reasons.stopsDemand, noLink]
    simp
  rw [Channel.Presents, stopped] at presents
  exact presents.trans (Nat.min_zero _)

/-! ### The yield -/

section
variable {v : State}

/-- R122: the arbiter once CHARGE_B has lost the link. -/
def yieldLost (v : State) : State := v.setArb (v.arb.lost v.now .chargeB true)

theorem afterYield_reacts (v : State) : Reacts (.view :: reportBEffects) (yieldLost v) (afterLoss .yield .chargeB v) :=
  (((linkFollow_reacts (yieldLost v)).mono (by decide)).trans ((reportToB_reacts _ true).mono (by decide))).trans
    ((reported_reacts _).mono (by decide))

/-- R122, R123: the link's stage once it has taken its zero target. -/
theorem afterYield_stage (v : State) : (afterLoss .yield .chargeB v).linkStage
    = (v.linkStage.take (v.linkStage.flowNow v.freeUses) Flow.zero).1 := by
  let x := linkFollow (yieldLost v)
  have stage : x.linkStage = (v.linkStage.take (v.linkStage.flowNow v.freeUses) Flow.zero).1 := linkFollow_linkStage (yieldLost v)
  have stays (u : State) (zero : u.linkTarget = Flow.zero) (target : u.linkStage.target = Flow.zero) : (linkFollow u).linkStage = u.linkStage := by
    rw [linkFollow, if_pos (zero.trans target.symm)]
  have zero (ch : Channel) : ({ x with chB := ch } : State).linkTarget = Flow.zero := by
    rw [State.linkTarget, show ({ x with chB := ch } : State).arb = (yieldLost v).arb from linkFollow_arb (yieldLost v)]
    rfl
  have target : x.linkStage.target = Flow.zero := linkFollow_target (yieldLost v)
  have told : (reportToB true x).linkStage = x.linkStage := by
    have changed (ch : Channel) := stays { x with chB := ch } (zero ch) target
    unfold reportToB
    dsimp only
    split
    · exact ((trigger_reacts (E := [.pass]) _ (by decide)).linkStage_eq (by decide)).trans (changed _)
    · exact changed _
  exact ((reported_reacts _).linkStage_eq (by decide)).trans (told.trans stage)

/-- R123: where the link does not settle at once. -/
def YieldRamps (v : State) : Prop :=
  if v.linkStage.target = Flow.zero then v.linkStage.ramping = true else v.linkStage.flowNow v.freeUses ≠ Flow.zero

theorem afterYield_settled (v : State) : (afterLoss .yield .chargeB v).linkSettledZero = true ↔ ¬ YieldRamps v := by
  unfold State.linkSettledZero YieldRamps
  rw [afterYield_stage]
  by_cases target : v.linkStage.target = Flow.zero
  · rw [if_pos target, ← target, take_same]
    simp
  · rw [if_neg target]
    by_cases now : v.linkStage.flowNow v.freeUses = Flow.zero
    · rw [now, take_at_output _ _ (Ne.symm target)]
      simp
    · rw [take_ramps _ _ _ (Ne.symm target) (Ne.symm now)]
      simpa using now

theorem afterYield_wanted (on : v.operating = true) (running : v.power.phase = .running) :
    PassWanted v (afterLoss .yield .chargeB v) := by
  let x := reportLink (reportToB true (linkFollow (yieldLost v)))
  have told : Reacts (.view :: reportBEffects) (yieldLost v) x :=
    ((linkFollow_reacts (yieldLost v)).mono (by decide)).trans (((reportToB_reacts _ true).mono (by decide)).trans
      ((reportLink_reacts _).mono (by decide)))
  have wanted : PassWanted (yieldLost v) (trigger x) :=
    told.passGoesOn.passWanted ((Keeps.phase told.keeps).trans running) (told.operating_eq.trans on)
  exact wanted

theorem yield_waits (v : State) : WaitsB (v.now + 100) (loseLink startChecks .yield .chargeB v).arb := by
  have rules := (waitsBRules (v.now + 100)).engineRules
  refine rules.toLinkRules.loseLink_of (cause := .yield) rules.startChecks ?_
  have lost : (lossTaken .chargeB true v).arb = v.arb.lost v.now .chargeB true :=
    (reportToB_sameUsers _ _).arb.trans (linkFollow_arb _)
  rw [show (LossCause.yield != .withdrawal) = true from rfl, lost]
  exact ⟨nofun, rfl, rfl⟩

/-- R94, R122: after the yield NO_LINK follows the holder. -/
theorem yield_follows (v : State) : FollowsB (loseLink startChecks .yield .chargeB v) := by
  refine followsRules.toLinkRules.loseLink_of (cause := .yield) followsRules.startChecks ?_
  refine followsB_reported (s := linkFollow (yieldLost v)) ?_
  rw [linkFollow_arb]
  exact iff_of_false nofun nofun

theorem yield_channelB {t : State} (is : t = loseLink startChecks .yield .chargeB v) (active : v.chB.state = .active) :
    t.chB.reasons.noLink = true ∧ t.chB.presented = 0 := by
  have reacts : Reacts engineEffects v t := is ▸ lossOf_reacts v .yield .chargeB
  have waits : WaitsB (v.now + 100) t.arb := is ▸ yield_waits v
  have follows : FollowsB t := is ▸ yield_follows v
  have still : t.chB.state = .active := (congrArg Channel.state (reacts.chB_linkless (by decide)) :).trans active
  obtain ⟨noLink, presents⟩ := follows still
  have set : t.chB.reasons.noLink = true := by
    rw [noLink, decide_eq_true_iff, ne_eq, holder_chargeB]
    exact waits.unheld
  exact ⟨set, presents_of_noLink presents set⟩

/-- R123: what a link that becomes FREE leaves. -/
theorem linkFreed_users (l : State) : let t := reportLink (l.setArb { l.arb with link := .free })
    t.arb = { l.arb with link := .free } ∧ t.bal = l.bal ∧ t.hold.view = .free := by
  have last := reportLink_reacts (l.setArb { l.arb with link := .free })
  have view : (reportLink (l.setArb { l.arb with link := .free })).hold.view = .free :=
    (holdTest_sameUsers ((l.setArb { l.arb with link := .free }).setHold { l.hold with view := .free })).view
  exact ⟨last.arb_eq (by decide) (by decide), last.bal_eq (by decide) (by decide) (by decide), view⟩

theorem snapshot_setArb (s : State) {a : Arbiter} (holder : a.holder = s.arb.holder) : (s.setArb a).snapshot = s.snapshot := by
  have moved : (s.setArb a).snapshot = { s.snapshot with holder := a.holder } := rfl
  rw [moved, holder]
  rfl

/-- R66, R123: a link that becomes FREE leaves a wanted pass wanted. -/
theorem linkFreed_wanted {l : State} (wanted : PassWanted v l) (link : l.arb.link = .changeover) :
    PassWanted v (reportLink (l.setArb { l.arb with link := .free })) := by
  have holder : ({ l.arb with link := .free } : Arbiter).holder = l.arb.holder := by
    rw [Arbiter.holder, Arbiter.holder, link]
  have freed : PassWanted v (l.setArb { l.arb with link := .free }) := wanted.congr rfl (snapshot_setArb l holder)
  exact freed.reacts (reportLink_reacts _) (by decide) (by decide) (by decide) (by decide) (by decide)

/-- R122, R126, R127: CHARGE_B yields at once. -/
theorem yield_yielded (on : v.operating = true) (running : v.power.phase = .running) :
    Yielded v (loseLink startChecks .yield .chargeB v) := by
  let l := afterLoss .yield .chargeB v
  obtain ⟨t, is⟩ : ∃ t, t = loseLink startChecks .yield .chargeB v := ⟨_, rfl⟩
  have reacts : Reacts (.view :: reportBEffects) (yieldLost v) l := afterYield_reacts v
  have arb : l.arb = v.arb.lost v.now .chargeB true := (afterLoss_sameUsers v .yield .chargeB).arb
  have view : l.hold.view = .changeover := (afterLoss_sameUsers v .yield .chargeB).view
  have bal : l.bal = v.bal := reacts.bal_eq (by decide) (by decide) (by decide)
  have onL : l.operating = true := reacts.operating_eq.trans on
  have runningL : l.power.phase = .running := (Keeps.phase reacts.keeps).trans running
  have wanted : PassWanted v l := afterYield_wanted on running
  have ramps (r : YieldRamps v) : t = l := by
    rw [is, loseLink_eq, if_neg (mt (afterYield_settled v).mp (not_not.mpr r))]
  have settles (r : ¬ YieldRamps v) : t = endChangeover startChecks l := by
    rw [is, loseLink_eq, if_pos ((afterYield_settled v).mpr r)]
  have frees (r : ¬ YieldRamps v) (none : l.arb.choose = none) : t = reportLink (l.setArb { l.arb with link := .free }) := by
    rw [settles r, endChangeover, none]
  have grants (r : ¬ YieldRamps v) {w : Requester} (chosen : l.arb.choose = some w) : t = grantLink startChecks w l := by
    rw [settles r, endChangeover, chosen]
  have choice : l.arb.choose = (v.arb.lost v.now .chargeB true).choice := by rw [Arbiter.choose_eq_choice, arb]
  have granted (r : ¬ YieldRamps v) {w : Requester} (chosen : l.arb.choose = some w) : Granted (yieldLost v) t w := by
    rw [grants r chosen]
    exact (grantLink_granted onL runningL (.inr (congrArg Arbiter.link arb)) chosen).back reacts (by decide) (by decide) (by decide)
      (by decide) (by decide) (by decide) (by decide) (by decide)
  have freed : PassWanted v (reportLink (l.setArb { l.arb with link := .free })) := linkFreed_wanted wanted (congrArg Arbiter.link arb)
  have kept : t.outer = v.outer := is ▸ loseLink_outer startChecks_outer .yield .chargeB v
  have channelB : v.chB.state = .active → t.chB.reasons.noLink = true ∧ t.chB.presented = 0 := yield_channelB is
  rw [← is]
  refine ⟨?_, ?_, channelB, fun r => ?_, fun r none => ?_, fun r w chosen => granted r (choice.trans chosen)⟩
  · by_cases r : YieldRamps v
    · rw [ramps r]
      exact wanted
    · cases chosen : l.arb.choose with
      | none =>
        rw [frees r chosen]
        exact freed
      | some w => exact (granted r chosen).1
  · rw [kept]
  · rw [ramps r]
    refine ⟨arb, bal, view, ?_⟩
    rw [afterYield_stage, Stage.take_target]
  · have unchosen := choice.trans none
    rw [frees r unchosen]
    obtain ⟨arbIs, balIs, viewIs⟩ := linkFreed_users l
    exact ⟨arbIs.trans (congrArg (fun a : Arbiter => { a with link := .free }) arb), balIs.trans bal, viewIs⟩

end

end Sys2Proof.Machine
end

section
/-! The arbiter's timers and the monitor hold-off (R119, R126, R127, R129, R203): O51. -/

namespace Sys2Proof.Machine

section
variable {v : State} {w : Requester}

theorem linkSettledZero_iff (s : State) : s.linkSettledZero = true ↔ s.linkStage.ramping = false ∧ s.linkStage.target = Flow.zero := by
  simp [State.linkSettledZero]

/-- R120: a choice in FREE that cannot be granted, or chooses nobody, changes nothing. -/
theorem choiceFree_idle (h : ¬ (v.linkStage.ramping = false ∧ v.linkStage.target = Flow.zero) ∨ v.arb.choice = none) : choiceFree v = v := by
  unfold choiceFree chooseFree
  rw [Arbiter.choose_eq_choice]
  split
  next w chosen =>
    rw [if_neg]
    rw [linkSettledZero_iff]
    exact h.resolve_right (by rw [chosen]; nofun)
  next => rfl

theorem choiceFree_grants (settled : v.linkStage.ramping = false ∧ v.linkStage.target = Flow.zero) (chosen : v.arb.choice = some w) :
    choiceFree v = grantLink startChecks w v := by
  unfold choiceFree chooseFree
  rw [Arbiter.choose_eq_choice, chosen]
  exact if_pos ((linkSettledZero_iff v).mpr settled)

/-- R119, R121: a choice in FREE that is granted. -/
theorem choiceFree_granted (on : v.operating = true) (running : v.power.phase = .running) (free : v.arb.link = .free)
    (settled : v.linkStage.ramping = false ∧ v.linkStage.target = Flow.zero) (chosen : v.arb.choice = some w) :
    Granted v (choiceFree v) w := by
  rw [choiceFree_grants settled chosen]
  exact grantLink_granted on running (.inl free) ((Arbiter.choose_eq_choice v.arb).trans chosen)

/-- R126: the other of the pair waits while one holds the link. -/
def OtherWaits (a : Arbiter) : Prop :=
  (a.link = .held .chargeB ∧ a.waiting.balance = true) ∨ (a.link = .held .balance ∧ a.waiting.chargeB = true)

theorem yieldAtExpiry_stays (alone : ¬ OtherWaits v.arb) : yieldAtExpiry v = v := by
  unfold yieldAtExpiry
  split
  next r held =>
    refine if_neg fun both => alone ?_
    cases r with
    | supply => contradiction
    | chargeB => exact .inl ⟨held, both⟩
    | balance => exact .inr ⟨held, both⟩
  next => rfl
  next => rfl

theorem yieldAtExpiry_yields (other : OtherWaits v.arb) {r : Requester} (held : v.arb.link = .held r) : yieldAtExpiry v = yieldOf r v := by
  unfold yieldAtExpiry
  rw [held]
  refine if_pos ?_
  unfold OtherWaits at other
  rw [held] at other
  cases r with
  | supply => rcases other with ⟨own, -⟩ | ⟨own, -⟩ <;> contradiction
  | chargeB => exact other.elim (fun h => h.2) fun h => nomatch h.1
  | balance => exact other.elim (fun h => nomatch h.1) fun h => h.2

end

/-- Settles O51: each expiry stops its timer, and then the arbiter's or the power state's part follows. -/
theorem arbiterTimersExpire : Obligations.ArbiterTimersExpire := by
  intro s r on running other quiet
  refine ⟨fun due timed => ?_, fun due timed => ?_, fun due timed => ?_⟩
  · intro v
    have ran : exec .tenureExpiry s = .next (yieldAtExpiry v) := by
      refine congrArg Host.Outcome.next ((if_pos on).trans ?_)
      rw [tenureExpires, Option.mem_def.mp timed]
      rfl
    have waits : OtherWaits v.arb ↔ other := Iff.rfl
    refine ⟨fun alone => ?_, fun yes held => ?_, fun yes held => ?_⟩
    · rw [ran, yieldAtExpiry_stays (mt waits.mp alone)]
    · rw [ran, yieldAtExpiry_yields (waits.mpr yes) held]
      rfl
    · let t := loseLink startChecks .yield .chargeB v
      have yielded : Yielded v t := yield_yielded (v := v) on running
      have waitsB : WaitsB (v.now + 100) t.arb := yield_waits v
      obtain ⟨wanted, -, channelB, -⟩ := yielded
      refine ⟨t, ?_, wanted, loseLink_outer startChecks_outer .yield .chargeB v, mt (holder_chargeB _).mp waitsB.unheld, waitsB.waits,
        waitsB.backoff, fun active _ => channelB active⟩
      rw [ran, yieldAtExpiry_yields (waits.mpr yes) held]
      rfl
  · intro v grants
    have ran : exec (.backoffExpiry r) s = .next (match v.arb.link with
        | .free => choiceFree v
        | .held _ => v
        | .changeover => v) := by
      refine congrArg Host.Outcome.next ((if_pos on).trans ?_)
      rw [backoffExpires, Option.mem_def.mp timed]
      cases r with
      | supply => contradiction
      | chargeB => rfl
      | balance => rfl
    refine ⟨fun idle => ?_, fun ⟨free, settled⟩ w chosen => ?_⟩
    · rw [ran]
      refine congrArg Host.Outcome.next ?_
      split
      next free => exact choiceFree_idle (idle.imp_left fun no settled => no ⟨free, settled⟩)
      next => rfl
      next => rfl
    · refine ⟨choiceFree v, ?_, choiceFree_granted (v := v) on running free settled (Option.mem_def.mp chosen)⟩
      rw [ran, free]
  · intro v
    have ran : exec .monitorHoldOffExpiry s = .next (monitorTest v) := by
      refine congrArg Host.Outcome.next ((if_pos on).trans ?_)
      rw [holdOffExpires, Option.mem_def.mp timed]
      rfl
    have asked : v.quiet = true ↔ quiet := by
      rw [quiet_iff]
      exact ⟨fun ⟨_, active, _, _, rest⟩ => ⟨active, rest⟩,
        fun ⟨active, rest⟩ => ⟨running, active, (Bool.and_eq_true_iff.mp on).1, rfl, rest⟩⟩
    refine ⟨fun no => ?_, fun yes => ?_⟩
    · rw [ran, monitorTest, if_neg (mt asked.mp no)]
    · rw [ran, monitorTest, if_pos (asked.mpr yes)]
      rfl

end Sys2Proof.Machine
end

section
/-! The link's settled event (R119 to R123, R157) and how stages take setpoints (R1 to R4, R6): O52. -/

namespace Sys2Proof.Machine

/-! ### Where a stage's output lies (R1 to R3) -/

theorem between_mem (a b k : Nat) : min a b ≤ between a b k ∧ between a b k ≤ max a b := by
  unfold between
  split
  next up =>
    have := Nat.mod_lt k (Nat.sub_pos_of_lt up)
    omega
  next =>
    split
    next down =>
      have := Nat.mod_lt k (Nat.sub_pos_of_lt down)
      omega
    next => omega

theorem outputNow_mem (x : Stage Nat) (k : Nat) : min x.output x.target ≤ x.outputNow k ∧ x.outputNow k ≤ max x.output x.target := by
  unfold Stage.outputNow
  split
  · exact between_mem ..
  · omega

theorem outputNow_settled {x : Stage Nat} (settled : x.ramping = false) (k : Nat) : x.outputNow k = x.output := by
  rw [Stage.outputNow, settled]
  rfl

theorem flow_of_mag (d : Dir) (n : Nat) : (Flow.of d n).mag = n := by
  unfold Flow.of
  split
  next none => exact none.symm
  next => rfl

theorem flow_of_dir (d : Dir) (n : Nat) : (Flow.of d n).mag = 0 ∨ (Flow.of d n).dir = d := by
  unfold Flow.of
  split
  · exact .inl rfl
  · exact .inr rfl

/-- A flow lies on the way from one to another: within both magnitudes, and where the directions differ within that of its own. -/
structure OnWay (a b x : Flow) : Prop where
  mag : x.mag ≤ max a.mag b.mag
  dir : x.mag = 0 ∨ x.dir = a.dir ∨ x.dir = b.dir
  start : a.dir ≠ b.dir → x.dir = a.dir → x.mag ≤ a.mag
  target : a.dir ≠ b.dir → x.dir = b.dir → x.mag ≤ b.mag

theorem OnWay.of_start {a b : Flow} {n : Nat} (within : n ≤ a.mag) : OnWay a b (Flow.of a.dir n) := by
  have mag := flow_of_mag a.dir n
  refine ⟨by omega, (flow_of_dir a.dir n).imp_right .inl, fun _ _ => by omega, fun differ own => ?_⟩
  rcases flow_of_dir a.dir n with none | same
  · omega
  · exact absurd (same.symm.trans own) differ

theorem OnWay.of_target {a b : Flow} {n : Nat} (within : n ≤ b.mag) : OnWay a b (Flow.of b.dir n) := by
  have mag := flow_of_mag b.dir n
  refine ⟨by omega, (flow_of_dir b.dir n).imp_right .inr, fun differ own => ?_, fun _ _ => by omega⟩
  rcases flow_of_dir b.dir n with none | same
  · omega
  · exact absurd (own.symm.trans same) differ

theorem flowBetween_onWay (a b : Flow) (k : Nat) : OnWay a b (Flow.between a b k) := by
  have within := between_mem a.mag b.mag k
  unfold Flow.between
  split
  next straight =>
    rw [Bool.or_eq_true, decide_eq_true_iff, decide_eq_true_iff] at straight
    rcases straight with same | none
    · have mag := flow_of_mag a.dir (between a.mag b.mag k)
      exact ⟨by omega, (flow_of_dir a.dir _).imp_right .inl, fun differ => absurd same differ, fun differ => absurd same differ⟩
    · exact .of_start (by omega)
  next =>
    split
    next none => exact .of_target (by omega)
    next =>
      split
      · exact .of_start (by omega)
      next =>
        have least := Nat.mod_lt k (show 0 < a.mag + b.mag by omega)
        exact .of_target (by omega)

theorem flowNow_facts (x : Stage Flow) (k : Nat) : let out := x.flowNow k
    (x.ramping = false → out = x.output) ∧ out.mag ≤ max x.output.mag x.target.mag
      ∧ (out.mag = 0 ∨ out.dir = x.output.dir ∨ out.dir = x.target.dir)
      ∧ (x.ramping = true → x.output.dir ≠ x.target.dir → (out.dir = x.output.dir → out.mag ≤ x.output.mag)
          ∧ (out.dir = x.target.dir → out.mag ≤ x.target.mag)) := by
  unfold Stage.flowNow
  cases x.ramping with
  | false => exact ⟨fun _ => rfl, Nat.le_max_left .., .inr (.inl rfl), nofun⟩
  | true =>
    obtain ⟨mag, dir, start, target⟩ := flowBetween_onWay x.output x.target (Config.rampProgress k)
    exact ⟨nofun, mag, dir, fun _ differ => ⟨start differ, target differ⟩⟩

theorem take_eq {α : Type} [DecidableEq α] (out new : α) (x : Stage α) : (x.take out new).1 =
    if new = x.target then x else if new = out then { target := new, output := new, ramping := false }
      else { target := new, output := out, ramping := true } := by
  unfold Stage.take
  split
  · rfl
  · split <;> rfl

theorem take_eq_out {α : Type} [DecidableEq α] (out new : α) (x : Stage α) : (x.take out new).1 =
    if new = x.target then x else if new = out then { target := out, output := out, ramping := false }
      else { target := new, output := out, ramping := true } := by
  rw [take_eq]
  by_cases there : new = out
  · rw [there]
  · rw [if_neg there, if_neg there]

theorem takeInput_stage (limit : Nat) (s : State) : (takeInput limit s).inputStage = (s.inputStage.take s.inputOutput limit).1 := by
  unfold takeInput
  split
  next same => rw [Stage.take, if_pos same]
  next => rfl

/-! ### The hold control as the cell A path settles (R6, R157) -/

theorem becomeEffective_state (s : State) : (becomeEffective s).hold.state = .effective := by
  rw [becomeEffective_eq]
  exact congrArg HoldCtl.state ((trigger_reacts (E := [.pass]) _ (by decide)).hold_eq (by decide) (by decide))

/-- R157: the hold state after the hold control's test. -/
theorem holdTest_state {s : State} {rests : Prop} [Decidable rests] (is : s.Rests ↔ rests) :
    (holdTest s).hold.state = if rests then .effective else s.hold.state := by
  split
  next yes => rw [holdTest_rests (is.mpr yes), becomeEffective_state]
  next no => rw [holdTest_stays (mt is.mp no)]

/-- R6, R157: the cell A path's setpoint, and what it brings the hold to. -/
theorem takeCharge_facts (limit : Nat) (s : State) :
    let x := s.pathA.stage
    let out := x.outputNow s.freeUses
    let taken := limit ≠ x.target ∧ (s.present = true ∨ limit = 0)
    let rests := s.hold.state = .pending ∧ taken ∧ limit = out ∧ limit = 0
      ∧ (s.hold.view = .free ∨ s.hold.view = .held .supply ∨ (s.linkStage.ramping = false ∧ s.linkStage.target = Flow.zero))
    (¬taken → takeCharge limit s = s)
      ∧ (taken → (takeCharge limit s).pathA = { s.pathA with stage :=
          if limit = out then { target := limit, output := limit, ramping := false }
          else { target := limit, output := out, ramping := true } })
      ∧ (takeCharge limit s).hold.state = (if rests then .effective else s.hold.state) := by
  intro x out taken rests
  have stays : ((!s.present && limit != 0) || limit == s.pathA.stage.target) = true ↔ ¬ taken := by
    rw [Bool.or_eq_true, Bool.and_eq_true, Bool.not_eq_true', bne_iff_ne, beq_iff_eq]
    show (_ ∨ limit = x.target) ↔ ¬ (limit ≠ x.target ∧ _)
    cases s.present <;> simp
    tauto
  by_cases takes : taken
  · let u := s.tickFree.setPathA { s.pathA with stage := (x.take out limit).1 }
    have moves : takeCharge limit s = if (x.take out limit).2 then holdTest u else u := by
      unfold takeCharge
      rw [if_neg (mt stays.mp (not_not.mpr takes))]
    refine ⟨fun no => absurd takes no, fun _ => ?_, ?_⟩
    · have stage : (takeCharge limit s).pathA = u.pathA := by
        rw [moves]
        split
        · exact (holdTest_reacts u).pathA_eq (by decide)
        · rfl
      rw [stage]
      show ({ s.pathA with stage := (x.take out limit).1 } : PathA) = _
      rw [take_eq, if_neg takes.1]
    · rw [moves]
      by_cases there : limit = out
      · have settled : x.take out limit = ({ target := limit, output := limit, ramping := false }, true) := by
          rw [Stage.take, if_neg takes.1, if_pos there]
        have is : u.Rests ↔ rests := by
          rw [State.Rests, State.atRest_iff]
          show s.hold.state = .pending ∧ ((x.take out limit).1.ramping = false ∧ (x.take out limit).1.target = 0) ∧ _ ↔ _
          rw [settled]
          exact ⟨fun ⟨pending, ⟨_, zero⟩, view⟩ => ⟨pending, takes, there, zero, view⟩,
            fun ⟨pending, _, _, zero, view⟩ => ⟨pending, ⟨rfl, zero⟩, view⟩⟩
        rw [settled]
        exact holdTest_state is
      · have ramps : (x.take out limit).2 = false := by
          rw [Stage.take, if_neg takes.1, if_neg there]
        rw [ramps, if_neg (fun ⟨_, _, same, _⟩ => there same : ¬ rests)]
        rfl
  · have same : takeCharge limit s = s := by
      unfold takeCharge
      exact if_pos (stays.mpr takes)
    refine ⟨fun _ => same, fun yes => absurd yes takes, ?_⟩
    rw [same, if_neg (fun ⟨_, takes', _⟩ => takes takes' : ¬ rests)]

/-! ### What reactions keep of the hold state (R153, R157) -/

section
variable {E : List Effect} {s t : State}

theorem Touches.notPending {e : Effect} (h : Touches e s t) (settled : s.hold.state ≠ .pending) : t.hold.state = s.hold.state := by
  cases h with
  | rest _ pending => exact absurd pending settled
  | monitor => unfold monitorTest; split <;> rfl
  | pass => obtain h | ⟨-, h⟩ | ⟨-, h⟩ := trigger_cases s <;> rw [h] <;> rfl
  | _ => rfl

/-- Only a PENDING hold changes its state in reactions. -/
theorem Reacts.notPending (h : Reacts E s t) (settled : s.hold.state ≠ .pending) : t.hold.state = s.hold.state := by
  refine (h.rel (fun s t => s.hold.state ≠ .pending → t.hold.state = s.hold.state) (fun _ _ => rfl)
    (fun _ _ _ f g p => ?_) (fun _ _ _ _ touch p => touch.notPending p)) settled
  exact (g (by rw [f p]; exact p)).trans (f p)

theorem PassWanted.trans {u : State} (h : PassWanted s t) (k : PassWanted t u) : PassWanted s u := by
  unfold PassWanted at *
  cases was : s.alloc.pass with
  | none =>
    rw [was] at h
    obtain ⟨x, going, -⟩ := h
    rw [going] at k
    exact ⟨x, k.1, .inl k.2⟩
  | some x =>
    rw [was] at h
    rw [h.1] at k
    exact k

end

/-! ### The link's settled event (R119 to R123, R157) -/

section
variable {v : State}

/-- R117, R138, R158: under a hold only SUPPLY can be chosen. -/
theorem supply_of_pending (sound : v.LinkUsersSound) (pending : v.hold.state = .pending) {w : Requester}
    (chosen : v.arb.choose = some w) : w = .supply := by
  obtain ⟨users, -⟩ := (linkUsersSound_iff v).mp sound
  obtain ⟨waits, -⟩ := waits_of_choose chosen
  have on : v.hold.state ≠ .off := by rw [pending]; nofun
  cases w with
  | supply => rfl
  | chargeB =>
    have request := users.full.1.chargeB.mp (.inl waits)
    rw [(users.holds on).1] at request
    contradiction
  | balance =>
    obtain ⟨j, head, state⟩ := users.full.2.asks.mpr (.inl waits)
    exact absurd ((users.full.2.suspended j head).mpr fun allowed => on allowed.1) state

/-- R132: the hold control's view, and what it makes of a PENDING hold. -/
theorem reportLink_state (g : State) (pending : g.hold.state = .pending) (path : g.pathA.stage.ramping = false ∧ g.pathA.stage.target = 0)
    (link : g.arb.link = .free ∨ g.arb.link = .held .supply) : (reportLink g).hold.state = .effective := by
  have rests : (g.setHold { g.hold with view := g.arb.link }).Rests :=
    ⟨pending, (State.atRest_iff _).mpr ⟨path, link.imp_right .inl⟩⟩
  rw [reportLink, holdTest_rests rests, becomeEffective_state]

/-- What the arbiter makes of the settled event: nothing, a FREE link, or a grant. -/
theorem arbiterSettled_cases (v : State) : arbiterSettled v = v
    ∨ (v.arb.link = .changeover ∧ v.arb.choose = none ∧ arbiterSettled v = reportLink (v.setArb { v.arb with link := .free }))
    ∨ ∃ w, v.arb.Unheld ∧ v.arb.choose = some w ∧ arbiterSettled v = grantLink startChecks w v := by
  unfold arbiterSettled
  split
  next link =>
    unfold changeoverEnds endChangeover
    split
    next w chosen => exact .inr (.inr ⟨w, .inr link, chosen, rfl⟩)
    next unchosen => exact .inr (.inl ⟨link, unchosen, rfl⟩)
  next link =>
    unfold choiceFree chooseFree
    split
    next w chosen =>
      split
      · exact .inr (.inr ⟨w, .inl link, chosen, rfl⟩)
      · exact .inl rfl
    next => exact .inl rfl
  next => exact .inl rfl

/-- R119, R120, R123: the settled link is to be chosen for. -/
def Chooses (v : State) : Prop := v.arb.link = .changeover ∨ (v.arb.link = .free ∧ v.linkStage.target = Flow.zero)

theorem arbiterSettled_stays (no : ¬ Chooses v) : arbiterSettled v = v := by
  unfold arbiterSettled
  split
  next link => exact absurd (.inl link) no
  next link => exact choiceFree_idle (.inl fun settled => no (.inr ⟨link, settled.2⟩))
  next => rfl

theorem arbiterSettled_frees (chooses : Chooses v) (none : v.arb.choice = none) (view : v.hold.view = v.arb.link) :
    (arbiterSettled v).arb = { v.arb with link := .free } ∧ (arbiterSettled v).hold.view = .free := by
  rcases chooses with link | ⟨link, -⟩
  · have freed : arbiterSettled v = reportLink (v.setArb { v.arb with link := .free }) := by
      rw [arbiterSettled, link]
      dsimp only
      rw [changeoverEnds, endChangeover, Arbiter.choose_eq_choice, none]
    obtain ⟨arb, -, view⟩ := linkFreed_users v
    rw [freed]
    exact ⟨arb, view⟩
  · have same : arbiterSettled v = v := by
      rw [arbiterSettled, link]
      exact choiceFree_idle (.inr none)
    rw [same]
    refine ⟨?_, view.trans link⟩
    rw [← link]

theorem arbiterSettled_eq_grant (settled : v.linkStage.ramping = false) (chooses : Chooses v) {w : Requester}
    (chosen : v.arb.choice = some w) : v.arb.Unheld ∧ v.arb.choose = some w ∧ arbiterSettled v = grantLink startChecks w v := by
  have choose := (Arbiter.choose_eq_choice v.arb).trans chosen
  rcases chooses with link | ⟨link, target⟩
  · refine ⟨.inr link, choose, ?_⟩
    rw [arbiterSettled, link]
    dsimp only
    rw [changeoverEnds, endChangeover, choose]
  · refine ⟨.inl link, choose, ?_⟩
    rw [arbiterSettled, link]
    exact choiceFree_grants ⟨settled, target⟩ chosen

/-- R157: a PENDING hold whose path is at rest becomes EFFECTIVE as the link is granted, which only SUPPLY can be. -/
theorem grantLink_effective (sound : v.LinkUsersSound) (pending : v.hold.state = .pending)
    (path : v.pathA.stage.ramping = false ∧ v.pathA.stage.target = 0) {w : Requester} (chosen : v.arb.choose = some w) :
    (grantLink startChecks w v).hold.state = .effective := by
  obtain rfl := supply_of_pending sound pending chosen
  let g := grantTaken .supply v
  have taken : Reacts (.arb :: reportBEffects) v g := grantTaken_reacts .supply v
  have last : Reacts calmEffects g (grantLink startChecks .supply v) := reported_reacts g
  by_cases still : g.hold.state = .pending
  · have path' : g.pathA = v.pathA := taken.pathA_eq (by decide)
    have link : g.arb.link = .held .supply := (congrArg Arbiter.link (grantTaken_arb .supply v)).trans rfl
    have effective := reportLink_state g still (by rw [path']; exact path) (.inr link)
    have triggered : Reacts [.pass] (reportLink g) (grantLink startChecks .supply v) := trigger_reacts _ (by decide)
    exact (triggered.notPending (by rw [effective]; nofun)).trans effective
  · rw [last.notPending still]
    have on : g.hold.state ≠ .off := mt taken.holdOff_iff.mp (by rw [pending]; nofun)
    cases state : g.hold.state with
    | off => exact absurd state on
    | pending => exact absurd state still
    | effective => rfl

/-- The hold control has nothing left to test where a hold that could rest has come to rest. -/
theorem Reacts.notRests {E : List Effect} {u : State} (reacts : Reacts E v u) (np : .path ∉ E)
    (rested : v.hold.state = .pending → v.pathA.stage.ramping = false ∧ v.pathA.stage.target = 0 → u.hold.state = .effective) :
    ¬ u.Rests := by
  rintro ⟨pending, atRest⟩
  obtain ⟨path, -⟩ := (State.atRest_iff _).mp atRest
  rw [reacts.pathA_eq np] at path
  by_cases was : v.hold.state = .pending
  · rw [rested was path] at pending
    contradiction
  · exact was ((reacts.notPending was).symm.trans pending)

theorem arbiterSettled_rests (sound : v.LinkUsersSound) (pending : v.hold.state = .pending)
    (path : v.pathA.stage.ramping = false ∧ v.pathA.stage.target = 0) :
    arbiterSettled v = v ∨ (arbiterSettled v).hold.state = .effective := by
  obtain same | ⟨-, -, freed⟩ | ⟨w, -, chosen, granted⟩ := arbiterSettled_cases v
  · exact .inl same
  · right
    rw [freed]
    exact reportLink_state (v.setArb { v.arb with link := .free }) pending path (.inl rfl)
  · right
    rw [granted]
    exact grantLink_effective sound pending path chosen

theorem holdTest_arbiterSettled (sound : v.LinkUsersSound) (moves : arbiterSettled v ≠ v) : holdTest (arbiterSettled v) = arbiterSettled v :=
  holdTest_stays ((arbiterSettled_reacts v).notRests (by decide) fun pending path =>
    (arbiterSettled_rests sound pending path).resolve_left moves)

/-! ### The event as a whole -/

/-- R66: what the arbiter makes of the event leaves a wanted pass wanted. -/
theorem arbiterSettled_wanted {u : State} (on : u.operating = true) (running : u.power.phase = .running) (wanted : PassWanted v u) :
    PassWanted v (arbiterSettled u) := by
  obtain same | ⟨link, -, freed⟩ | ⟨w, -, -, granted⟩ := arbiterSettled_cases u
  · rw [same]
    exact wanted
  · rw [freed]
    exact linkFreed_wanted wanted link
  · rw [granted]
    exact wanted.trans (grantLink_wanted startChecks startChecks_reacts on running w)

/-- R66, R157: a hold that comes to rest in the arbiter's part wants a pass. -/
theorem arbiterSettled_moves_wanted (on : v.operating = true) (running : v.power.phase = .running) (moves : arbiterSettled v ≠ v)
    (pending : v.hold.state = .pending) (path : v.pathA.stage.ramping = false ∧ v.pathA.stage.target = 0) :
    PassWanted v (arbiterSettled v) := by
  obtain same | ⟨-, -, freed⟩ | ⟨w, -, -, granted⟩ := arbiterSettled_cases v
  · exact absurd same moves
  · let x := (v.setArb { v.arb with link := .free }).setHold { v.hold with view := .free }
    have rests : x.Rests := ⟨pending, (State.atRest_iff x).mpr ⟨path, .inl rfl⟩⟩
    have test : reportLink (v.setArb { v.arb with link := .free }) = holdTest x := rfl
    have wanted : PassWanted x (becomeEffective x) := (becomeEffective_stands x running on).1.passWanted
    rw [freed, test, holdTest_rests rests]
    exact wanted
  · rw [granted]
    exact grantLink_wanted startChecks startChecks_reacts on running w

/-- R66, R157: a hold that comes to rest wants a pass, whatever the arbiter makes of the event. -/
theorem linkSettles_rests (on : v.operating = true) (running : v.power.phase = .running) (sound : v.LinkUsersSound) (rests : v.Rests)
    (holdFirst : Bool) :
    let t := if holdFirst then arbiterSettled (holdTest v) else holdTest (arbiterSettled v)
    t.hold.state = .effective ∧ PassWanted v t := by
  have effective : (becomeEffective v).hold.state = .effective := becomeEffective_state v
  have wanted : PassWanted v (becomeEffective v) := (becomeEffective_stands v running on).1.passWanted
  have reacts : Reacts restEffects v (becomeEffective v) := becomeEffective_reacts v rests.1
  cases holdFirst with
  | true =>
    show (arbiterSettled (holdTest v)).hold.state = .effective ∧ PassWanted v (arbiterSettled (holdTest v))
    rw [holdTest_rests rests]
    exact ⟨((arbiterSettled_reacts _).notPending (by rw [effective]; nofun)).trans effective,
      arbiterSettled_wanted (reacts.operating_eq.trans on) ((Keeps.phase reacts.keeps).trans running) wanted⟩
  | false =>
    show (holdTest (arbiterSettled v)).hold.state = .effective ∧ PassWanted v (holdTest (arbiterSettled v))
    by_cases moves : arbiterSettled v = v
    · rw [moves, holdTest_rests rests]
      exact ⟨effective, wanted⟩
    · obtain ⟨path, -⟩ := (State.atRest_iff v).mp rests.2
      rw [holdTest_arbiterSettled sound moves]
      exact ⟨(arbiterSettled_rests sound rests.1 path).resolve_left moves, arbiterSettled_moves_wanted on running moves rests.1 path⟩

/-- R119, R123: what the arbiter's part comes to, whichever block takes the event first. -/
theorem linkSettles_chooses (on : v.operating = true) (running : v.power.phase = .running) (sound : v.LinkUsersSound)
    (settled : v.linkStage.ramping = false) (chooses : Chooses v) (holdFirst : Bool) :
    let t := if holdFirst then arbiterSettled (holdTest v) else holdTest (arbiterSettled v)
    (v.arb.choice = none → t.arb = { v.arb with link := .free } ∧ t.hold.view = .free)
      ∧ ∀ w, v.arb.choice = some w → Granted v t w := by
  have view : v.hold.view = v.arb.link := ((linkUsersSound_iff v).mp sound).1.full.1.view
  have tested := holdTest_reacts v
  have arb : (holdTest v).arb = v.arb := tested.arb_eq (by decide) (by decide)
  have stage : (holdTest v).linkStage = v.linkStage := tested.linkStage_eq (by decide)
  cases holdFirst with
  | true =>
    have chooses' : Chooses (holdTest v) := by
      unfold Chooses
      rw [arb, stage]
      exact chooses
    refine ⟨fun none => ?_, fun w chosen => ?_⟩
    · have freed := arbiterSettled_frees chooses' (by rw [arb]; exact none) (by rw [arb, (holdTest_sameUsers v).view]; exact view)
      rw [arb] at freed
      exact freed
    · obtain ⟨unheld, choose, granted⟩ := arbiterSettled_eq_grant (v := holdTest v) (by rw [stage]; exact settled) chooses'
        (by rw [arb]; exact chosen)
      show Granted v (arbiterSettled (holdTest v)) w
      rw [granted]
      exact (grantLink_granted (tested.operating_eq.trans on) ((Keeps.phase tested.keeps).trans running) unheld choose).back tested
        (by decide) (by decide) (by decide) (by decide) (by decide) (by decide) (by decide) (by decide)
  | false =>
    refine ⟨fun none => ?_, fun w chosen => ?_⟩
    · obtain ⟨arb', view'⟩ := arbiterSettled_frees chooses none view
      exact ⟨((holdTest_sameUsers _).arb).trans arb', ((holdTest_sameUsers _).view).trans view'⟩
    · obtain ⟨unheld, choose, granted⟩ := arbiterSettled_eq_grant settled chooses chosen
      have quiet : ¬ (grantLink startChecks w v).Rests :=
        (grantLink_reacts (E := engineEffects) (by decide) startChecks_reacts w v).notRests (by decide) fun pending path =>
          grantLink_effective sound pending path choose
      show Granted v (holdTest (arbiterSettled v)) w
      rw [granted, holdTest_stays quiet]
      exact grantLink_granted on running unheld choose

end

end Sys2Proof.Machine

namespace Sys2Proof
open Machine

/-- Settles O52: the arbiter's choice and the hold control's test, and the arithmetic of the ramps. -/
theorem linkSettles : Obligations.LinkSettles := by
  intro s holdFirst limit k v chooses
  refine ⟨fun on => ?_, ⟨fun absent => ?_, fun present settled => ?_, fun present => ?_, ?_⟩,
    ⟨fun settled => outputNow_settled settled _, (outputNow_mem _ _).1, (outputNow_mem _ _).2, takeCharge_facts limit s⟩,
    flowNow_facts _ _, ?_⟩
  · have ran : exec (.hingeLinkSettled holdFirst) s = .next (Machine.linkSettles holdFirst s) := congrArg Host.Outcome.next (if_pos on)
    refine ⟨Machine.linkSettles holdFirst s, ran, fun settled => ?_, fun ramps running sound => ?_⟩
    · exact if_neg (Bool.eq_false_iff.mp settled)
    · have is : Machine.linkSettles holdFirst s
          = if holdFirst then arbiterSettled (holdTest v) else holdTest (arbiterSettled v) := if_pos ramps
      have soundV : v.LinkUsersSound := sound
      have onV : v.operating = true := on
      have runningV : v.power.phase = .running := running
      rw [is]
      refine ⟨?_, fun off no => ?_, fun pending ramping target zero => ?_, fun yes none => ?_, fun yes w chosen => ?_⟩
      · have outer : (if holdFirst then arbiterSettled (holdTest v) else holdTest (arbiterSettled v)).outer = v.outer := by
          cases holdFirst with
          | true => exact (arbiterSettled_outer _).trans (holdTest_outer _)
          | false => exact (holdTest_outer _).trans (arbiterSettled_outer _)
        rw [outer]
      · have tested : holdTest v = v := holdTest_stays fun rests => off rests.1
        have stays : arbiterSettled v = v := arbiterSettled_stays no
        cases holdFirst with
        | true =>
          show arbiterSettled (holdTest v) = v
          rw [tested, stays]
        | false =>
          show holdTest (arbiterSettled v) = v
          rw [stays, tested]
      · exact linkSettles_rests onV runningV soundV
          ⟨pending, (State.atRest_iff v).mpr ⟨⟨ramping, target⟩, .inr (.inr ⟨rfl, zero⟩)⟩⟩ holdFirst
      · exact (linkSettles_chooses onV runningV soundV rfl yes holdFirst).1 none
      · exact (linkSettles_chooses onV runningV soundV rfl yes holdFirst).2 w chosen
  · exact if_neg (by rw [absent]; decide)
  · exact (if_pos present).trans (outputNow_settled settled _)
  · have out : s.inputOutput = s.inputStage.outputNow s.freeUses := if_pos present
    show _ ≤ s.inputOutput ∧ s.inputOutput ≤ _
    rw [out]
    exact outputNow_mem _ _
  · rw [takeInput_stage, take_eq]
  · rw [linkFollow_linkStage]
    exact take_eq_out ..

end Sys2Proof
end

section
/-! FAULT_CLEAR (R131, R175, R176): O30. -/

namespace Sys2Proof.Machine

/-! ### What follows a grant -/

section
variable {v t : State} {w : Requester}

/-- A grant, seen through a trigger or a notice that follows it. -/
theorem Granted.forth {u : State} (h : Granted v t w) (reacts : Reacts [.pass, .notice] t u) : Granted v u w := by
  obtain ⟨wanted, tested, outer, taken⟩ := h
  have power : u.power = t.power := reacts.power_eq (by decide)
  have seq : u.seq = t.seq := reacts.seq_eq (by decide)
  have kept : u.outer = t.outer := reacts.keeps
  have rests : u.RestsForMonitor ↔ t.RestsForMonitor := by
    have stateA : u.chA.state = t.chA.state := (congrArg Channel.state (reacts.chA_fresh (by decide)) :)
    have stateB : u.chB.state = t.chB.state := (congrArg Channel.state (reacts.chB_fresh (by decide) (by decide)) :)
    have dormant (q : Port) : (u.port q).dormant = (t.port q).dormant := (congrArg PortState.dormant (Keeps.port reacts.keeps q) :)
    unfold State.RestsForMonitor
    rw [power, Keeps.input reacts.keeps, reacts.holdOff_iff, stateA, stateB, reacts.queue_eq (by decide)]
    simp only [dormant]
  have fresh := reacts.chB_fresh (by decide) (by decide)
  have noLink : u.chB.reasons.noLink = t.chB.reasons.noLink := (congrArg (fun ch : Channel => ch.reasons.noLink) fresh :)
  have presented : u.chB.presented = t.chB.presented := (congrArg Channel.presented fresh :)
  refine ⟨wanted.reacts reacts (by decide) (by decide) (by decide) (by decide) (by decide), ?_, ?_, ?_⟩
  · unfold MonitorTested at *
    simp only [rests]
    rw [power, seq]
    exact tested
  · rw [kept]
    exact outer
  · rw [reacts.arb_eq (by decide) (by decide), reacts.bal_eq (by decide) (by decide) (by decide),
      reacts.view_eq (by decide), reacts.linkStage_eq (by decide), noLink, presented]
    cases w with
    | supply => exact taken
    | chargeB => exact taken
    | balance =>
      obtain ⟨granted, head⟩ := taken
      refine ⟨granted, fun j first queued => ?_⟩
      obtain ⟨runs, ends⟩ := head j first queued
      refine ⟨runs, fun r reason => ?_⟩
      obtain ⟨unheld, backoff, pair, tags, noticed, last⟩ := ends r reason
      exact ⟨unheld, backoff, pair, tags, reacts.noticed noticed, last⟩

theorem Granted.handReply (h : Granted v t w) (p : Port) (code : ReplyCode) (l : List Byte) : Granted v (handReply p code l t) w := by
  obtain ⟨wanted, tested, outer, taken⟩ := h
  refine ⟨wanted.handReply p code l, ?_, ?_, ?_⟩
  · split
    next rests =>
      rw [if_pos rests] at tested
      exact tested
    next busy =>
      rw [if_neg busy] at tested
      exact MonitorTested.handReply tested p code l
  · rw [handReply_outer, outer]
  · cases w with
    | supply => exact taken
    | chargeB => exact taken
    | balance =>
      obtain ⟨granted, head⟩ := taken
      refine ⟨granted, fun j first queued => ?_⟩
      obtain ⟨runs, ends⟩ := head j first queued
      refine ⟨runs, fun r reason => ?_⟩
      obtain ⟨unheld, backoff, pair, tags, noticed, last⟩ := ends r reason
      exact ⟨unheld, backoff, pair, tags, handReply_noticed noticed, last⟩

end

/-! ### The judgement of a clear (R175) -/

theorem exec_faultClear {s : State} {p : Port} (target : Nat) (h : Hands s p) (ne : p ≠ .input) :
    exec (.faultClear p (Framing.ofLength 1) target) s
      = .next (takeFaultClear p target (handedOver p (.faultClear p (Framing.ofLength 1) target) s)) :=
  exec_handed (r := .faultClear) rfl s h (by cases p <;> first | rfl | contradiction)

section
variable {u : State} {x : ClearTarget} {target : Nat} (p : Port) (names : clearTargetOf target = some x)
include names

theorem takeFaultClear_notFound (none : latchedBits u x = 0) : takeFaultClear p target u = withReply p .notFound [] u := by
  rw [takeFaultClear, names]
  exact if_pos none

theorem takeFaultClear_refused (some : latchedBits u x ≠ 0) (stands : standingBits u x ≠ 0) :
    takeFaultClear p target u = withReply p .refused (bytesOf 1 (standingBits u x) ++ bytesOf 1 (targetBits u x)) u := by
  rw [takeFaultClear, names]
  exact (if_neg some).trans (if_pos stands)

theorem takeFaultClear_clears (some : latchedBits u x ≠ 0) (released : standingBits u x = 0) :
    takeFaultClear p target u = clearFaults p x u := by
  rw [takeFaultClear, names]
  exact (if_neg some).trans (if_neg (not_not.mpr released))

end

/-- A set of three flags, as bits. -/
theorem bitsOf_three (a b c : Bool) : bitsOf [a, b, c] = a.toNat + 2 * b.toNat + 4 * c.toNat := by
  cases a <;> cases b <;> cases c <;> rfl

theorem bitsOf_two_eq_zero (a b : Bool) : bitsOf [a, b, false] = 0 ↔ a = false ∧ b = false := by
  cases a <;> cases b <;> decide

/-! ### The clear of LINK_FAULT (R131, R176) -/

section
variable {u : State}

/-- R175: LINK_FAULT cleared, and the arbiter's lock open. -/
def unlocked (u : State) : State := { u with
  prot := { u.prot with device := { u.prot.device with linkFault := false } }
  arb := { u.arb with faultLock := false } }

theorem unlockLink_stays (no : ¬ (u.arb.link = .free ∧ u.linkStage.ramping = false ∧ u.linkStage.target = Flow.zero)
    ∨ (unlocked u).arb.choice = none) : unlockLink (u.setProt (u.prot.cleared .link)) = unlocked u := by
  unfold unlockLink
  dsimp only
  split
  next free => exact choiceFree_idle (v := unlocked u) (no.imp_left fun no settled => no ⟨free, settled⟩)
  next => rfl
  next => rfl

theorem unlockLink_grants (free : u.arb.link = .free) (settled : u.linkStage.ramping = false ∧ u.linkStage.target = Flow.zero)
    {w : Requester} (chosen : (unlocked u).arb.choice = some w) :
    unlockLink (u.setProt (u.prot.cleared .link)) = grantLink startChecks w (unlocked u) := by
  have link : (unlocked u).arb.link = .free := free
  have choice : unlockLink (u.setProt (u.prot.cleared .link)) = match (unlocked u).arb.link with
      | .free => choiceFree (unlocked u)
      | .held _ => unlocked u
      | .changeover => unlocked u := rfl
  rw [choice, link]
  exact choiceFree_grants settled chosen

end

theorem unlockLink_faultLock (u : State) : (unlockLink u).arb.faultLock = false := by
  unfold unlockLink
  dsimp only
  split
  · exact (choiceFree_reacts (u.setArb { u.arb with faultLock := false })).faultLock_eq (by decide)
  · rfl
  · rfl

/-- R182: the frame of a reply handed in either of two states with equal frames. -/
theorem handReply_keeps {v t : State} (kept : Keeps v t) (p : Port) (code : ReplyCode) (l : List Byte) :
    Keeps (handReply p code l v) (handReply p code l t) := by
  have frame (w : State) : (handReply p code l w).outer = { w.outer with
      ports := w.outer.ports.set p { w.outer.port p with handed := some { code := code, payload := l } } } := by
    cases p <;> rfl
  rw [Keeps, frame, frame, show t.outer = v.outer from kept]

/-- Settles O30: the judgement of the clear, and the arbiter's part in one of LINK_FAULT. -/
theorem faultsCleared : Obligations.FaultsCleared := by
  intro s p target h ne i u x
  have ran : exec i s = .next (takeFaultClear p target u) := exec_faultClear target h ne
  have on : u.operating = true := handedOver_operating p i s h.1.1
  have running : u.power.phase = .running := handedOver_running p i s h
  refine ⟨fun unlisted => ?_, fun c _ named => ?_, fun named => ?_⟩
  · have none : clearTargetOf target = none := by
      match target, unlisted with
      | n + 3, _ => rfl
    rw [ran, takeFaultClear, none]
    rfl
  · intro f ovStays hotStays
    have names : clearTargetOf target = some (.cell c) := by cases c <;> (subst named; rfl)
    have latched : latchedBits u (.cell c) = 0 ↔ f.ov = false ∧ f.hot = false := bitsOf_two_eq_zero ..
    have standing : standingBits u (.cell c) = 0 ↔ ovStays = false ∧ hotStays = false := bitsOf_two_eq_zero ..
    refine ⟨fun noOv noHot => ?_, fun stays => ?_, fun some noOv noHot => ?_⟩
    · rw [ran, takeFaultClear_notFound p names (latched.mpr ⟨noOv, noHot⟩)]
    · have stands : standingBits u (.cell c) ≠ 0 := by
        rw [Ne, standing, not_and_or, Bool.not_eq_false, Bool.not_eq_false]
        exact stays
      have some : latchedBits u (.cell c) ≠ 0 := by
        rw [Ne, latched, not_and_or, Bool.not_eq_false, Bool.not_eq_false]
        exact stays.imp (fun stays => (Bool.and_eq_true_iff.mp stays).1) fun stays => (Bool.and_eq_true_iff.mp stays).1
      rw [ran, takeFaultClear_refused p names some stands, standingBits, bitsOf_three, targetBits, CellFaults.bits, bitsOf_three]
      rfl
    · let after := u.setProt (u.prot.cleared (.cell c))
      have some' : latchedBits u (.cell c) ≠ 0 := by
        rw [Ne, latched, not_and_or, Bool.not_eq_false, Bool.not_eq_false]
        exact some
      have released : standingBits u (.cell c) = 0 := standing.mpr ⟨noOv, noHot⟩
      have bits : targetBits after (.cell c) = 4 * f.uv.toNat := by
        have set : after.prot.cell c = { ov := false, hot := false, uv := f.uv } := by cases c <;> rfl
        rw [targetBits, set, CellFaults.bits, bitsOf_three]
        simp
      have latchedIs : latchedBits u (.cell c) = f.ov.toNat + 2 * f.hot.toNat := by
        rw [latchedBits, bitsOf_three]
        rfl
      have cleared : clearFaults p (.cell c) u
          = handReply p .ok (bytesOf 1 (f.ov.toNat + 2 * f.hot.toNat) ++ bytesOf 1 (4 * f.uv.toNat)) (trigger after) := by
        rw [← bits, ← latchedIs]
        rfl
      refine ⟨_, (ran.trans (by rw [takeFaultClear_clears p names some' released, cleared])),
        handReply_triggered p _ _ (handedOver_triggered p i s after h rfl), handReply_answers .., ?_⟩
      rw [handReply_still, trigger_still]
      rfl
  · intro d
    have names : clearTargetOf target = some .link := by rw [named]; rfl
    have latchedIs : latchedBits u .link = 4 * d.linkFault.toNat := by
      rw [latchedBits, bitsOf_three]
      simp only [Bool.toNat_false, Nat.mul_zero, Nat.zero_add]
      rfl
    have standingIs : standingBits u .link = 4 * (d.linkFault && decide (3300 < x.linkCurrent)).toNat := by
      rw [standingBits, bitsOf_three]
      simp only [Bool.toNat_false, Nat.mul_zero, Nat.zero_add]
      rfl
    have bits (y : State) : targetBits y .link = y.prot.device.dieHot.toNat + 2 * y.prot.device.inputOv.toNat
        + 4 * y.prot.device.linkFault.toNat := bitsOf_three ..
    refine ⟨fun clear => ?_, fun fault high => ?_, fun fault low => ?_⟩
    · rw [ran, takeFaultClear_notFound p names (by rw [latchedIs, clear]; rfl)]
    · have stands : standingBits u .link = 4 := by
        rw [standingIs, fault, decide_eq_true high]
        rfl
      rw [ran, takeFaultClear_refused p names (by rw [latchedIs, fault]; decide) (by rw [stands]; decide), stands, bits]
      rw [show u.prot.device.linkFault = true from fault]
      rfl
    · have released : standingBits u .link = 0 := by
        rw [standingIs, decide_eq_false (Nat.not_lt.mpr low), Bool.and_false]
        rfl
      have some : latchedBits u .link ≠ 0 := by rw [latchedIs, fault]; decide
      let l := bytesOf 1 4 ++ bytesOf 1 (d.dieHot.toNat + 2 * d.inputOv.toNat)
      let y := unlockLink (u.setProt (u.prot.cleared .link))
      have cleared : exec i s = .next (handReply p .ok l (trigger y)) := by
        rw [ran, takeFaultClear_clears p names some released, clearFaults, latchedIs, fault, bits]
        rfl
      have told : Reacts (.lock :: engineEffects) (u.setProt (u.prot.cleared .link)) y := unlockLink_reacts _
      have last : Reacts [.pass] y (trigger y) := trigger_reacts y (by decide)
      have wanted : PassWanted u (trigger y) := by
        have wanted : PassWanted (u.setProt (u.prot.cleared .link)) (trigger y) :=
          told.passGoesOn.passWanted ((Keeps.phase told.keeps).trans running) (told.operating_eq.trans on)
        exact wanted
      have kept : Keeps (u.setProt (u.prot.cleared .link)) (trigger y) := told.keeps.trans last.keeps
      refine ⟨handReply p .ok l (trigger y), cleared, wanted.handReply p .ok l, ?_, handReply_answers .ok l _,
        handReply_keeps kept p .ok l, fun no => ?_, fun ⟨free, settled⟩ w chosen => ?_⟩
      · exact (last.faultLock_eq (by decide)).trans (unlockLink_faultLock _)
      · have same : y = unlocked u := unlockLink_stays no
        rw [same]
        refine ⟨handReply_triggered p .ok l (trigger_triggered_since running on rfl rfl rfl rfl), ?_⟩
        rw [handReply_still, trigger_still]
        rfl
      · have granted : y = grantLink startChecks w (unlocked u) := unlockLink_grants free settled chosen
        have choose : (unlocked u).arb.choose = Option.some w := (Arbiter.choose_eq_choice _).trans chosen
        have whole : Granted (unlocked u) y w := by
          rw [granted]
          exact grantLink_granted (v := unlocked u) on running (.inl free) choose
        exact (whole.forth (last.mono (by decide))).handReply p .ok l

end Sys2Proof.Machine
end

section
/-! BAL_QUEUE (R126, R127, R129, R136 to R139): O45. -/

namespace Sys2Proof.Machine

/-! ### The tag (R136) -/

theorem freshTag_search (q : List Job) (K : Nat) : ∀ n < 256,
    (∃ k < K, freshTag q K n = (n + k) % 256 ∧ (∀ y ∈ q, y.tag ≠ (n + k) % 256) ∧ ∀ m < k, ∃ y ∈ q, y.tag = (n + m) % 256)
      ∨ ∀ m < K, ∃ y ∈ q, y.tag = (n + m) % 256 := by
  induction K with
  | zero => exact fun n _ => .inr fun m none => absurd none (Nat.not_lt_zero m)
  | succ K ih =>
    intro n small
    have self : (n + 0) % 256 = n := Nat.mod_eq_of_lt small
    have shift (m : Nat) : ((n + 1) % 256 + m) % 256 = (n + (m + 1)) % 256 := by omega
    rw [freshTag]
    split
    next taken =>
      obtain ⟨y, member, tag⟩ := List.any_eq_true.mp taken
      have first : ∃ y ∈ q, y.tag = (n + 0) % 256 := ⟨y, member, (beq_iff_eq.mp tag).trans self.symm⟩
      rcases ih ((n + 1) % 256) (Nat.mod_lt _ (by decide)) with ⟨k, less, is, fresh, before⟩ | all
      · refine .inl ⟨k + 1, Nat.succ_lt_succ less, is.trans (shift k), ?_, fun m below => ?_⟩
        · rw [← shift]
          exact fresh
        · cases m with
          | zero => exact first
          | succ m =>
            rw [← shift]
            exact before m (Nat.lt_of_succ_lt_succ below)
      · refine .inr fun m below => ?_
        cases m with
        | zero => exact first
        | succ m =>
          rw [← shift]
          exact all m (Nat.lt_of_succ_lt_succ below)
    next free =>
      refine .inl ⟨0, Nat.succ_pos K, self.symm, fun y member tag => free ?_, fun m none => absurd none (Nat.not_lt_zero m)⟩
      exact List.any_eq_true.mpr ⟨y, member, beq_iff_eq.mpr (tag.trans self)⟩

/-- R136: with room in the queue one of four values in turn is free. -/
theorem freshTag_eq {q : List Job} {n : Nat} (room : q.length < 4) (small : n < 256) :
    ∃ k < 4, freshTag q 4 n = (n + k) % 256 ∧ (∀ y ∈ q, y.tag ≠ (n + k) % 256) ∧ ∀ m < k, ∃ y ∈ q, y.tag = (n + m) % 256 := by
  refine (freshTag_search q 4 n small).resolve_right fun all => ?_
  have nodup : ((List.range 4).map (fun m => (n + m) % 256)).Nodup := by
    refine List.Nodup.map_on (fun a ha b hb same => ?_) (List.nodup_range)
    have a4 := List.mem_range.mp ha
    have b4 := List.mem_range.mp hb
    omega
  have within : (List.range 4).map (fun m => (n + m) % 256) ⊆ q.map Job.tag := by
    intro t member
    obtain ⟨m, below, rfl⟩ := List.mem_map.mp member
    obtain ⟨y, own, tag⟩ := all m (List.mem_range.mp below)
    exact List.mem_map.mpr ⟨y, own, tag⟩
  have longer := (nodup.subperm within).length_le
  rw [List.length_map, List.length_map, List.length_range] at longer
  omega

/-! ### BALANCE is raised (R117, R126, R138) -/

section
variable {s : State}

/-- BALANCE can but wait: the link is lost, held, or FREE with nothing to be granted at once. -/
def OnlyWaits (v : State) : Prop :=
  v.arb.link = .changeover ∨ v.arb.link = .held .supply ∨ (v.arb.link = .held .chargeB ∧ v.arb.tenureExpired = false)
    ∨ (v.arb.link = .free ∧ (¬ (v.linkStage.ramping = false ∧ v.linkStage.target = Flow.zero) ∨ v.arb.choice = none))

variable (unasked : s.arb.waiting.balance = false)
include unasked

theorem raiseBalance_eq (unheld : s.arb.link ≠ .held .balance) : raiseReq .balance s = match s.arb.link with
    | .free => choiceFree (asked .balance s)
    | .held holder => arriveHeld startChecks .balance holder (asked .balance s)
    | .changeover => asked .balance s := by
  have idle : ¬ (s.arb.link = .held .balance || s.arb.waiting.has .balance) = true := by
    rw [Bool.or_eq_true, decide_eq_true_iff]
    exact not_or.mpr ⟨unheld, Bool.eq_false_iff.mp unasked⟩
  rw [raiseReq, raiseLink, if_neg idle]
  rfl

theorem raiseBalance_waits (waits : OnlyWaits (asked .balance s)) : raiseReq .balance s = asked .balance s := by
  have link : (asked .balance s).arb.link = s.arb.link := rfl
  rcases waits with changing | supply | ⟨chargeB, fresh⟩ | ⟨free, idle⟩
  · rw [link] at changing
    rw [raiseBalance_eq unasked (by rw [changing]; nofun), changing]
  · rw [link] at supply
    rw [raiseBalance_eq unasked (by rw [supply]; nofun), supply]
    exact if_neg (by rw [show (Requester.supply == .chargeB) = false from rfl, Bool.and_false]; decide)
  · rw [link] at chargeB
    rw [raiseBalance_eq unasked (by rw [chargeB]; nofun), chargeB]
    exact if_neg (by rw [fresh]; decide)
  · rw [link] at free
    rw [raiseBalance_eq unasked (by rw [free]; nofun), free]
    exact choiceFree_idle idle

theorem raiseBalance_granted (free : s.arb.link = .free) (settled : s.linkStage.ramping = false ∧ s.linkStage.target = Flow.zero)
    {w : Requester} (chosen : (asked .balance s).arb.choice = some w) :
    raiseReq .balance s = grantLink startChecks w (asked .balance s) := by
  rw [raiseBalance_eq unasked (by rw [free]; nofun), free]
  exact choiceFree_grants settled chosen

theorem raiseBalance_yields (held : s.arb.link = .held .chargeB) (expired : s.arb.tenureExpired = true) :
    raiseReq .balance s = loseLink startChecks .yield .chargeB (asked .balance s) := by
  rw [raiseBalance_eq unasked (by rw [held]; nofun), held]
  exact if_pos (by rw [show (asked .balance s).arb.tenureExpired = true from expired]; rfl)

end

theorem Yielded.handReply {v t : State} (h : Yielded v t) (p : Port) (code : ReplyCode) (l : List Byte) :
    Yielded v (handReply p code l t) := by
  obtain ⟨wanted, outer, channelB, ramps, frees, grants⟩ := h
  refine ⟨wanted.handReply p code l, ?_, channelB, ramps, frees, fun r w chosen => (grants r w chosen).handReply p code l⟩
  rw [handReply_outer, outer]

/-! ### The link goes to a head that RUNS (R121, R139) -/

section
variable {v : State} {j : Job}

/-- R8: with the hold OFF the link's taking its target changes that stage alone. -/
theorem linkFollow_eq_of_off {s : State} (off : s.hold.state = .off) :
    linkFollow s = { s with linkStage := (linkFollow s).linkStage, freeUses := (linkFollow s).freeUses } := by
  obtain ⟨x, n, is⟩ : ∃ x n, linkFollow s = { s with linkStage := x, freeUses := n } := by
    unfold linkFollow
    split
    · exact ⟨s.linkStage, s.freeUses, rfl⟩
    · refine ⟨(s.linkStage.take (s.linkStage.flowNow s.freeUses) s.linkTarget).1, s.tickFree.freeUses, ?_⟩
      dsimp only
      split
      · exact holdTest_off off
      · rfl
  rw [is]

/-- R121, R139: with the hold OFF and the link at rest, a grant to a queued head that may run changes the arbiter, the hold
control's view, the head and the link's stage. -/
theorem grant_balance_state (off : v.hold.state = .off) (zero : v.linkStage.target = Flow.zero) {rest : List Job}
    (queue : v.bal.queue = j :: rest) (queued : j.state = .queued) (runs : j.endsAtStart v.sample = none) :
    ∃ x n, grantLink startChecks .balance v = trigger { v with
      bal := { v.bal with queue := headRuns j (j.wayAtStart v.sample) v.now :: rest }
      arb := v.arb.granted v.now v.settings.tenure .balance
      hold := { v.hold with view := .held .balance }
      linkStage := x, freeUses := n } := by
  let g := v.setArb (v.arb.granted v.now v.settings.tenure .balance)
  let q := g.setQueue (headRuns j (j.wayAtStart v.sample) v.now :: rest)
  have idle : grantTaken .balance v = g := by
    have target : g.linkTarget = g.linkStage.target := by
      have flow : g.linkTarget = v.bal.flow := rfl
      rw [flow, Balance.flow, queue, show g.linkStage.target = Flow.zero from zero]
      exact if_neg (by rw [queued]; nofun)
    have follow : linkFollow g = g := if_pos target
    exact follow
  have check : j.startCheck g.sample = .inl (j.wayAtStart v.sample) := by
    rw [show g.sample = v.sample from rfl, Job.startCheck_eq, runs]
  have started : startChecks g = linkFollow q := by
    rw [startChecks, show g.bal.queue = j :: rest from queue]
    dsimp only
    rw [if_pos queued, check]
    rfl
  have link : linkFollow q = { q with linkStage := (linkFollow q).linkStage, freeUses := (linkFollow q).freeUses } :=
    linkFollow_eq_of_off (s := q) off
  generalize (linkFollow q).linkStage = x at link
  generalize (linkFollow q).freeUses = n at link
  refine ⟨x, n, ?_⟩
  rw [grantLink_eq, if_pos rfl, idle, started, link]
  exact congrArg trigger (holdTest_off off)

end

/-! ### The placing (R137) -/

section
variable {u : State} (p : Port) (direction mode count rate tolerance : Nat)

/-- R137: the job that a request describes. -/
def requestedJob (tag : Nat) : Job :=
  { tag := tag, originator := p
    direction := if direction = 0 then .aToB else if direction = 1 then .bToA else .towardLower
    mode := if mode = 0 then .count else .untilLevel
    count := count, rate := max 100 (min rate 2000)
    tolerance := if mode = 1 ∨ direction = 2 then some (max 5 (min tolerance 200)) else none
    resolved := none, moved := 0, residue := 0, state := .queued, heldSince := none, runs := [] }

/-- R136, R137: the engine with the job at the back of its queue. -/
def withJob (u : State) (j : Job) : State :=
  { u with bal := { u.bal with queue := u.bal.queue ++ [j], tagCounter := (j.tag + 1) % 256 } }

theorem placeJob_behind (j : Job) (others : u.bal.queue ≠ []) : placeJob j u = withJob u j := by
  have no : ¬ u.bal.queue.isEmpty = true := by rwa [List.isEmpty_iff]
  exact if_neg no

theorem placeJob_alone {j : Job} (empty : u.bal.queue = []) :
    placeJob j u = if u.balanceAllowed then raiseReq .balance ((withJob u j).setQueue [{ j with state := .queued }])
      else (withJob u j).setQueue [{ j with state := .suspended }] := by
  have yes : u.bal.queue.isEmpty = true := by rw [empty]; rfl
  have place : placeJob j u = newHead startChecks (withJob u j) := if_pos yes
  have queue : (withJob u j).bal.queue = [j] := by
    show u.bal.queue ++ [j] = [j]
    rw [empty]
    rfl
  rw [place, newHead, queue]
  rfl

/-- R137: what the checks of a request come to. -/
theorem takeBalQueue_bad (bad : ¬ (direction ≤ 2 ∧ mode ≤ 1 ∧ 1 ≤ count ∧ count ≤ 4095)) :
    takeBalQueue p direction mode count rate tolerance u = refuse p .badValue u := by
  rw [takeBalQueue]
  split
  next d m dir mod =>
    refine if_pos ?_
    have direction2 : direction ≤ 2 := by
      match direction, dir with
      | 0, _ => decide
      | 1, _ => decide
      | 2, _ => decide
    have mode1 : mode ≤ 1 := by
      match mode, mod with
      | 0, _ => decide
      | 1, _ => decide
    have range : count = 0 ∨ 4095 < count := by omega
    rw [Bool.or_eq_true, decide_eq_true_iff, decide_eq_true_iff]
    exact range
  next => rfl
  next => rfl

theorem takeBalQueue_good (good : direction ≤ 2 ∧ mode ≤ 1 ∧ 1 ≤ count ∧ count ≤ 4095) :
    takeBalQueue p direction mode count rate tolerance u =
      if 4 ≤ u.bal.queue.length then refuse p .full u
      else if u.latched .a || u.latched .b then refuse p .refused u
      else
        let j := requestedJob p direction mode count rate tolerance (freshTag u.bal.queue 4 u.bal.tagCounter)
        handReply p .ok (queueReply j u.bal.queue.length) (placeJob j u) := by
  obtain ⟨direction2, mode1, count1, count4095⟩ := good
  have range : ¬ (count = 0 || Config.countMax < count) = true := by
    rw [Bool.or_eq_true, decide_eq_true_iff, decide_eq_true_iff]
    have : ¬ (count = 0 ∨ 4095 < count) := by omega
    exact this
  have clamp (lo hi n : Nat) : clampNat lo hi n = max lo (min n hi) := congrArg (max lo) (Nat.min_comm hi n)
  have job {d : Direction} {m : Mode} (dir : directionOf direction = some d) (mod : modeOf mode = some m) (tag : Nat) :
      newJob tag p d m count rate tolerance = requestedJob p direction mode count rate tolerance tag := by
    rw [newJob, requestedJob, judgeRate, judgeTolerance, clamp, clamp]
    have direction' : direction = 0 ∨ direction = 1 ∨ direction = 2 := by omega
    have mode' : mode = 0 ∨ mode = 1 := by omega
    rcases direction' with rfl | rfl | rfl <;> rcases mode' with rfl | rfl <;>
      (obtain rfl := Option.some.inj dir; obtain rfl := Option.some.inj mod; rfl)
  obtain ⟨d, dir⟩ : ∃ d, directionOf direction = some d := by
    match direction, direction2 with
    | 0, _ => exact ⟨_, rfl⟩
    | 1, _ => exact ⟨_, rfl⟩
    | 2, _ => exact ⟨_, rfl⟩
  obtain ⟨m, mod⟩ : ∃ m, modeOf mode = some m := by
    match mode, mode1 with
    | 0, _ => exact ⟨_, rfl⟩
    | 1, _ => exact ⟨_, rfl⟩
  rw [takeBalQueue, dir, mod]
  dsimp only
  rw [if_neg range, judgeQueue]
  dsimp only
  rw [job dir mod]
  rfl

end


/-- The link's stage under a reply that follows a trigger. -/
theorem answered_trigger_link (p : Port) (code : ReplyCode) (l : List Byte) (y : State) :
    (handReply p code l (trigger y)).linkStage = y.linkStage ∧ (handReply p code l (trigger y)).freeUses = y.freeUses := by
  have still : (handReply p code l (trigger y)).still = y.still := by rw [handReply_still, trigger_still]
  exact ⟨(congrArg State.linkStage still :), (congrArg State.freeUses still :)⟩

/-- R121, R139: the job that finds the queue empty and the link at rest, granted the link and RUNNING. -/
theorem placedHead_runs {u : State} {j : Job} (p : Port) (l : List Byte) (on : u.operating = true)
    (running : u.power.phase = .running) (empty : u.bal.queue = []) (unasked : u.arb.waiting.balance = false)
    (off : u.hold.state = .off) (zero : u.linkStage.target = Flow.zero) (queued : j.state = .queued)
    (runs : j.endsAtStart u.sample = none) :
    let t := handReply p .ok l (grantLink startChecks .balance (asked .balance (withJob u j)))
    Triggered u t ∧ t.still = { u.still with
      bal := { u.bal with queue := [headRuns j (j.wayAtStart u.sample) u.now], tagCounter := (j.tag + 1) % 256 }
      arb := { u.arb with link := .held .balance, lastPair := some .balance, tenureExpired := false,
                          yieldPending := false, tenure := some (u.now + u.settings.tenure) }
      hold := { u.hold with view := .held .balance }
      linkStage := t.linkStage, freeUses := t.freeUses } := by
  intro t
  let v := asked .balance (withJob u j)
  have queue : v.bal.queue = j :: [] := by
    show u.bal.queue ++ [j] = [j]
    rw [empty]
    rfl
  obtain ⟨x, n, is⟩ := grant_balance_state (v := v) off zero queue queued runs
  have granted : t = handReply p .ok l (trigger { v with
      bal := { v.bal with queue := headRuns j (j.wayAtStart v.sample) v.now :: [] }
      arb := v.arb.granted v.now v.settings.tenure .balance
      hold := { v.hold with view := .held .balance }
      linkStage := x, freeUses := n }) := congrArg (handReply p .ok l) is
  have waiting : ({ u.arb.waiting with balance := false } : Waiting) = u.arb.waiting := by rw [← unasked]
  have arb : v.arb.granted v.now v.settings.tenure .balance = { u.arb with
      link := .held .balance, lastPair := some .balance, tenureExpired := false,
      yieldPending := false, tenure := some (u.now + u.settings.tenure) } :=
    (congrArg (fun w : Waiting => ({ u.arb with
      waiting := w, link := .held .balance, lastPair := some .balance, tenureExpired := false,
      yieldPending := false, tenure := some (u.now + u.settings.tenure) } : Arbiter)) waiting :)
  rw [granted]
  refine ⟨handReply_triggered p .ok l (trigger_triggered_since running on rfl rfl rfl rfl), ?_⟩
  obtain ⟨stage, uses⟩ := answered_trigger_link p .ok l { v with
    bal := { v.bal with queue := headRuns j (j.wayAtStart v.sample) v.now :: [] }
    arb := v.arb.granted v.now v.settings.tenure .balance
    hold := { v.hold with view := .held .balance }
    linkStage := x, freeUses := n }
  rw [stage, uses, handReply_still, trigger_still, arb]
  rfl

theorem exec_balQueue {s : State} {p : Port} (direction mode count rate tolerance : Nat) (h : Hands s p) (ne : p ≠ .input) :
    exec (.balQueue p (Framing.ofLength 7) direction mode count rate tolerance) s
      = .next (takeBalQueue p direction mode count rate tolerance
          (handedOver p (.balQueue p (Framing.ofLength 7) direction mode count rate tolerance) s)) :=
  exec_handed (r := .balQueue) rfl s h (by cases p <;> first | rfl | contradiction)

end Sys2Proof.Machine

namespace Sys2Proof
open Machine

/-- Settles O45: the judgement of the request, the tag, and what the arbiter makes of the head. -/
theorem jobQueued : Obligations.JobQueued := by
  intro s p direction mode count rate tolerance h ne small i u q latched good
  have ran : exec i s = .next (takeBalQueue p direction mode count rate tolerance u) :=
    exec_balQueue direction mode count rate tolerance h ne
  have on : u.operating = true := handedOver_operating p i s h.1.1
  have running : u.power.phase = .running := handedOver_running p i s h
  have counter : u.bal.tagCounter < 256 :=
    (congrArg (fun x : State => x.bal.tagCounter) (handedOver_still p i s h) :) ▸ small
  clear_value u
  have hot : (u.latched .a || u.latched .b) = true ↔ latched := by
    simp only [latched, State.latched, CellFaults.latched, Bool.or_eq_true, Protection.cell, or_assoc]
  refine ⟨fun bad => ?_, fun well full => ?_, fun well room stands => ?_, fun well room clear => ?_⟩
  · rw [ran, takeBalQueue_bad p _ _ _ _ _ bad]
    rfl
  · rw [ran, takeBalQueue_good p _ _ _ _ _ well, if_pos full]
    rfl
  · rw [ran, takeBalQueue_good p _ _ _ _ _ well, if_neg (Nat.not_le.mpr room), if_pos (hot.mpr stands)]
    rfl
  · obtain ⟨k, below, tagIs, fresh, before⟩ := freshTag_eq (n := u.bal.tagCounter) room counter
    refine ⟨k, List.mem_range.mpr below, ?_⟩
    intro tag tol j answer placed paused asking settled waits
    have place : exec i s = .next (handReply p .ok answer (placeJob j u)) := by
      rw [ran, takeBalQueue_good p _ _ _ _ _ well, if_neg (Nat.not_le.mpr room), if_neg (mt hot.mp clear), tagIs]
      rfl
    have alone (empty : q = []) (calm : ¬ paused) : placeJob j u = raiseReq .balance (placed j) := by
      have allowed : u.balanceAllowed = true := by
        rw [State.balanceAllowed, Bool.and_eq_true, beq_iff_eq, Bool.not_eq_true']
        exact ⟨not_not.mp fun on => calm (.inl on), Bool.eq_false_iff.mpr fun on => calm (.inr on)⟩
      rw [placeJob_alone empty, if_pos allowed]
      show raiseReq .balance ((placed j).setQueue [j]) = _
      have same : (placed j).setQueue [j] = placed j := by
        show ({ u with bal := { u.bal with queue := [j], tagCounter := (tag + 1) % 256 } } : State)
          = { u with bal := { u.bal with queue := q ++ [j], tagCounter := (tag + 1) % 256 } }
        rw [empty]
        rfl
      rw [same]
    refine ⟨fresh, fun m member => before m (List.mem_range.mp member), fun others => ?_, fun empty pausing => ?_,
      fun empty calm unasked idle => ?_, fun empty calm unasked free rest w chosen => ?_, fun empty calm unasked held expired => ?_⟩
    · rw [place, placeJob_behind j others]
      rfl
    · have barred : ¬ u.balanceAllowed = true := by
        rw [State.balanceAllowed, Bool.and_eq_true, beq_iff_eq, Bool.not_eq_true']
        rintro ⟨off, cool⟩
        exact pausing.elim (fun on => on off) fun hot => Bool.noConfusion (cool.symm.trans hot)
      have suspends : placeJob j u = placed { j with state := .suspended } := by
        rw [placeJob_alone empty, if_neg barred]
        show ({ u with bal := { u.bal with queue := [{ j with state := .suspended }], tagCounter := (tag + 1) % 256 } } : State)
          = { u with bal := { u.bal with queue := q ++ [{ j with state := .suspended }], tagCounter := (tag + 1) % 256 } }
        rw [empty]
        rfl
      rw [place, suspends]
      rfl
    · rw [place, alone empty calm, raiseBalance_waits (s := placed j) unasked idle]
      rfl
    · let v : State := { placed j with arb := asking }
      have raised : placeJob j u = grantLink startChecks w v :=
        (alone empty calm).trans (raiseBalance_granted (s := placed j) unasked free rest chosen)
      have queue : v.bal.queue = j :: [] := by
        show q ++ [j] = [j]
        rw [empty]
        rfl
      have choose : v.arb.choose = some w := (Arbiter.choose_eq_choice _).trans chosen
      have granted : Granted v (grantLink startChecks w v) w := grantLink_granted (v := v) on running (.inl free) choose
      refine ⟨handReply p .ok answer (grantLink startChecks w v), place.trans (by rw [raised]), handReply_answers .ok answer _,
        granted.handReply p .ok answer, fun own runs => ?_, fun own ends => ?_⟩
      · have off : v.hold.state = .off := not_not.mp fun on => calm (.inl on)
        obtain ⟨triggered, still⟩ := placedHead_runs p answer on running empty unasked off rest.2 (j := j) rfl runs
        obtain ⟨-, target, -⟩ := grant_balance_runs v queue rfl runs
        have rated : j.rate ≠ 0 := by
          have least : 100 ≤ j.rate := Nat.le_max_left 100 (min rate 2000)
          omega
        have carries (d : Dir) : Flow.of d j.rate = { dir := d, mag := j.rate } := if_neg rated
        rw [own]
        exact ⟨triggered, target.trans (carries _), still⟩
      · rw [own]
        obtain ⟨r, reason⟩ : ∃ r, j.endsAtStart v.sample = some r := Option.ne_none_iff_exists'.mp ends
        obtain ⟨-, -, -, tags, -, -, waiting⟩ := grant_balance_ends v queue rfl reason
        refine ⟨List.map_eq_nil_iff.mp tags, waiting rfl, ?_⟩
        rw [handReply_outer, grantLink_outer startChecks_outer .balance v]
        rfl
    · let v : State := { placed j with arb := asking }
      have raised : placeJob j u = loseLink startChecks .yield .chargeB v :=
        (alone empty calm).trans (raiseBalance_yields (s := placed j) unasked held expired)
      have yielded : Yielded v (loseLink startChecks .yield .chargeB v) := yield_yielded (v := v) on running
      exact ⟨handReply p .ok answer (loseLink startChecks .yield .chargeB v), place.trans (by rw [raised]),
        handReply_answers .ok answer _, yielded.handReply p .ok answer⟩

end Sys2Proof
end

section
/-! BAL_CANCEL (R138, R145, R146): O46. -/

namespace Sys2Proof.Machine

/-! ### The tags that are left (R136, R145) -/

/-- The jobs queued are the last ones of those with these tags. -/
def TagsWithin (tags : List Nat) (s : State) : Prop := s.bal.queue.map Job.tag <:+ tags

section
variable {tags : List Nat} {s : State} {f : State → State}

theorem TagsWithin.congr {t : State} (h : TagsWithin tags s) (same : t.bal.queue.map Job.tag = s.bal.queue.map Job.tag) : TagsWithin tags t := by
  rw [TagsWithin, same]
  exact h

theorem TagsWithin.reacts {E : List Effect} {t : State} (h : TagsWithin tags s) (reacts : Reacts E s t) (nq : .queue ∉ E) :
    TagsWithin tags t := h.congr (by rw [reacts.queue_eq nq])

theorem TagsWithin.told (h : TagsWithin tags s) (cause : LossCause) : TagsWithin tags (reportLossToEngine cause s) := by
  refine h.congr ?_
  rw [reportLossToEngine_eq]
  show (lossQueue cause s.now s.bal.queue).map Job.tag = s.bal.queue.map Job.tag
  unfold lossQueue
  split
  next empty => rw [empty]
  next j rest queue =>
    rw [queue]
    split <;> rfl

theorem tagsRules (tags : List Nat) : LinkRules (TagsWithin tags) :=
  .of_blind (fun reacts h => h.reacts reacts (by decide)) (fun h => h.reacts (linkFollow_reacts _) (by decide))
    (fun h _ _ => h) (fun h _ => h) (fun h _ => h) (fun h => h) fun h => h.told _

theorem TagsWithin.newHead (answers : ∀ s, TagsWithin tags s → TagsWithin tags (f s)) (h : TagsWithin tags s) :
    TagsWithin tags (newHead f s) := by
  unfold Machine.newHead
  split
  next => exact h
  next j rest queue =>
    have named (st : JobState) : TagsWithin tags (s.setQueue ({ j with state := st } :: rest)) := h.congr (by rw [queue]; rfl)
    split
    · exact (tagsRules tags).raiseLink answers (named .queued) fun _ _ => named .queued
    · exact named .suspended

/-- R145: the end of a head leaves of the jobs behind it the last ones. -/
theorem endHead_tags (answers : ∀ tags s, TagsWithin tags s → TagsWithin tags (f s)) {j : Job} {rest : List Job}
    (queue : s.bal.queue = j :: rest) (reason : EndReason) : TagsWithin (rest.map Job.tag) (endHead f reason s) := by
  let T := rest.map Job.tag
  have left : TagsWithin T (s.setQueue rest) := List.suffix_refl _
  have withdrawn : TagsWithin T (if j.state = .suspended then s.setQueue rest else withdrawLink f .balance (s.setQueue rest)) := by
    split
    · exact left
    · exact (tagsRules T).withdrawLink (answers T) (fun _ => left.reacts (t := lossTaken .balance false _)
        ((Touches.arb ((s.setQueue rest).arb.lost s.now .balance false) _ rfl).reacts (E := .arb :: followEffects) (by decide)
          |>.trans ((linkFollow_reacts _).mono (by decide))) (by decide)) fun _ => left
  have recorded := withdrawn.reacts (recordEnding_reacts (E := [.last, .notice]) _ (by decide) (by decide) j reason) (by decide)
  unfold endHead
  rw [queue]
  exact (recorded.newHead (answers T)).reacts (queueEmptied_reacts (E := [.monitor]) _ (by decide)) (by decide)

theorem startChecks_tags (tags : List Nat) (s : State) (h : TagsWithin tags s) : TagsWithin tags (startChecks s) := by
  unfold startChecks
  split
  next => exact h
  next j rest queue =>
    split
    · split
      next way _ =>
        have named : TagsWithin tags (s.setQueue (headRuns j way s.now :: rest)) := h.congr (by rw [queue]; rfl)
        exact (tagsRules tags).follows named
      next reason _ =>
        have behind : rest.map Job.tag <:+ tags := by
          rw [TagsWithin, queue] at h
          exact (List.suffix_cons j.tag (rest.map Job.tag)).trans h
        exact (endHead_tags (fun _ _ => id) queue reason).trans behind
    · exact h

/-- R145: the originator is told of the end. -/
theorem endHead_noticed (reaches : ∀ s, Reacts engineEffects s (f s)) {j : Job} {rest : List Job} (queue : s.bal.queue = j :: rest)
    (reason : EndReason) : Noticed (endHead f reason s) j.originator .balDone := by
  unfold endHead
  rw [queue]
  dsimp only
  have told (u : State) : Noticed (recordEnding j reason u) j.originator .balDone := raiseNotice_noticed .balDone j.originator _
  exact (queueEmptied_reacts (E := [.monitor]) _ (by decide)).noticed ((newHead_reacts reaches _).noticed (told _))

end

/-! ### A head that RAN on the link (R125, R138) -/

section
variable {s : State}

theorem afterLoss_wanted (cause : LossCause) (r : Requester) (on : s.operating = true) (running : s.power.phase = .running) :
    PassWanted s (afterLoss cause r s) ∧ Reacts engineEffects s (afterLoss cause r s) := by
  let g := linkFollow (s.setArb (s.arb.lost s.now r (cause != .withdrawal)))
  have lost : Reacts engineEffects s g :=
    ((Touches.arb _ s (lost_faultLock ..)).reacts (by decide)).trans ((linkFollow_reacts _).mono (by decide))
  have last (x : State) (told : Reacts engineEffects s x) :
      PassWanted s (trigger (reportLink x)) ∧ Reacts engineEffects s (trigger (reportLink x)) := by
    have reported := told.trans ((reportLink_reacts x).mono (by decide))
    exact ⟨reported.passGoesOn.passWanted ((Keeps.phase reported.keeps).trans running) (reported.operating_eq.trans on),
      reported.trans (trigger_reacts _ (by decide))⟩
  cases r with
  | supply => exact last _ lost
  | chargeB => exact last _ (lost.trans ((reportToB_reacts g true).mono (by decide)))
  | balance => exact last _ (lost.trans ((reportLossToEngine_reacts g cause).mono (by decide)))

/-- R66, R122: a loss wants a pass. -/
theorem loseLink_wanted (cause : LossCause) (r : Requester) (on : s.operating = true) (running : s.power.phase = .running) :
    PassWanted s (loseLink startChecks cause r s) := by
  let l := afterLoss cause r s
  obtain ⟨wanted, reacts⟩ : PassWanted s l ∧ Reacts engineEffects s l := afterLoss_wanted cause r on running
  rw [loseLink_eq]
  split
  · have link : l.arb.link = .changeover := afterLoss_unheld cause r s
    unfold endChangeover
    split
    next w _ =>
      exact wanted.trans (grantLink_wanted startChecks startChecks_reacts (reacts.operating_eq.trans on)
        ((Keeps.phase reacts.keeps).trans running) w)
    next => exact linkFreed_wanted wanted link
  · exact wanted

/-- R138: the next job at the head leaves a wanted pass wanted. -/
theorem nextWaits_wanted {u : State} (wanted : PassWanted u s) : PassWanted u (nextWaits s) := by
  unfold nextWaits
  split
  · exact wanted
  next j rest _ =>
    split
    · have same : (asked .balance (s.setQueue ({ j with state := .queued } :: rest))).snapshot = s.snapshot :=
        snapshot_setArb (s.setQueue ({ j with state := .queued } :: rest)) rfl
      exact wanted.congr rfl same
    · exact wanted.congr rfl rfl

/-- R66, R122, R145: the end of a head that gives the link up wants a pass. -/
theorem endHead_wanted {j : Job} {rest : List Job} (on : s.operating = true) (running : s.power.phase = .running)
    (queue : s.bal.queue = j :: rest) (held : s.arb.link = .held .balance) (going : j.state ≠ .suspended) (reason : EndReason) :
    PassWanted s (endHead startChecks reason s) := by
  let e := withdrawLink startChecks .balance (s.setQueue rest)
  let r := recordEnding j reason e
  obtain ⟨given, -⟩ := withdrawLink_givesUp startChecks (s := s.setQueue rest) held
  have recorded : Reacts [.last, .notice] e r := recordEnding_reacts e (by decide) (by decide) j reason
  have ended : endHead startChecks reason s = queueEmptied (nextWaits r) := by
    have given' : GivenUp s.arb.lastPair (s.now + 100) r.arb := by
      rw [show r.arb = e.arb from recorded.arb_eq (by decide) (by decide)]
      exact given
    rw [endHead, queue]
    dsimp only
    rw [if_neg going]
    exact congrArg queueEmptied (given'.newHead startChecks)
  have lost : PassWanted s e := by
    have wanted : PassWanted (s.setQueue rest) (loseLink startChecks .withdrawal .balance (s.setQueue rest)) :=
      loseLink_wanted .withdrawal .balance on running
    rwa [← withdrawLink_held startChecks (s := s.setQueue rest) held] at wanted
  have next : PassWanted s (nextWaits r) :=
    nextWaits_wanted (lost.reacts recorded (by decide) (by decide) (by decide) (by decide) (by decide))
  rw [ended]
  exact next.reacts (queueEmptied_reacts (E := [.monitor]) _ (by decide)) (by decide) (by decide) (by decide) (by decide) (by decide)

/-! ### The ends of the other heads, and of a job behind the head (R145, R146) -/

theorem raiseNotice_eq (k : Notice) (p : Port) (s : State) : raiseNotice k p s = { s with ports := noting k.bit [p] s.ports } := by
  cases p <;> rfl

/-- R145 steps 2 and 3. -/
theorem recordEnding_eq (j : Job) (reason : EndReason) (s : State) : recordEnding j reason s = { s with
    bal := { s.bal with last := s.bal.last.set j.originator (some { tag := j.tag, reason := reason, moved := j.moved }) }
    ports := noting 5 [j.originator] s.ports } := raiseNotice_eq .balDone j.originator _

theorem queueEmptied_awake {p : Port} (awake : (s.port p).dormant = false) : queueEmptied s = s := by
  unfold queueEmptied
  split
  · exact if_neg (by rw [not_quiet_of_awake awake]; decide)
  · rfl

/-- R141, R145: the end of a SUSPENDED head where the next is SUSPENDED too. -/
theorem endHead_suspended {j : Job} {rest : List Job} {p : Port} (awake : (s.port p).dormant = false)
    (queue : s.bal.queue = j :: rest) (suspended : j.state = .suspended) (paused : s.balanceAllowed = false) (reason : EndReason) :
    let t := endHead startChecks reason s
    t.arb = s.arb ∧ t.bal.last = s.bal.last.set j.originator (some { tag := j.tag, reason := reason, moved := j.moved })
      ∧ t.bal.queue.map Job.tag = rest.map Job.tag ∧ ∀ k ∈ t.bal.queue.head?, k.state = .suspended := by
  let r := recordEnding j reason (s.setQueue rest)
  have barred : ¬ r.balanceAllowed = true := Bool.eq_false_iff.mp paused
  have dormant (q : List Job) : ((r.setQueue q).port p).dormant = false := by
    have kept := (recordEnding_reacts (E := [.last, .notice]) (s.setQueue rest) (by decide) (by decide) j reason).keeps
    exact (congrArg PortState.dormant (Keeps.port kept p) :).trans awake
  have ended : endHead startChecks reason s = queueEmptied (newHead startChecks r) := by
    rw [endHead, queue]
    dsimp only
    rw [if_pos suspended]
  have next : newHead startChecks r = r.setQueue (match rest with
      | [] => []
      | k :: more => { k with state := .suspended } :: more) := by
    unfold newHead
    cases rest with
    | nil => rfl
    | cons k more => exact if_neg barred
  intro t
  have is : t = _ := ended.trans ((congrArg queueEmptied next).trans (queueEmptied_awake (dormant _)))
  rw [is]
  refine ⟨rfl, rfl, ?_, ?_⟩
  · cases rest <;> rfl
  · intro k head
    cases rest with
    | nil => exact absurd head (Option.not_mem_none k)
    | cons k' more =>
      obtain rfl := Option.some.inj head
      rfl

/-- R125, R138, R145: the end of a QUEUED head that waits for the link, before the next job raises BALANCE. -/
theorem endHead_waiting {j : Job} {rest : List Job} (queue : s.bal.queue = j :: rest) (queued : j.state = .queued)
    (unheld : s.arb.link ≠ .held .balance) (waits : s.arb.waiting.balance = true) (reason : EndReason) :
    endHead startChecks reason s = queueEmptied (newHead startChecks { s with
      bal := { s.bal with
        queue := rest, last := s.bal.last.set j.originator (some { tag := j.tag, reason := reason, moved := j.moved }) }
      ports := noting 5 [j.originator] s.ports
      arb := { s.arb with waiting := { s.arb.waiting with balance := false } } }) := by
  have going : ¬ j.state = .suspended := by
    rw [queued]
    nofun
  have pending : (if s.arb.waiting.has .balance then s.arb.yieldPending && Requester.balance != .chargeB else s.arb.yieldPending)
      = s.arb.yieldPending := by
    rw [show s.arb.waiting.has .balance = true from waits]
    exact Bool.and_true _
  have left : withdrawLink startChecks .balance (s.setQueue rest)
      = (s.setQueue rest).setArb { s.arb with waiting := { s.arb.waiting with balance := false } } := by
    have withdrawn : withdrawLink startChecks .balance (s.setQueue rest) = unasked .balance (s.setQueue rest) :=
      withdrawLink_unheld startChecks unheld
    rw [withdrawn, unasked]
    exact congrArg (fun y => (s.setQueue rest).setArb { s.arb with
      waiting := { s.arb.waiting with balance := false }, yieldPending := y }) pending
  rw [endHead, queue]
  dsimp only
  rw [if_neg going, left, recordEnding_eq]
  rfl

end

theorem holder_balance (a : Arbiter) : a.holder = some .balance ↔ a.link = .held .balance := by
  unfold Arbiter.holder
  split
  next r held =>
    rw [held]
    exact ⟨fun same => congrArg LinkState.held (Option.some.inj same), fun same => congrArg some (LinkState.held.inj same)⟩
  next free => exact iff_of_false nofun (by rw [free]; nofun)
  next changing => exact iff_of_false nofun (by rw [changing]; nofun)

theorem noting_dormant (bit : Nat) (ps : List Port) (u : State) (p : Port) :
    (({ u with ports := noting bit ps u.ports } : State).port p).dormant = (u.port p).dormant := by
  have each (q : Port) (x : PortState) : (if q ∈ ps then { x with notices := x.notices ||| BitVec.ofNat 13 (2 ^ bit) } else x).dormant
      = x.dormant := by
    split <;> rfl
  cases p <;> exact each _ _

/-- R138: the jobs with the first QUEUED. -/
def queuedHead : List Job → List Job
  | [] => []
  | k :: rest => { k with state := .queued } :: rest

theorem newHead_allowed {s : State} (allowed : s.balanceAllowed = true) : newHead startChecks s =
    if s.bal.queue = [] then s else raiseReq .balance (s.setQueue (queuedHead s.bal.queue)) := by
  unfold newHead
  cases s.bal.queue with
  | nil => rfl
  | cons k rest => exact if_pos allowed

theorem exec_balCancel {s : State} {p : Port} (tag : Nat) (h : Hands s p) (ne : p ≠ .input) :
    exec (.balCancel p (Framing.ofLength 1) tag) s
      = .next (takeBalCancel p tag (handedOver p (.balCancel p (Framing.ofLength 1) tag) s)) :=
  exec_handed (r := .balCancel) rfl s h (by cases p <;> first | rfl | contradiction)

end Sys2Proof.Machine

namespace Sys2Proof
open Machine

/-- Settles O46: the judgement, a job behind the head, and the head, by its state. -/
theorem jobCancelled : Obligations.JobCancelled := by
  intro s p tag h ne i u q found result
  have ran : exec i s = .next (takeBalCancel p tag u) := exec_balCancel tag h ne
  have on : u.operating = true := handedOver_operating p i s h.1.1
  have running : u.power.phase = .running := handedOver_running p i s h
  have awake : (u.port p).dormant = false := handedOver_awake i h
  clear_value u
  refine ⟨fun missing => ?_, fun j is => ?_⟩
  · rw [ran, takeBalCancel, show u.bal.queue.find? (fun j => j.tag == tag) = none from missing]
    rfl
  have named : j.tag = tag := beq_iff_eq.mp (List.find?_some (p := fun j : Job => j.tag == tag) is)
  have judged : takeBalCancel p tag u = if j.originator = p then handReply p .ok (cancelReply j) (cancelJob j u) else refuse p .notOwner u := by
    rw [takeBalCancel, show u.bal.queue.find? (fun j => j.tag == tag) = some j from is]
  intro answer
  have cancels (own : j.originator = p) : exec i s = .next (handReply p .ok answer (cancelJob j u)) := by
    rw [ran, judged, if_pos own, cancelReply, named]
  have first (head : q.head? = some j) : cancelJob j u = endHead startChecks .cancelled u := if_pos head
  have shape (head : q.head? = some j) : u.bal.queue = j :: q.tail := (List.eq_cons_of_mem_head? head :)
  refine ⟨fun other => ?_, fun own behind => ?_, fun own head => ?_, fun own head queued off cool unheld waits => ?_⟩
  · rw [ran, judged, if_neg other]
    rfl
  · have left : cancelJob j u = recordEnding j .cancelled (u.setQueue (q.filter (fun k => k.tag != tag))) := by
      rw [cancelJob, if_neg behind, named]
    rw [cancels own, left, recordEnding_eq, own]
    rfl
  · have queue := shape head
    let t := handReply p .ok answer (endHead startChecks .cancelled u)
    have reacts : Reacts engineEffects u (endHead startChecks .cancelled u) := finishHead_reacts u .cancelled
    obtain ⟨power, seq⟩ := reacts.awake awake
    have noticed : Noticed t p .balDone := handReply_noticed (own ▸ endHead_noticed startChecks_reacts queue .cancelled)
    refine ⟨t, (cancels own).trans (by rw [first head]), handReply_answers .ok answer _, noticed,
      endHead_tags startChecks_tags queue .cancelled, handReply_frame reacts.keeps .ok answer, power, seq, fun runs held => ?_,
      fun suspended paused => ?_⟩
    · have going : j.state ≠ .suspended := by
        rw [runs]
        nofun
      obtain ⟨⟨a, given, arb⟩, tags, heads, last, -⟩ := endHead_held startChecks queue held going .cancelled
      have allowed : u.balanceAllowed = true ↔ u.hold.state = .off ∧ u.bal.dieHot = false := balanceAllowed_iff u
      refine ⟨(endHead_wanted on running queue held going .cancelled).handReply p .ok answer, own ▸ last, tags, ?_, ?_, fun k first => ?_, ?_⟩
      · exact fun holder => given.unheld (((congrArg Arbiter.link arb).symm).trans ((holder_balance _).mp holder))
      · exact (congrArg Arbiter.backoffBalance arb).trans given.backoff
      · rw [heads k first]
        exact if_congr allowed rfl rfl
      · refine (congrArg (fun a : Arbiter => a.waiting.balance) arb).trans ?_
        rw [Bool.eq_iff_iff]
        simp only [Bool.and_eq_true, decide_eq_true_iff, allowed]
    · have barred : u.balanceAllowed = false := by
        refine Bool.eq_false_iff.mpr fun allowed => ?_
        obtain ⟨off, cool⟩ := (balanceAllowed_iff u).mp allowed
        exact paused.elim (fun on => on off) fun hot => Bool.noConfusion (cool.symm.trans hot)
      exact own ▸ endHead_suspended awake queue suspended barred .cancelled
  · intro next v settled idle
    have queue := shape head
    let w : State := { v with
      bal := { v.bal with queue := q.tail }, arb := { u.arb with waiting := { u.arb.waiting with balance := false } } }
    let x : State := { v with arb := { u.arb with waiting := { u.arb.waiting with balance := false } } }
    have ended : endHead startChecks .cancelled u = queueEmptied (newHead startChecks w) := by
      rw [endHead_waiting queue queued unheld waits .cancelled, own]
    have allowed : w.balanceAllowed = true := (balanceAllowed_iff w).mpr ⟨off, cool⟩
    have awakeW : (w.port p).dormant = false := (noting_dormant 5 [p] u p).trans awake
    have all : cancelJob j u = newHead startChecks w := by
      rw [first head, ended]
      exact queueEmptied_awake ((congrArg PortState.dormant (Keeps.port (newHead_reacts startChecks_reacts w).keeps p) :).trans awakeW)
    have asks : asked .balance x = v := by
      have waiting : ({ u.arb.waiting with balance := true } : Waiting) = u.arb.waiting := by rw [← waits]
      exact congrArg (fun y : Waiting => ({ v with arb := { u.arb with waiting := y } } : State)) waiting
    have raises (others : q.tail ≠ []) : cancelJob j u = raiseReq .balance x := by
      rw [all, newHead_allowed allowed, if_neg (show ¬ w.bal.queue = [] from others)]
      rfl
    refine ⟨fun alone => ?_, fun others only => ?_, fun others free rest w chosen => ?_, fun others held expired => ?_⟩
    · have empty : next = [] := by
        show queuedHead q.tail = []
        rw [alone]
        rfl
      have same : newHead startChecks w = { v with arb := { u.arb with waiting := { u.arb.waiting with balance := false } } } := by
        rw [newHead_allowed allowed, if_pos (show w.bal.queue = [] from alone)]
        show ({ x with bal := { x.bal with queue := q.tail } } : State) = { x with bal := { x.bal with queue := next } }
        rw [alone, empty]
      rw [cancels own, all, same]
      rfl
    · have waiting : raiseReq .balance x = asked .balance x := by
        refine raiseBalance_waits (s := x) rfl ?_
        rw [asks]
        exact only
      rw [cancels own, raises others, waiting, asks]
      rfl
    · have choose : v.arb.choose = some w := (Arbiter.choose_eq_choice _).trans chosen
      have granted : raiseReq .balance x = grantLink startChecks w v := by
        rw [raiseBalance_granted (s := x) rfl free rest (w := w) (by rw [asks]; exact chosen), asks]
      refine ⟨handReply p .ok answer (grantLink startChecks w v), ?_, handReply_answers .ok answer _,
        (grantLink_granted (v := v) on running (.inl free) choose).handReply p .ok answer⟩
      rw [cancels own, raises others, granted]
    · have yielded : raiseReq .balance x = loseLink startChecks .yield .chargeB v := by
        rw [raiseBalance_yields (s := x) rfl held expired, asks]
      refine ⟨handReply p .ok answer (loseLink startChecks .yield .chargeB v), ?_, handReply_answers .ok answer _,
        (yield_yielded (v := v) on running).handReply p .ok answer⟩
      rw [cancels own, raises others, yielded]

end Sys2Proof
end

section
/-! What a sample arrival brings to the allocator and to the power state (R11, R66, R202): O25. -/

namespace Sys2Proof.Machine

/-! ### A pass stays wanted through the operations that follow (R66) -/

/-- A pass is wanted since u, of a part at work past LOADING. -/
structure Wanted (u s : State) : Prop where
  on : s.operating = true
  running : s.power.phase = .running
  wanted : PassWanted u s

namespace Wanted
variable {u s t : State}

theorem reacts {E : List Effect} (h : Wanted u s) (k : Reacts E s t) (na : .arb ∉ E) (nl : .lock ∉ E) (nA : .chA ∉ E)
    (nB : .chB ∉ E) (nb : .linkB ∉ E) : Wanted u t :=
  ⟨k.operating_eq.trans h.on, (Keeps.phase k.keeps).trans h.running, h.wanted.reacts k na nl nA nB nb⟩

theorem congr (h : Wanted u s) (power : t.power = s.power) (alloc : t.alloc = s.alloc) (snapshot : t.snapshot = s.snapshot) : Wanted u t :=
  ⟨(congrArg (fun x : PowerCtl => x.supplied && x.state != .ship) power).trans h.on, (congrArg PowerCtl.phase power).trans h.running,
    h.wanted.congr alloc snapshot⟩

theorem setArb (h : Wanted u s) {a : Arbiter} (holder : a.holder = s.arb.holder) : Wanted u (s.setArb a) :=
  h.congr rfl rfl (snapshot_setArb s holder)

theorem setQueue (h : Wanted u s) (q : List Job) : Wanted u (s.setQueue q) := h.congr rfl rfl rfl

theorem of_passWanted {E : List Effect} (h : Wanted u s) (k : Reacts E s t) (wanted : PassWanted s t) : Wanted u t :=
  ⟨k.operating_eq.trans h.on, (Keeps.phase k.keeps).trans h.running, h.wanted.trans wanted⟩

theorem grantLink (h : Wanted u s) (r : Requester) : Wanted u (grantLink startChecks r s) :=
  h.of_passWanted (grantLink_reacts (E := engineEffects) (by decide) startChecks_reacts r s)
    (grantLink_wanted startChecks startChecks_reacts h.on h.running r)

theorem loseLink (h : Wanted u s) (cause : LossCause) (r : Requester) : Wanted u (loseLink startChecks cause r s) :=
  h.of_passWanted (lossOf_reacts s cause r) (loseLink_wanted cause r h.on h.running)

theorem chooseFree (h : Wanted u s) : Wanted u (chooseFree startChecks s) := by
  unfold Machine.chooseFree
  split
  · split
    · exact h.grantLink _
    · exact h
  · exact h

theorem startYield (h : Wanted u s) (r : Requester) : Wanted u (startYield startChecks r s) := by
  cases r with
  | supply => exact h
  | chargeB => exact h.loseLink .yield .chargeB
  | balance => exact h.setArb (a := { s.arb with yieldPending := true }) rfl

theorem raiseReq (h : Wanted u s) (r : Requester) : Wanted u (raiseReq r s) := by
  have asks : Wanted u (asked r s) := h.setArb rfl
  have yields (holder : Requester) (b : Bool) : Wanted u (if b then Machine.startYield startChecks holder (asked r s) else asked r s) := by
    split
    · exact asks.startYield holder
    · exact asks
  unfold Machine.raiseReq raiseLink
  split
  · exact h
  · dsimp only
    split
    · exact asks.chooseFree
    next holder _ =>
      cases r with
      | supply => exact asks.loseLink .preemption holder
      | chargeB => exact yields holder _
      | balance => exact yields holder _
    · exact asks

theorem withdrawReq (h : Wanted u s) (r : Requester) : Wanted u (withdrawReq r s) := by
  unfold Machine.withdrawReq withdrawLink
  split
  · exact h.loseLink .withdrawal r
  · split
    · exact h.setArb rfl
    · exact h

theorem newHead (h : Wanted u s) : Wanted u (newHead startChecks s) := by
  unfold Machine.newHead
  split
  · exact h
  · split
    · exact (h.setQueue _).raiseReq .balance
    · exact h.setQueue _

theorem finishHead (h : Wanted u s) (reason : EndReason) : Wanted u (finishHead reason s) := by
  have recorded (v : State) (hv : Wanted u v) (j : Job) : Wanted u (recordEnding j reason v) :=
    hv.reacts (recordEnding_reacts (E := [.last, .notice]) v (by decide) (by decide) j reason) (by decide) (by decide) (by decide)
      (by decide) (by decide)
  have emptied (v : State) (hv : Wanted u v) : Wanted u (queueEmptied v) :=
    hv.reacts (queueEmptied_reacts (E := [.monitor]) v (by decide)) (by decide) (by decide) (by decide) (by decide) (by decide)
  unfold Machine.finishHead endHead
  split
  · exact h
  next j rest _ =>
    refine emptied _ (newHead (recorded _ ?_ j))
    split
    · exact h.setQueue rest
    · exact (h.setQueue rest).withdrawReq .balance

theorem engineSample (h : Wanted u s) : Wanted u (engineSample s) := by
  have credited (q : List Job) (c : Bool) : Wanted u (if c then quantumReport (s.setQueue q) else s.setQueue q) := by
    unfold quantumReport
    split
    · split
      · exact (h.setQueue q).loseLink .yield .balance
      · exact h.setQueue q
    · exact h.setQueue q
  unfold Machine.engineSample
  split
  · exact h
  · dsimp only
    split
    · exact finishHead (credited _ _) _
    · exact credited _ _

theorem syncChargeB (h : Wanted u s) : Wanted u (syncChargeB s) := by
  have requests (b : Bool) : Wanted u { s with chB := { s.chB with request := b } } := h.congr rfl rfl rfl
  unfold Machine.syncChargeB
  dsimp only
  split
  · exact h
  · split
    · exact (requests _).raiseReq .chargeB
    · exact (requests _).withdrawReq .chargeB

theorem handPresented (h : Wanted u s) (c : Cell) : Wanted u (handPresented c s) := by
  cases c with
  | a => exact h.reacts (takeCharge_reacts _ _) (by decide) (by decide) (by decide) (by decide) (by decide)
  | b => exact (h.reacts (linkFollow_reacts s) (by decide) (by decide) (by decide) (by decide) (by decide)).syncChargeB

/-- R66, R97: an event of a channel that leaves its demand, or raises a trigger. -/
theorem commit {c : Cell} {y : Change} (h : Wanted u s)
    (demand : y.trigger = true ∨ y.ch.demand c s.profile = (s.channel c).demand c s.profile) : Wanted u (commit c y s) := by
  by_cases triggers : y.trigger = true
  · exact h.of_passWanted (commit_reacts s c y) (commit_passWanted triggers h.running h.on)
  · have same : (s.setChannel c y.ch).snapshot = s.snapshot := by
      have demands := demand.resolve_left triggers
      cases c with
      | a => exact congrArg (fun n => { s.snapshot with demandA := n }) demands
      | b => exact congrArg (fun n => { s.snapshot with demandB := n }) demands
    have changed : Wanted u (s.setChannel c y.ch) := by
      cases c with
      | a => exact h.congr rfl rfl same
      | b => exact h.congr rfl rfl same
    have told : Wanted u (toldChange c y s) :=
      changed.reacts (toldChange_reacts c y s) (by decide) (by decide) (by decide) (by decide) (by decide)
    rw [commit_eq]
    exact (told.handPresented c).reacts (settleChange_reacts y _ _) (by decide) (by decide) (by decide) (by decide) (by decide)

end Wanted

/-- R100: judging a sample leaves the channel's state and its slot. -/
theorem Channel.observe_place (ch : Channel) (c : Cell) (profile : List StepRecord) (x : Sample) :
    (ch.observe c profile x).state = ch.state ∧ (ch.observe c profile x).slot = ch.slot := by
  have counted (y : Channel) : (y.countRun c profile x).state = y.state ∧ (y.countRun c profile x).slot = y.slot := by
    unfold Channel.countRun
    split <;> exact ⟨rfl, rfl⟩
  exact counted _

/-- R97, R100: a sample that changes a channel's demand raises a trigger. -/
theorem Change.sample_demand (c : Cell) (profile : List StepRecord) (x : Sample) (ch : Channel) :
    (Change.sample c profile x ch).trigger = true ∨ (Change.sample c profile x ch).ch.demand c profile = ch.demand c profile := by
  unfold Change.sample
  split
  · dsimp only
    split
    · exact .inl rfl
    · split
      · exact .inl rfl
      · refine (Decidable.em (ch.reasons = (ch.observe c profile x).reasons)).symm.imp (fun differ => bne_iff_ne.mpr differ) fun same => ?_
        have demands (new : Channel) (state : new.state = ch.state) (slot : new.slot = ch.slot) (reasons : new.reasons = ch.reasons) :
            new.demand c profile = ch.demand c profile := by
          rw [Channel.demand, Channel.demand, Channel.step, Channel.step, state, slot, reasons]
        obtain ⟨state, slot⟩ := ch.observe_place c profile x
        exact demands _ state slot same.symm
  · exact .inr rfl

/-! ### The allocator's turn (R14, R66) -/

/-- R68: of the input controller a pass reads the state, the contract in force and the droop limit. -/
theorem setInput_snapshot {s : State} {x : InputCtl} (state : x.state = s.input.state) (force : x.inForce = s.input.inForce)
    (limit : x.droopLimit = s.input.droopLimit) : (s.setInput x).snapshot = s.snapshot := by
  have reads : (s.setInput x).snapshot = { s.snapshot with inputState := x.state, contract := x.inForce, droopLimit := x.droopLimit } := rfl
  rw [reads, state, force, limit]
  rfl

/-- R51: the input controller's part of a sample, as it notes the report, cuts the limit and hands it. -/
theorem inputSample_eq (s : State) : inputSample s =
    let told := s.setInput { s.input with reports := s.input.reports ++ [s.input.overVoltage s.sample.vIn] }
    let cut := told.setInput { told.input with droopLimit := s.input.drooped, recovery := some (s.now + 30000) }
    let v := raiseNotice .droop .main (raiseNotice .droop .input cut)
    if s.input.droops s.sample.vIn then
      if s.input.drooped = s.input.droopLimit then v else trigger (handLimit v)
    else told := rfl

theorem Wanted.inputSample {u s : State} (h : Wanted u s) : PassWanted u (inputSample s) := by
  rw [inputSample_eq]
  have told : Wanted u (s.setInput { s.input with reports := s.input.reports ++ [s.input.overVoltage s.sample.vIn] }) :=
    h.congr rfl rfl (setInput_snapshot rfl rfl rfl)
  have limit : (s.setInput { s.input with reports := s.input.reports ++ [s.input.overVoltage s.sample.vIn] }).input.droopLimit
      = s.input.droopLimit := rfl
  dsimp only
  generalize s.setInput { s.input with reports := s.input.reports ++ [s.input.overVoltage s.sample.vIn] } = v at told limit ⊢
  have noticed (w : State) : Reacts [.notice] w (raiseNotice .droop .main (raiseNotice .droop .input w)) :=
    (raiseNotice_reacts w (by decide) .droop .input).trans (raiseNotice_reacts _ (by decide) .droop .main)
  split
  · split
    next same =>
      have cut : Wanted u (v.setInput { v.input with droopLimit := s.input.drooped, recovery := some (s.now + 30000) }) :=
        told.congr rfl rfl (setInput_snapshot rfl rfl (same.trans limit.symm))
      exact (cut.reacts (noticed _) (by decide) (by decide) (by decide) (by decide) (by decide)).wanted
    next =>
      have handed : Carries v _ := ((Carries.setInput v { v.input with droopLimit := s.input.drooped, recovery := some (s.now + 30000) }).trans
        (.of_reacts (noticed _))).trans (.handLimit _)
      exact told.wanted.trans (handed.pass.passWanted (handed.phase told.running) (handed.operating told.on))
  · exact told.wanted

/-- R66: a block's part of a sample leaves a wanted pass wanted. -/
theorem Wanted.receive {u s : State} (h : Wanted u s) (order : Nat) (x : Receiver) : Wanted u (receive order x s) := by
  have carried : Carries s (Machine.receive order x s) := .receive h.on order x
  have keeps (wanted : PassWanted u (Machine.receive order x s)) : Wanted u (Machine.receive order x s) :=
    ⟨carried.operating h.on, carried.phase h.running, wanted⟩
  cases x with
  | monitor =>
    refine keeps ?_
    show PassWanted u (monitorSample order s)
    unfold monitorSample
    dsimp only
    split
    · exact h.wanted
    next changed =>
      let w := (arrange order (reportsOf s.prot (s.prot.judged s.sample))).foldl (fun s x => takeReport x s) (enterFaults (s.prot.judged s.sample) s)
      have told : Carries s w := (Carries.enterFaults h.on _).trans (.of_reacts (takeReports_reacts _ _))
      exact h.wanted.trans (PassGoesOn.passWanted (t := w) told.pass (told.phase h.running) (told.operating h.on))
  | input =>
    refine keeps ?_
    show PassWanted u (Machine.inputSample s)
    exact h.inputSample
  | channelA => exact h.commit (Change.sample_demand ..)
  | channelB => exact h.commit (Change.sample_demand ..)
  | engine => exact h.engineSample
  | allocator => exact h.reacts (trigger_reacts (E := [.pass]) s (by decide)) (by decide) (by decide) (by decide) (by decide) (by decide)
  | startUp =>
    show Wanted u (endLoadingTest s)
    rw [endLoadingTest_running h.running]
    exact h

theorem arriveSample_wanted {s : State} {m : RawSample} {order : Nat} (on : s.operating = true) (running : s.power.phase = .running) :
    PassWanted s (arriveSample m order s) := by
  let r := recordSample m s
  obtain ⟨-, wanted⟩ := arriveSample_turn (s := s) (m := m) (order := order) .allocator on (Pre := fun _ => True) (Post := Wanted r)
    (fun _ _ _ _ _ => trivial)
    (fun u carried _ => ⟨(Carries.trigger u).operating (carried.operating on), (Carries.trigger u).phase (carried.phase running),
      carried.pass.passWanted (carried.phase running) (carried.operating on)⟩)
    (fun y _ u _ wanted => wanted.receive (order / 5040) y) trivial
  exact wanted.wanted

end Sys2Proof.Machine
end

section
/-! A sample arrival, the next arrival and MONITOR (R11, R202): O25. -/

namespace Sys2Proof.Machine

/-! ### The next arrival (R11) -/

/-- R11: the next arrival lies one period of the power state after the latest, which came at this moment. -/
structure Paced (s : State) : Prop where
  last : s.seq.lastArrival = s.now
  next : s.seq.nextArrival = s.now + (if s.power.state = .monitor then 2000 else 100)

section
variable {s t : State}

theorem Paced.congr (h : Paced s) (now : t.now = s.now) (seq : t.seq = s.seq) (state : t.power.state = s.power.state) : Paced t :=
  ⟨by rw [seq, now, h.last], by rw [seq, now, state, h.next]⟩

theorem Paced.monitorTest (h : Paced s) : Paced (monitorTest s) := by
  obtain same | ⟨-, entered⟩ := monitorTest_cases s
  · rwa [same]
  · rw [entered]
    exact ⟨h.last, congrArg (· + 2000) h.last⟩

theorem Paced.reacts {E : List Effect} (h : Paced s) (k : Reacts E s t) : Paced t := by
  refine k.rel (fun s t => Paced s → Paced t) (fun _ => id) (fun _ _ _ f g => g ∘ f) (fun e _ v w touch paced => ?_) h
  by_cases monitor : e = .monitor
  · subst monitor
    cases touch
    exact paced.monitorTest
  · have outer : w.outer = v.outer := touch.outer
    exact paced.congr (congrArg State.now outer :) (touch.seq_eq monitor) (congrArg PowerCtl.state (touch.power_eq monitor))

theorem Paced.tellRaise (h : Paced s) : Paced (tellRaise s) := by
  rw [tellRaise_eq]
  refine ⟨h.last, ?_⟩
  dsimp only
  split
  next => rw [h.last, Nat.max_eq_right (Nat.le_add_right ..), if_neg nofun]
  next active => exact h.next.trans (by rw [if_neg active])

theorem Paced.enterFaults (h : Paced s) (new : Protection) : Paced (enterFaults new s) := by
  have ended : Paced (raiseIf (s.prot.cellA.uv && !new.cellA.uv) endAllowance (s.setProt new)) := by
    unfold raiseIf
    split
    · exact h.congr rfl rfl rfl
    · exact h.congr rfl rfl rfl
  unfold Machine.enterFaults raiseIf
  split
  · exact ended.tellRaise
  · exact ended

theorem Paced.handLimit (h : Paced s) : Paced (handLimit s) := by
  rw [handLimit_eq]
  exact h.congr rfl rfl rfl

theorem Paced.trigger (h : Paced s) : Paced (trigger s) := h.reacts (trigger_reacts (E := [.pass]) s (by decide))

theorem Paced.endLoading (h : Paced s) : Paced (endLoading s) := by
  have taken : Paced (takeInput s.input.limit s) := by
    rw [takeInput_eq]
    exact h.congr rfl rfl rfl
  have timed (p : Port) {u : State} (hu : Paced u) : Paced (startDormancy p u) := hu.congr rfl rfl rfl
  have auto (c : Cell) (n : Nat) {u : State} (hu : Paced u) : Paced (autoStart c n u) := by
    unfold autoStart
    split
    · exact hu
    · exact hu.reacts (commit_reacts u c _)
  have autoAll {u : State} (hu : Paced u) : Paced (autoStartAll u) := by
    unfold autoStartAll
    split
    · exact auto .b _ (auto .a _ hu)
    · exact hu
  have runs {u : State} (hu : Paced u) : Paced (u.setPower { u.power with phase := .running }) := hu.congr rfl rfl rfl
  have told {u : State} (hu : Paced u) : Paced (raiseAll .ready u) := hu.congr rfl rfl rfl
  exact (told (runs (autoAll (timed .input (timed .hub (timed .main taken)))))).trigger

theorem Paced.receive (h : Paced s) (order : Nat) (x : Receiver) : Paced (receive order x s) := by
  cases x with
  | monitor =>
    show Paced (monitorSample order s)
    unfold monitorSample
    dsimp only
    split
    · exact h
    · exact ((h.enterFaults _).reacts (takeReports_reacts _ _)).trigger
  | input =>
    show Paced (inputSample s)
    rw [inputSample_eq]
    dsimp only
    have cut (x : InputCtl) : Paced (raiseNotice .droop .main (raiseNotice .droop .input (s.setInput x))) := h.congr rfl rfl rfl
    split
    · split
      · exact cut _
      · exact (cut _).handLimit.trigger
    · exact h.congr rfl rfl rfl
  | channelA => exact h.reacts (commit_reacts s .a _)
  | channelB => exact h.reacts (commit_reacts s .b _)
  | engine => exact h.reacts (engineSample_reacts s)
  | allocator => exact h.trigger
  | startUp =>
    show Paced (if s.loaded then Machine.endLoading s else s)
    split
    · exact h.endLoading
    · exact h

theorem recordSample_paced (m : RawSample) (s : State) : Paced (recordSample m s) := by
  refine ⟨rfl, ?_⟩
  have period : periodOf s.power.state = if s.power.state = .monitor then 2000 else 100 := by cases s.power.state <;> rfl
  exact congrArg ((recordSample m s).now + ·) period

theorem arriveSample_paced (m : RawSample) (order : Nat) (s : State) : Paced (arriveSample m order s) :=
  foldl_preserves (P := Paced) _ _ (fun x _ _ h => h.receive _ x) _ (recordSample_paced m s)

/-! ### What MONITOR asks for, through the blocks' parts (R202) -/

/-- All that MONITOR is tested against stands as it did. -/
structure Alike (s t : State) : Prop where
  power : t.power = s.power
  seq : t.seq = s.seq
  input : t.input.state = s.input.state
  off : t.hold.state = .off ↔ s.hold.state = .off
  chA : t.chA.state = s.chA.state
  chB : t.chB.state = s.chB.state
  queue : t.bal.queue = s.bal.queue
  dormant : ∀ q, (t.port q).dormant = (s.port q).dormant

namespace Alike
variable {u : State}

theorem trans (h : Alike s t) (k : Alike t u) : Alike s u :=
  ⟨k.power.trans h.power, k.seq.trans h.seq, k.input.trans h.input, k.off.trans h.off, k.chA.trans h.chA, k.chB.trans h.chB,
    k.queue.trans h.queue, fun q => (k.dormant q).trans (h.dormant q)⟩

theorem of_reacts {E : List Effect} (k : Reacts E s t) (nA : .chA ∉ E) (nB : .chB ∉ E) (nq : .queue ∉ E) (nm : .monitor ∉ E) : Alike s t :=
  ⟨k.power_eq nm, k.seq_eq nm, congrArg InputCtl.state (Keeps.input k.keeps), k.holdOff_iff, (congrArg Channel.state (k.chA_fresh nA) :),
    (congrArg Channel.state (k.chB_linkless nB) :), k.queue_eq nq, fun q => (congrArg PortState.dormant (Keeps.port k.keeps q) :)⟩

theorem rests (h : Alike s t) : t.RestsForMonitor ↔ s.RestsForMonitor := by
  unfold State.RestsForMonitor
  rw [h.power, h.input, h.off, h.chA, h.chB, h.queue]
  simp only [h.dormant]

theorem quiet_eq (h : Alike s t) : t.quiet = s.quiet := by
  rw [Bool.eq_iff_iff, quiet_iff, quiet_iff, h.rests, h.power]

theorem rested (h : Alike s t) : Rested s t := .of_same h.power h.seq h.rests.mpr

end Alike

/-- R94, R170: a report to a channel makes none ACTIVE. -/
theorem takeReport_rested (x : FaultReport) (s : State) : Rested s (takeReport x s) := by
  have reasons (c : Cell) (f : Reasons → Reasons) : Rested s (channelReasons c f s) := by
    refine commit_rested fun idle => ?_
    rw [Change.withReasons, if_neg idle]
    exact idle
  match x with
  | .cellToChannel c =>
    refine commit_rested (y := Change.cellFault (s.channel c)) fun idle => ?_
    rw [Change.cellFault, if_neg idle]
    exact idle
  | .cellToEngine => exact .of_reacts (endAll_reacts s.bal.queue.length s) (by decide) (by decide)
  | .dieHot true (.channel c) => exact reasons c fun r => { r with dieHot := true }
  | .dieHot false (.channel c) => exact reasons c fun r => { r with dieHot := false }
  | .dieHot true .engine =>
    have told : Reacts [.hot] s (s.setEngineHot true) := (Touches.hot true s).reacts (by decide)
    exact (Rested.of_reacts told (by decide) (by decide)).trans (.of_reacts (suspendHead_reacts _) (by decide) (by decide))
  | .dieHot false .engine =>
    have told : Reacts [.hot] s (s.setEngineHot false) := (Touches.hot false s).reacts (by decide)
    exact (Rested.of_reacts told (by decide) (by decide)).trans (.of_reacts (releaseHead_reacts _) (by decide) (by decide))
  | .linkToArbiter => exact .of_reacts (lockLink_reacts s) (by decide) (by decide)
  | .linkToEngine => exact .of_reacts (linkFaultToEngine_reacts s) (by decide) (by decide)

/-- R202: nor does it leave untested what MONITOR asks for. -/
theorem takeReport_unquiet (x : FaultReport) {s : State} (h : s.quiet = false) : (takeReport x s).quiet = false := by
  match x with
  | .cellToChannel c => exact commit_unquiet h
  | .cellToEngine => exact endAll_unquiet s.bal.queue.length h
  | .dieHot true (.channel c) => exact commit_unquiet h
  | .dieHot false (.channel c) => exact commit_unquiet h
  | .dieHot true .engine => exact suspendHead_unquiet (s := s.setEngineHot true) h
  | .dieHot false .engine => exact releaseHead_unquiet (s := s.setEngineHot false) h
  | .linkToArbiter => exact lockLink_unquiet h
  | .linkToEngine => exact linkFaultToEngine_unquiet h

/-! ### A part with nothing ACTIVE and nothing queued does not test for MONITOR (R202) -/

/-- R202: neither channel is ACTIVE and no job is queued, and the part is not in MONITOR. -/
structure AtEase (s : State) : Prop where
  chA : s.chA.state ≠ .active
  chB : s.chB.state ≠ .active
  queue : s.bal.queue = []
  power : s.power.state ≠ .monitor

theorem AtEase.congr (h : AtEase s) (chA : t.chA.state = s.chA.state) (chB : t.chB.state = s.chB.state) (queue : t.bal.queue = s.bal.queue)
    (power : t.power = s.power) : AtEase t :=
  ⟨chA ▸ h.chA, chB ▸ h.chB, queue ▸ h.queue, power ▸ h.power⟩

theorem AtEase.reacts {E : List Effect} (h : AtEase s) (k : Reacts E s t) (nA : .chA ∉ E) (nB : .chB ∉ E) (nq : .queue ∉ E)
    (nm : .monitor ∉ E) : AtEase t :=
  h.congr (congrArg Channel.state (k.chA_fresh nA) :) (congrArg Channel.state (k.chB_linkless nB) :) (k.queue_eq nq) (k.power_eq nm)

theorem atEaseRules : LinkRules AtEase :=
  .of_blind (fun reacts h => h.reacts reacts (by decide) (by decide) (by decide) (by decide))
    (fun h => h.reacts (linkFollow_reacts _) (by decide) (by decide) (by decide) (by decide))
    (fun h _ _ => h.congr rfl rfl rfl rfl) (fun h _ => h.congr rfl rfl rfl rfl) (fun h _ => h.congr rfl rfl rfl rfl)
    (fun h => h.congr rfl rfl rfl rfl) fun {s cause} h => by
      rw [reportLossToEngine_eq]
      have empty : lossQueue cause s.now s.bal.queue = s.bal.queue := by rw [h.queue]; rfl
      exact h.congr rfl rfl empty rfl

theorem AtEase.startChecks (s : State) (h : AtEase s) : AtEase (startChecks s) := by
  rw [startChecks_of_empty h.queue]
  exact h

theorem AtEase.syncChargeB (h : AtEase s) : AtEase (syncChargeB s) := by
  have requests (b : Bool) : AtEase { s with chB := { s.chB with request := b } } := h.congr rfl rfl rfl rfl
  have lost {u : State} (hu : AtEase u) : AtEase (lossTaken .chargeB false u) := by
    have taken : AtEase (u.setArb (u.arb.lost u.now .chargeB false)) := hu.congr rfl rfl rfl rfl
    exact (atEaseRules.follows taken).reacts (reportToB_reacts _ true) (by decide) (by decide) (by decide) (by decide)
  unfold Machine.syncChargeB
  dsimp only
  split
  · exact h
  · split
    · exact atEaseRules.raiseLink AtEase.startChecks (requests _) fun _ _ => (requests _).congr rfl rfl rfl rfl
    · exact atEaseRules.withdrawLink AtEase.startChecks (fun _ => lost (requests _)) fun _ => (requests _).congr rfl rfl rfl rfl

/-- R105: an event that leaves a channel out of ACTIVE. -/
theorem AtEase.commit {c : Cell} {y : Change} (h : AtEase s) (stays : y.ch.state ≠ .active) : AtEase (commit c y s) := by
  have changed : AtEase (toldChange c y s) := by
    have set : AtEase (s.setChannel c y.ch) := by
      cases c with
      | a => exact ⟨stays, h.chB, h.queue, h.power⟩
      | b => exact ⟨h.chA, stays, h.queue, h.power⟩
    exact set.reacts (toldChange_reacts c y s) (by decide) (by decide) (by decide) (by decide)
  have handed : AtEase (handPresented c (toldChange c y s)) := by
    cases c with
    | a => exact changed.reacts (takeCharge_reacts _ _) (by decide) (by decide) (by decide) (by decide)
    | b => exact AtEase.syncChargeB (atEaseRules.follows changed)
  have idle : (s.channel c).state ≠ .active := by
    cases c with
    | a => exact h.chA
    | b => exact h.chB
  have untested (u : State) : settleChange y (s.channel c).state u = if y.trigger then trigger u else u := by
    rw [settleChange, decide_eq_false idle]
    rfl
  rw [commit_eq, untested]
  split
  · exact handed.reacts (trigger_reacts (E := [.pass]) _ (by decide)) (by decide) (by decide) (by decide) (by decide)
  · exact handed

theorem AtEase.takeReport (x : FaultReport) (h : AtEase s) : AtEase (takeReport x s) := by
  have idle (c : Cell) : (s.channel c).state ≠ .active := by
    cases c with
    | a => exact h.chA
    | b => exact h.chB
  have reasons (c : Cell) (f : Reasons → Reasons) : AtEase (channelReasons c f s) := by
    refine h.commit ?_
    rw [Change.withReasons, if_neg (idle c)]
    exact idle c
  match x with
  | .cellToChannel c =>
    refine h.commit (y := Change.cellFault (s.channel c)) ?_
    rw [Change.cellFault, if_neg (idle c)]
    exact idle c
  | .cellToEngine =>
    show AtEase (endAll s.bal.queue.length s)
    rw [h.queue]
    exact h
  | .dieHot true (.channel c) => exact reasons c fun r => { r with dieHot := true }
  | .dieHot false (.channel c) => exact reasons c fun r => { r with dieHot := false }
  | .dieHot true .engine =>
    show AtEase (suspendHead (s.setEngineHot true))
    rw [suspendHead, show (s.setEngineHot true).bal.queue = [] from h.queue]
    exact h.congr rfl rfl rfl rfl
  | .dieHot false .engine =>
    show AtEase (releaseHead (s.setEngineHot false))
    rw [releaseHead, show (s.setEngineHot false).bal.queue = [] from h.queue]
    exact h.congr rfl rfl rfl rfl
  | .linkToArbiter =>
    have locked : AtEase (s.setArb { s.arb with faultLock := true }) := h.congr rfl rfl rfl rfl
    show AtEase (lockLink s)
    unfold lockLink
    dsimp only
    split
    next r held =>
      have lost := atEaseRules.loseLink AtEase.startChecks (cause := .linkFault) locked held nofun
      show AtEase (linkFaultToEngine (loseLink Machine.startChecks .linkFault r _))
      rw [linkFaultToEngine, lost.queue]
      exact lost
    · exact locked
    · exact locked
  | .linkToEngine =>
    show AtEase (linkFaultToEngine s)
    rw [linkFaultToEngine, h.queue]
    exact h

/-! ### The blocks' parts (R14) -/

theorem Rested.inMonitor (k : Rested s t) (h : s.power.state = .monitor → s.RestsForMonitor) :
    t.power.state = .monitor → t.RestsForMonitor := by
  intro monitor
  obtain ⟨power, -⟩ | ⟨-, -, rests, -⟩ := k.power
  · exact k.rests (h (power ▸ monitor))
  · exact rests

/-- R203: a raise leaves MONITOR, and starts the hold-off timer. -/
theorem tellRaise_power (s : State) : (tellRaise s).power.state ≠ .monitor ∧ (tellRaise s).power.holdOff ≠ none
    ∧ (s.power.state ≠ .monitor → (tellRaise s).power.state = s.power.state) := by
  rw [tellRaise_eq]
  refine ⟨?_, nofun, fun out => if_neg out⟩
  dsimp only
  split
  · nofun
  next out => exact out

theorem unquiet_of_holdOff (h : s.power.holdOff ≠ none) : s.quiet = false := by
  refine Bool.eq_false_iff.mpr fun quiet => ?_
  obtain ⟨-, -, -, off, -⟩ := (quiet_iff s).mp quiet
  exact h off

/-- R66, R202: the fault sets as they change, and a raise told. -/
theorem enterFaults_resting (new : Protection) (s : State) :
    ((s.power.state = .monitor → s.RestsForMonitor) → (enterFaults new s).power.state = .monitor → (enterFaults new s).RestsForMonitor)
      ∧ (s.quiet = false → (enterFaults new s).quiet = false) ∧ (AtEase s → AtEase (enterFaults new s)) := by
  let u := raiseIf (s.prot.cellA.uv && !new.cellA.uv) endAllowance (s.setProt new)
  have ended : ∃ p x, u = { s with prot := p, pathA := x } := by
    unfold u raiseIf
    split <;> exact ⟨_, _, rfl⟩
  have entered : enterFaults new s = if s.prot.gains new then tellRaise u else u := rfl
  obtain ⟨p, x, is⟩ := ended
  obtain ⟨out, stopped, kept⟩ := tellRaise_power u
  have ease (h : AtEase s) : AtEase u := by
    rw [is]
    exact h.congr rfl rfl rfl rfl
  rw [entered]
  split
  · refine ⟨fun _ monitor => absurd monitor out, fun _ => unquiet_of_holdOff stopped, fun h => ?_⟩
    have told := ease h
    refine ⟨?_, ?_, ?_, out⟩
    all_goals rw [tellRaise_eq]
    · exact told.chA
    · exact told.chB
    · exact told.queue
  · refine ⟨fun h monitor => ?_, fun h => ?_, ease⟩
    · rw [is] at monitor ⊢
      exact h monitor
    · rw [is]
      exact h

/-- R51: the input controller's part leaves what MONITOR asks for. -/
theorem inputSample_alike (s : State) : Alike s (inputSample s) := by
  have set (u : State) (x : InputCtl) (state : x.state = u.input.state) : Alike u (u.setInput x) :=
    ⟨rfl, rfl, state, Iff.rfl, rfl, rfl, rfl, fun _ => rfl⟩
  have noticed (w : State) : Alike w (raiseNotice .droop .main (raiseNotice .droop .input w)) :=
    .of_reacts (E := [.notice]) ((raiseNotice_reacts w (by decide) .droop .input).trans (raiseNotice_reacts _ (by decide) .droop .main))
      (by decide) (by decide) (by decide) (by decide)
  have handed (w : State) : Alike w (handLimit w) := by
    rw [handLimit_eq]
    exact ⟨rfl, rfl, rfl, Iff.rfl, rfl, rfl, rfl, fun _ => rfl⟩
  have triggered (w : State) : Alike w (trigger w) :=
    .of_reacts (trigger_reacts (E := [.pass]) w (by decide)) (by decide) (by decide) (by decide) (by decide)
  rw [inputSample_eq]
  dsimp only
  have heard := set s { s.input with reports := s.input.reports ++ [s.input.overVoltage s.sample.vIn] } rfl
  generalize s.setInput { s.input with reports := s.input.reports ++ [s.input.overVoltage s.sample.vIn] } = v at heard ⊢
  have cut := (heard.trans (set v { v.input with droopLimit := s.input.drooped, recovery := some (s.now + 30000) } rfl)).trans (noticed _)
  split
  · split
    · exact cut
    · exact (cut.trans (handed _)).trans (triggered _)
  · exact heard

theorem Change.sample_idle {c : Cell} {profile : List StepRecord} {x : Sample} {ch : Channel} (idle : ch.state ≠ .active) :
    Change.sample c profile x ch = Change.nothing ch := if_neg idle

/-- R202: what a block's part of a sample makes of MONITOR, past LOADING. -/
theorem receive_resting (order : Nat) (x : Receiver) {s : State} (running : s.power.phase = .running) :
    ((s.power.state = .monitor → s.RestsForMonitor) → (receive order x s).power.state = .monitor → (receive order x s).RestsForMonitor)
      ∧ (s.quiet = false → (receive order x s).quiet = false) ∧ (AtEase s → AtEase (receive order x s)) := by
  have sampled (c : Cell) : Rested s (channelSample c s) := commit_rested fun idle => by
    rw [Change.sample_idle idle]
    exact idle
  have triggered (w : State) : Reacts [.pass] w (trigger w) := trigger_reacts w (by decide)
  cases x with
  | monitor =>
    let new := s.prot.judged s.sample
    let l := arrange order (reportsOf s.prot new)
    have all (h : State → Prop) (step : ∀ x u, h u → h (takeReport x u)) {u : State} (first : h u) :
        h (l.foldl (fun s x => takeReport x s) u) := foldl_preserves (P := h) _ l (fun x _ u hu => step x u hu) _ first
    obtain ⟨resting, unquiet, ease⟩ := enterFaults_resting new s
    have taken : receive order .monitor s = if new = s.prot then s
        else trigger (l.foldl (fun s x => takeReport x s) (enterFaults new s)) := rfl
    rw [taken]
    split
    · exact ⟨id, id, id⟩
    · refine ⟨fun h => ?_, fun h => ?_, fun h => ?_⟩
      · exact (Rested.of_reacts (triggered _) (by decide) (by decide)).inMonitor
          (all (fun u => u.power.state = .monitor → u.RestsForMonitor) (fun x u hu => (takeReport_rested x u).inMonitor hu) (resting h))
      · exact ((triggered _).quiet_eq (by decide) (by decide) (by decide) (by decide)).trans
          (all (fun u => u.quiet = false) (fun x u hu => takeReport_unquiet x hu) (unquiet h))
      · exact (all AtEase (fun x u hu => hu.takeReport x) (ease h)).reacts (triggered _) (by decide) (by decide) (by decide) (by decide)
  | input =>
    have alike := inputSample_alike s
    exact ⟨alike.rested.inMonitor, alike.quiet_eq.trans, fun h => h.congr alike.chA alike.chB alike.queue alike.power⟩
  | channelA =>
    exact ⟨(sampled .a).inMonitor, commit_unquiet, fun h => h.commit (Change.sample_idle h.chA ▸ h.chA)⟩
  | channelB =>
    exact ⟨(sampled .b).inMonitor, commit_unquiet, fun h => h.commit (Change.sample_idle h.chB ▸ h.chB)⟩
  | engine =>
    refine ⟨(Rested.of_reacts (engineSample_reacts s) (by decide) (by decide)).inMonitor, engineSample_unquiet, fun h => ?_⟩
    show AtEase (engineSample s)
    rw [engineSample, h.queue]
    exact h
  | allocator =>
    exact ⟨(Rested.of_reacts (triggered s) (by decide) (by decide)).inMonitor,
      fun h => ((triggered s).quiet_eq (by decide) (by decide) (by decide) (by decide)).trans h,
      fun h => h.reacts (triggered s) (by decide) (by decide) (by decide) (by decide)⟩
  | startUp =>
    have same : receive order .startUp s = s := endLoadingTest_running running
    rw [same]
    exact ⟨id, id, id⟩

/-- R202: where the blocks make the sample complete what MONITOR asks for, and only there, MONITOR is entered. -/
theorem arriveSample_monitor {s : State} {m : RawSample} {order : Nat} (on : s.operating = true) (running : s.power.phase = .running)
    (active : s.power.state = .active) : let t := arriveSample m order s
    t.power.state = .monitor ↔ t.RestsForMonitor ∧ ¬ s.RestsForMonitor := by
  let r := recordSample m s
  let t := arriveSample m order s
  have kept (h : State → Prop) (step : ∀ x u, u.power.phase = .running → h u → h (receive (order / 5040) x u)) (first : h r) :
      Carries r t ∧ h t := by
    refine foldl_preserves (P := fun u => Carries r u ∧ h u) _ _ (fun x _ u hu => ?_) _ ⟨.refl r, first⟩
    exact ⟨hu.1.trans (.receive (hu.1.operating on) _ x), step x u (hu.1.phase running) hu.2⟩
  have supplied : s.power.supplied = true := (Bool.and_eq_true_iff.mp on).1
  obtain ⟨carried, resting⟩ := kept (fun u => u.power.state = .monitor → u.RestsForMonitor)
    (fun x u phase => (receive_resting _ x phase).1) fun monitor => absurd (active.symm.trans monitor) nofun
  refine ⟨fun monitor => ⟨resting monitor, fun rests => ?_⟩, fun ⟨rests, busy⟩ => ?_⟩
  · obtain ⟨-, -, -, idleA, idleB, empty, -⟩ := rests
    have out : r.power.state ≠ .monitor := by
      show s.power.state ≠ .monitor
      rw [active]
      nofun
    obtain ⟨-, ease⟩ := kept AtEase (fun x u phase => (receive_resting _ x phase).2.2) ⟨idleA, idleB, empty, out⟩
    exact ease.power monitor
  · have unquiet : r.quiet = false := Bool.eq_false_iff.mpr fun quiet => by
      obtain ⟨-, -, -, rests⟩ := (quiet_iff r).mp quiet
      exact busy rests
    obtain ⟨-, still⟩ := kept (fun u => u.quiet = false) (fun x u phase => (receive_resting _ x phase).2.1) unquiet
    have ship : t.power.state ≠ .ship := by
      have works := (Bool.and_eq_true_iff.mp (carried.operating on)).2
      exact bne_iff_ne.mp works
    cases state : t.power.state with
    | monitor => rfl
    | ship => exact absurd state ship
    | active =>
      refine absurd ((quiet_iff t).mpr ⟨carried.phase running, state, carried.supplied.trans supplied, rests⟩) ?_
      rw [still]
      nofun

end

/-- Settles O25: the record, the period, the allocator's turn, and MONITOR. -/
theorem sampleRecorded : Obligations.SampleRecorded := by
  intro s m order on sampling near
  obtain ⟨carried, -⟩ := arriveSample_turn (s := s) (m := m) (order := order) .allocator on (Pre := fun _ => True) (Post := fun _ => True)
    (fun _ _ _ _ _ => trivial) (fun _ _ _ => trivial) (fun _ _ _ _ _ => trivial) trivial
  obtain ⟨-, next⟩ := arriveSample_paced m order s
  refine ⟨_, exec_sampleArrival on sampling m order, carried.now, ?_, arriveSample_wanted on, arriveSample_monitor on⟩
  rw [carried.seq, next, carried.now]
  rfl

end Sys2Proof.Machine
end

section
/-! A sample that changes no fault, and a channel's turn in it (R94 to R107): O43. -/

namespace Sys2Proof.Machine

/-! ### A sample that changes no fault (R167, R168) -/

/-- The fault sets, without the first-fault record and the thermal state. -/
structure SameSets (p q : Protection) : Prop where
  cellA : q.cellA = p.cellA
  cellB : q.cellB = p.cellB
  device : q.device = p.device

section
variable {p q : Protection} {u t : State}

theorem SameSets.refl (p : Protection) : SameSets p p := ⟨rfl, rfl, rfl⟩

theorem SameSets.trans {r : Protection} (h : SameSets p q) (k : SameSets q r) : SameSets p r :=
  ⟨k.cellA.trans h.cellA, k.cellB.trans h.cellB, k.device.trans h.device⟩

/-- R167: what the tests make of the sets is read off the sets and the sample. -/
theorem SameSets.judged (h : SameSets p q) {x : Sample} (calm : SameSets p (p.judged x)) : SameSets p (q.judged x) := by
  obtain ⟨cellA, cellB, device⟩ := calm
  rw [judged_cellA] at cellA
  rw [judged_cellB] at cellB
  rw [judged_device_sampled] at device
  exact ⟨by rw [judged_cellA, h.cellA, cellA], by rw [judged_cellB, h.cellB, cellB], by rw [judged_device_sampled, h.device, device]⟩

theorem latches_self (f : CellFaults) : f.latches f = false := by simp [CellFaults.latches]

/-- R168: nothing is reported where no set changes. -/
theorem reportsOf_sameSets (h : SameSets p q) : reportsOf p q = [] := by
  have same (c : Cell) : (p.cell c).latches (q.cell c) = false := by
    cases c with
    | a => exact (congrArg p.cellA.latches h.cellA).trans (latches_self _)
    | b => exact (congrArg p.cellB.latches h.cellB).trans (latches_self _)
  simp [reportsOf, same, h.device]

theorem gains_sameSets (h : SameSets p q) : p.gains q = false := by
  simp [Protection.gains, h.cellA, h.cellB, h.device, latches_self]

/-- R167, R168: the monitor's part of a sample that changes no fault. -/
theorem monitorSample_calm (h : SameSets p u.prot) (calm : SameSets p (p.judged u.sample)) (order : Nat) :
    ∃ q, SameSets p q ∧ (monitorSample order u = u ∨ monitorSample order u = trigger (u.setProt q)) := by
  have judged : SameSets u.prot (u.prot.judged u.sample) := by
    have both := h.judged calm
    exact ⟨both.cellA.trans h.cellA.symm, both.cellB.trans h.cellB.symm, both.device.trans h.device.symm⟩
  refine ⟨u.prot.judged u.sample, h.trans judged, ?_⟩
  have entered : enterFaults (u.prot.judged u.sample) u = u.setProt (u.prot.judged u.sample) := by
    rw [enterFaults, gains_sameSets judged, judged.cellA, Bool.and_not_self]
    rfl
  unfold monitorSample
  dsimp only
  split
  · exact .inl rfl
  · rw [entered, reportsOf_sameSets judged]
    exact .inr rfl

/-! ### The other blocks' parts leave a channel (R14) -/

/-- R14: the channel that takes a sample in this part. -/
def channelOf : Cell → Receiver
  | .a => .channelA
  | .b => .channelB

/-- An empty queue stays empty. -/
theorem Reacts.queue_nil {E : List Effect} (k : Reacts E u t) (empty : u.bal.queue = []) : t.bal.queue = [] := by
  refine k.rel (fun u t => u.bal.queue = [] → t.bal.queue = []) (fun _ => id) (fun _ _ _ f g => g ∘ f) (fun e _ v w touch h => ?_) empty
  by_cases own : e = .queue
  · subst own
    cases touch with
    | queue q _ kept => exact kept h
  · exact (touch.queue_eq own).trans h

/-- Between u and t a channel stands as it did, but for its stale mark; of channel B the arbiter too, and no job is queued. -/
structure SameChannel (c : Cell) (u t : State) : Prop where
  fresh : { t.channel c with stale := false } = { u.channel c with stale := false }
  users : c = .b → t.arb = u.arb ∧ u.bal.queue = [] ∧ t.bal.queue = []

namespace SameChannel
variable {c : Cell} {v : State}

theorem refl (empty : c = .b → u.bal.queue = []) : SameChannel c u u := ⟨rfl, fun b => ⟨rfl, empty b, empty b⟩⟩

theorem trans (h : SameChannel c u t) (k : SameChannel c t v) : SameChannel c u v :=
  ⟨k.fresh.trans h.fresh, fun b => ⟨(k.users b).1.trans (h.users b).1, (h.users b).2.1, (k.users b).2.2⟩⟩

theorem of_reacts {E : List Effect} (k : Reacts E u t) (nA : .chA ∉ E) (nB : .chB ∉ E) (nb : .linkB ∉ E) (na : .arb ∉ E) (nl : .lock ∉ E)
    (empty : c = .b → u.bal.queue = []) : SameChannel c u t := by
  refine ⟨?_, fun b => ⟨k.arb_eq na nl, empty b, k.queue_nil (empty b)⟩⟩
  cases c with
  | a => exact k.chA_fresh nA
  | b => exact k.chB_fresh nB nb

theorem of_eq (chA : t.chA = u.chA) (chB : t.chB = u.chB) (arb : t.arb = u.arb) (bal : t.bal = u.bal) (empty : c = .b → u.bal.queue = []) :
    SameChannel c u t := by
  refine ⟨?_, fun b => ⟨arb, empty b, bal ▸ empty b⟩⟩
  cases c with
  | a => exact congrArg (fun ch : Channel => { ch with stale := false }) chA
  | b => exact congrArg (fun ch : Channel => { ch with stale := false }) chB

end SameChannel

theorem trigger_sameChannel {c : Cell} (u : State) (empty : c = .b → u.bal.queue = []) : SameChannel c u (trigger u) :=
  .of_reacts (trigger_reacts (E := [.pass]) u (by decide)) (by decide) (by decide) (by decide) (by decide) (by decide) empty

theorem inputSample_sameChannel {c : Cell} (u : State) (empty : c = .b → u.bal.queue = []) : SameChannel c u (inputSample u) := by
  have noticed (w : State) (empty : c = .b → w.bal.queue = []) : SameChannel c w (raiseNotice .droop .main (raiseNotice .droop .input w)) :=
    .of_reacts (E := [.notice]) ((raiseNotice_reacts w (by decide) .droop .input).trans (raiseNotice_reacts _ (by decide) .droop .main))
      (by decide) (by decide) (by decide) (by decide) (by decide) empty
  have handed (w : State) (empty : c = .b → w.bal.queue = []) : SameChannel c w (handLimit w) := by
    rw [handLimit_eq]
    exact .of_eq rfl rfl rfl rfl empty
  rw [inputSample_eq]
  dsimp only
  have heard : SameChannel c u (u.setInput { u.input with reports := u.input.reports ++ [u.input.overVoltage u.sample.vIn] }) :=
    .of_eq rfl rfl rfl rfl empty
  generalize u.setInput { u.input with reports := u.input.reports ++ [u.input.overVoltage u.sample.vIn] } = v at heard ⊢
  have cut := heard.trans ((SameChannel.of_eq rfl rfl rfl rfl fun b => (heard.users b).2.2 :
    SameChannel c v (v.setInput { v.input with droopLimit := u.input.drooped, recovery := some (u.now + 30000) })))
  have told := cut.trans (noticed _ fun b => (cut.users b).2.2)
  split
  · split
    · exact told
    · have limited := told.trans (handed _ fun b => (told.users b).2.2)
      exact limited.trans (trigger_sameChannel _ fun b => (limited.users b).2.2)
  · exact heard

/-- R14: a sample that changes no fault leaves the fault sets. -/
theorem receive_sameSets {p : Protection} (same : SameSets p u.prot) (calm : SameSets p (p.judged u.sample)) (order : Nat) (y : Receiver) :
    SameSets p (receive order y u).prot := by
  by_cases own : y = .monitor
  · subst own
    obtain ⟨q, sets, stays | entered⟩ := monitorSample_calm same calm order
    · exact (congrArg (fun v : State => SameSets p v.prot) stays).mpr same
    · refine (congrArg (fun v : State => SameSets p v.prot) entered).mpr ?_
      rw [Keeps.prot (trigger_outer _)]
      exact sets
  · rw [(Judged.receive own order u).prot]
    exact same

/-- R14: in a sample that changes no fault, past LOADING, the other blocks leave the channel. -/
theorem receive_sameChannel {c : Cell} {y : Receiver} (ne : y ≠ channelOf c) {p : Protection} (same : SameSets p u.prot)
    (calm : SameSets p (p.judged u.sample)) (running : u.power.phase = .running) (order : Nat) (empty : c = .b → u.bal.queue = []) :
    SameChannel c u (receive order y u) := by
  cases y with
  | monitor =>
    obtain ⟨q, sets, stays | entered⟩ := monitorSample_calm same calm order
    · have is : receive order .monitor u = u := stays
      rw [is]
      exact .refl empty
    · have is : receive order .monitor u = trigger (u.setProt q) := entered
      rw [is]
      have set : SameChannel c u (u.setProt q) := .of_eq rfl rfl rfl rfl empty
      exact set.trans (trigger_sameChannel _ fun b => (set.users b).2.2)
  | input => exact inputSample_sameChannel u empty
  | channelA =>
    cases c with
    | a => contradiction
    | b =>
      refine ⟨commit_a_chB _ u, fun b => ⟨?_, empty b, (channelSample_reacts u .a).queue_nil (empty b)⟩⟩
      exact (commit_a_reacts (Change.sample .a u.profile u.sample u.chA) u).arb_eq (by decide) (by decide)
  | channelB =>
    cases c with
    | a => exact ⟨commit_b_chA _ u, nofun⟩
    | b => contradiction
  | engine =>
    cases c with
    | a => exact ⟨(engineSample_reacts u).chA_fresh (by decide), nofun⟩
    | b =>
      show SameChannel .b u (engineSample u)
      rw [engineSample, empty rfl]
      exact .refl empty
  | allocator => exact trigger_sameChannel u empty
  | startUp =>
    have is : receive order .startUp u = u := endLoadingTest_running running
    rw [is]
    exact .refl empty

/-- R14: the turn of a channel in a sample that changes no fault, past LOADING; v stands before it, w after it. -/
theorem arriveSample_channel (c : Cell) {s : State} {m : RawSample} {order : Nat} (on : s.operating = true)
    (running : s.power.phase = .running) (calm : SameSets s.prot (s.prot.judged (recordSample m s).sample))
    (empty : c = .b → s.bal.queue = []) : ∃ v, Carries (recordSample m s) v ∧ SameChannel c s v
      ∧ let w := channelSample c v
        let t := arriveSample m order s
        { t.channel c with stale := false } = { w.channel c with stale := false } ∧ ∀ q k, Noticed w q k → Noticed t q k := by
  let r := recordSample m s
  have first : SameChannel c s r := .of_eq rfl rfl rfl rfl empty
  suffices turn : ∃ v, Carries r v ∧ SameChannel c s v ∧ SameSets s.prot (arriveSample m order s).prot
      ∧ SameChannel c (channelSample c v) (arriveSample m order s)
      ∧ ∀ q k, Noticed (channelSample c v) q k → Noticed (arriveSample m order s) q k by
    obtain ⟨v, carried, same, -, after, told⟩ := turn
    exact ⟨v, carried, same, after.fresh, told⟩
  refine (arriveSample_turn (s := s) (m := m) (order := order) (channelOf c) on
    (Pre := fun u => SameChannel c s u ∧ SameSets s.prot u.prot)
    (Post := fun t => ∃ v, Carries r v ∧ SameChannel c s v ∧ SameSets s.prot t.prot
      ∧ SameChannel c (channelSample c v) t ∧ ∀ q k, Noticed (channelSample c v) q k → Noticed t q k)
    (fun y ne u carried ⟨same, sets⟩ => ?_) (fun u carried ⟨same, sets⟩ => ?_) (fun y ne u carried ⟨v, before, same, sets, after, told⟩ => ?_)
    ⟨first, .refl _⟩).2
  · have calm' : SameSets s.prot (s.prot.judged u.sample) := by rw [carried.sample]; exact calm
    exact ⟨same.trans (receive_sameChannel ne sets calm' (carried.phase running) _ fun b => (same.users b).2.2),
      receive_sameSets sets calm' _ _⟩
  · have calm' : SameSets s.prot (s.prot.judged u.sample) := by rw [carried.sample]; exact calm
    have is : receive (order / 5040) (channelOf c) u = channelSample c u := by cases c <;> rfl
    have sets' := receive_sameSets sets calm' (order / 5040) (channelOf c)
    rw [is] at sets' ⊢
    exact ⟨u, carried, same, sets', .refl fun b => (channelSample_reacts u c).queue_nil (same.users b).2.2, fun _ _ => id⟩
  · have calm' : SameSets s.prot (s.prot.judged u.sample) := by rw [carried.sample]; exact calm
    exact ⟨v, before, same, receive_sameSets sets calm' _ _,
      after.trans (receive_sameChannel ne sets calm' (carried.phase running) _ fun b => (after.users b).2.2),
      fun q k noticed => (Carries.receive (carried.operating on) (order / 5040) y).noticed _ _ (told q k noticed)⟩

end

end Sys2Proof.Machine
end

section
/-! What a channel makes of a sample (R97 to R107): O43. -/

namespace Sys2Proof.Machine

/-! ### The sample judged (R95, R97, R98, R101, R104) -/

/-- R92: a step that charges. -/
abbrev StepRecord.Charges (r : StepRecord) : Prop := r.kind ≠ .rest ∧ r.kind ≠ .endStep

theorem charging_iff (r : StepRecord) : r.kind.charging = true ↔ r.Charges := by
  obtain ⟨kind⟩ := r
  cases kind <;> simp [StepKind.charging, StepKind.carriesCurrent, StepRecord.Charges]

section
variable (c : Cell) (profile : List StepRecord) (x : Sample) (ch : Channel)

/-- R96: TEMP as the sample has it. -/
def Channel.tempAt : Bool := decide (x.temp c < (ch.step profile).cold * 10 ∨ (ch.step profile).hot * 10 ≤ x.temp c)

/-- R97: no reason stops the demand once TEMP is judged. -/
abbrev Channel.FreeAt : Prop := ¬ (ch.reasons.hold = true ∨ ch.tempAt c profile x = true ∨ ch.reasons.noInput = true
  ∨ ch.reasons.noLink = true ∨ ch.reasons.deficit = true ∨ ch.reasons.dieHot = true)

/-- R97, R98: what the channel presents at the sample. -/
def Channel.presentsAt : Nat :=
  if (ch.step profile).Charges ∧ ch.FreeAt c profile x then
    min ch.published (if c = .b then min (ch.step profile).current 3000 else (ch.step profile).current)
  else 0

/-- R101: the step timer after the sample. -/
def Channel.timerAt : Nat :=
  if ((ch.step profile).Charges ∧ ch.presentsAt c profile x ≠ 0) ∨ ((ch.step profile).kind = .rest ∧ ch.tempAt c profile x = false) then
    min (ch.timer + 1) 864001
  else ch.timer

/-- R104: the end-current run after the sample. -/
def Channel.runAt : Nat :=
  if (ch.step profile).kind = .voltage then
    (if ch.presentsAt c profile x ≠ 0 ∧ (ch.step profile).endCurrent < ch.presentsAt c profile x
        ∧ ch.presentsAt c profile x = ch.lastSetpoint ∧ x.amps c < (ch.step profile).endCurrent
      then min (ch.run + 1) 3 else 0)
  else ch.run

variable {c profile x ch}

theorem Channel.represent_eq (active : ch.state = .active) : (ch.judgeTemp c profile x).represent c profile
    = { ch with reasons := { ch.reasons with temp := ch.tempAt c profile x }, presented := ch.presentsAt c profile x } := by
  have temp : outsideWindow (ch.step profile).cold (ch.step profile).hot (x.temp c) = ch.tempAt c profile x :=
    (Bool.decide_or ..).symm
  have demand : (ch.judgeTemp c profile x).demand c profile
      = if (ch.step profile).Charges ∧ ch.FreeAt c profile x then
          (if c = .b then min (ch.step profile).current 3000 else (ch.step profile).current) else 0 := by
    have cap : capDemand c (ch.step profile).current = if c = .b then min (ch.step profile).current 3000 else (ch.step profile).current := by
      cases c <;> rfl
    have free : ({ ch.reasons with temp := ch.tempAt c profile x } : Reasons).stopsDemand = false ↔ ch.FreeAt c profile x := by
      rw [Reasons.stopsDemand]
      simp only [Bool.or_eq_false_iff, Bool.not_eq_true, not_or, Channel.FreeAt]
      tauto
    have asks : ((ch.judgeTemp c profile x).state == .active && (ch.step profile).kind.charging
        && !({ ch.reasons with temp := ch.tempAt c profile x } : Reasons).stopsDemand) = true
          ↔ (ch.step profile).Charges ∧ ch.FreeAt c profile x := by
      rw [Bool.and_eq_true, Bool.and_eq_true, Bool.not_eq_true', free, charging_iff, show (ch.judgeTemp c profile x).state = .active from active]
      exact ⟨fun h => ⟨h.1.2, h.2⟩, fun h => ⟨⟨rfl, h.1⟩, h.2⟩⟩
    rw [← cap, Channel.demand]
    show (if ((ch.judgeTemp c profile x).state == .active && (ch.step profile).kind.charging
      && !({ ch.reasons with temp := outsideWindow _ _ _ } : Reasons).stopsDemand) then capDemand c (ch.step profile).current else 0) = _
    rw [temp]
    exact if_congr asks rfl rfl
  have presents : min ch.published ((ch.judgeTemp c profile x).demand c profile) = ch.presentsAt c profile x := by
    rw [demand, Channel.presentsAt]
    split
    · rfl
    · exact Nat.min_zero _
  rw [Channel.represent, show (ch.judgeTemp c profile x).published = ch.published from rfl, presents]
  exact congrArg (fun b => ({ ch with
    reasons := { ch.reasons with temp := b }, presented := ch.presentsAt c profile x } : Channel)) temp

/-- R100 steps 1 to 3. -/
theorem Channel.observe_eq (active : ch.state = .active) : ch.observe c profile x = { ch with
    reasons := { ch.reasons with temp := ch.tempAt c profile x }, presented := ch.presentsAt c profile x
    timer := ch.timerAt c profile x, run := ch.runAt c profile x } := by
  let seen : Channel := { ch with
    reasons := { ch.reasons with temp := ch.tempAt c profile x }, presented := ch.presentsAt c profile x }
  have timed : seen.advance profile = { seen with timer := ch.timerAt c profile x } := by
    have counts : seen.counts profile = true ↔ ((ch.step profile).Charges ∧ ch.presentsAt c profile x ≠ 0)
        ∨ ((ch.step profile).kind = .rest ∧ ch.tempAt c profile x = false) := by
      show (if (ch.step profile).kind.charging then ch.presentsAt c profile x != 0
        else (ch.step profile).kind == .rest && !ch.tempAt c profile x) = true ↔ _
      split
      next charges =>
        have step := (charging_iff _).mp charges
        rw [bne_iff_ne]
        exact ⟨fun h => .inl ⟨step, h⟩, fun h => h.elim (·.2) fun rest => absurd rest.1 step.1⟩
      next stops =>
        have step := mt (charging_iff _).mpr stops
        rw [Bool.and_eq_true, beq_iff_eq, Bool.not_eq_true']
        exact ⟨.inr, fun h => h.resolve_left fun charges => step charges.1⟩
    exact congrArg (fun n => ({ seen with timer := n } : Channel)) (if_congr counts rfl rfl)
  have counted (n : Nat) : ({ seen with timer := n } : Channel).countRun c profile x = { seen with timer := n, run := ch.runAt c profile x } := by
    have qualifies : (seen.qualifies profile && decide (x.amps c < ((ch.step profile).endCurrent : Int))) = true
        ↔ ch.presentsAt c profile x ≠ 0 ∧ (ch.step profile).endCurrent < ch.presentsAt c profile x
          ∧ ch.presentsAt c profile x = ch.lastSetpoint ∧ x.amps c < (ch.step profile).endCurrent := by
      show (ch.presentsAt c profile x != 0 && decide ((ch.step profile).endCurrent < ch.presentsAt c profile x)
        && ch.presentsAt c profile x == ch.lastSetpoint && decide (x.amps c < ((ch.step profile).endCurrent : Int))) = true ↔ _
      rw [Bool.and_eq_true, Bool.and_eq_true, Bool.and_eq_true, bne_iff_ne, decide_eq_true_iff, beq_iff_eq, decide_eq_true_iff,
        and_assoc, and_assoc]
    have count : ({ seen with timer := n } : Channel).countRun c profile x = if (ch.step profile).kind = .voltage then
        { seen with timer := n, run :=
          if seen.qualifies profile && decide (x.amps c < ((ch.step profile).endCurrent : Int)) then min (ch.run + 1) 3 else 0 }
        else { seen with timer := n } := rfl
    rw [count, Channel.runAt]
    split
    next => exact congrArg (fun k => ({ seen with timer := n, run := k } : Channel)) (if_congr qualifies rfl rfl)
    next => rfl
  rw [Channel.observe, Channel.represent_eq active]
  show (seen.advance profile).countRun c profile x = _
  rw [timed, counted]

/-! ### Exits and timeouts (R102, R103) -/

theorem exitHolds_iff (r : StepRecord) (v timer run : Nat) : exitHolds r v timer run = true
    ↔ ((r.kind = .precharge ∨ r.kind = .current) ∧ r.volt ≤ v) ∨ (r.kind = .voltage ∧ 3 ≤ run)
      ∨ ((r.kind = .topoff ∨ r.kind = .rest) ∧ r.duration * 600 ≤ timer) ∨ (r.kind = .rest ∧ v < r.volt) := by
  obtain ⟨kind, _, volt, _, duration, _, _, _, _⟩ := r
  cases kind <;> simp [exitHolds] <;> simp only [Config.taperRun, Config.samplesPerMinute, or_comm]

theorem timeoutHolds_iff (r : StepRecord) (timer : Nat) : timeoutHolds r timer = true
    ↔ (r.kind = .precharge ∨ r.kind = .current ∨ r.kind = .voltage) ∧ r.timeout ≠ 0 ∧ r.timeout * 600 < timer := by
  obtain ⟨kind, _, volt, _, duration, _, _, _, _⟩ := r
  cases kind <;> simp [timeoutHolds, StepKind.carriesTimeout] <;> simp only [Config.samplesPerMinute, implies_true]

/-! ### The event that a sample is (R100, R102, R103) -/

section
variable {c : Cell} {profile : List StepRecord} {x : Sample} {ch : Channel} (active : ch.state = .active)
include active

theorem Change.sample_exits (exit : exitHolds (ch.step profile) (x.volt c) (ch.timerAt c profile x) (ch.runAt c profile x) = true) :
    Change.sample c profile x ch = (Change.walk c profile x (ch.step profile).next (ch.observe c profile x)).recorded := by
  have seen := ch.observe_eq (c := c) (profile := profile) (x := x) active
  rw [Change.sample, if_pos active]
  dsimp only
  refine if_pos ?_
  rw [seen]
  exact exit

variable (stays : exitHolds (ch.step profile) (x.volt c) (ch.timerAt c profile x) (ch.runAt c profile x) = false)
include stays

theorem Change.sample_late (late : timeoutHolds (ch.step profile) (ch.timerAt c profile x) = true) :
    Change.sample c profile x ch = (Change.fail (ch.observe c profile x) .stepTimeout).recorded := by
  have seen := ch.observe_eq (c := c) (profile := profile) (x := x) active
  rw [Change.sample, if_pos active]
  dsimp only
  rw [if_neg (by rw [seen]; exact Bool.eq_false_iff.mp stays)]
  refine if_pos ?_
  rw [seen]
  exact late

theorem Change.sample_stays (intime : timeoutHolds (ch.step profile) (ch.timerAt c profile x) = false) :
    Change.sample c profile x ch = (Change.reasons ch (ch.observe c profile x)).recorded := by
  have seen := ch.observe_eq (c := c) (profile := profile) (x := x) active
  rw [Change.sample, if_pos active]
  dsimp only
  rw [if_neg (by rw [seen]; exact Bool.eq_false_iff.mp stays)]
  refine if_neg ?_
  rw [seen]
  exact Bool.eq_false_iff.mp intime

end

/-! ### Channel B under reports of the link (R94, R98, R99) -/

/-- R98: an ACTIVE channel that TEMP stops presents 0. -/
def Channel.StoppedByTemp (ch : Channel) : Prop := ch.state = .active → ch.reasons.temp = true ∧ ch.presented = 0

theorem stoppedByTemp_rules : ChannelRules Channel.StoppedByTemp where
  mark {ch ch'} same h active := by
    obtain ⟨temp, presented⟩ := h ((congrArg Channel.state same :).symm.trans active)
    exact ⟨(congrArg (fun x : Channel => x.reasons.temp) same :).trans temp, (congrArg Channel.presented same :).trans presented⟩
  told {ch} profile b h active := by
    by_cases was : ch.state = .active
    · obtain ⟨temp, -⟩ := h was
      have changed : (Change.withReasons .b profile { ch.reasons with noLink := b } ch).ch
          = ({ ch with reasons := { ch.reasons with noLink := b } } : Channel).represent .b profile := by
        rw [Change.withReasons, if_pos was]
        rfl
      have stopped : ({ ch with reasons := { ch.reasons with noLink := b } } : Channel).demand .b profile = 0 := by
        refine if_neg ?_
        rw [Reasons.stopsDemand, show ({ ch.reasons with noLink := b } : Reasons).temp = true from temp]
        simp
      rw [changed]
      refine ⟨temp, ?_⟩
      rw [Channel.represent, stopped]
      exact Nat.min_zero _
    · rw [withReasons_of_not_active was] at active
      exact absurd active was

/-- R98: an ACTIVE channel B presents the smaller of its published setpoint and its demand. -/
def PresentsB (s : State) : Prop := s.chB.state = .active → s.chB.Presents .b s.profile

section
variable {s t : State}

theorem PresentsB.congr (h : PresentsB s) (chB : { t.chB with stale := false } = { s.chB with stale := false })
    (profile : t.profile = s.profile) : PresentsB t := by
  intro active
  have presents := h ((congrArg Channel.state chB :).symm.trans active)
  unfold Channel.Presents at *
  rw [profile, show t.chB.presented = s.chB.presented from (congrArg Channel.presented chB :),
    show t.chB.published = s.chB.published from (congrArg Channel.published chB :), presents]
  exact congrArg (min s.chB.published) (congrArg (Channel.demand .b s.profile) chB :).symm

theorem PresentsB.reacts {E : List Effect} (h : PresentsB s) (reacts : Reacts E s t) (nB : .chB ∉ E) (nb : .linkB ∉ E) : PresentsB t :=
  h.congr (reacts.chB_fresh nB nb) (Keeps.profile reacts.keeps)

/-- R98: what channel B presents is worked out afresh with each report of the link. -/
theorem presentsB_reported (noLink : Bool) (s : State) : PresentsB (reportToB noLink s) := by
  let ch := (Change.withReasons .b s.profile { s.chB.reasons with noLink := noLink } s.chB).ch
  have changed : PresentsB { s with chB := ch } := by
    intro active
    by_cases was : s.chB.state = .active
    · have reasoned : ch = ({ s.chB with reasons := { s.chB.reasons with noLink := noLink } } : Channel).represent .b s.profile := by
        show (Change.withReasons .b s.profile _ s.chB).ch = _
        rw [Change.withReasons, if_pos was]
        rfl
      show ch.Presents .b s.profile
      rw [reasoned]
      rfl
    · have same : ch = s.chB := by
        show (Change.withReasons .b s.profile _ s.chB).ch = _
        rw [withReasons_of_not_active was]
        rfl
      exact absurd (same ▸ active) was
  have followed : PresentsB (linkFollow { s with chB := ch }) := changed.reacts (linkFollow_reacts _) (by decide) (by decide)
  unfold reportToB
  dsimp only
  split
  · exact followed.reacts (trigger_reacts (E := [.pass]) _ (by decide)) (by decide) (by decide)
  · exact followed

theorem PresentsB.taken (h : PresentsB s) (a : Arbiter) (c : Prop) [Decidable c] (b : Bool) :
    PresentsB (if c then reportToB b (linkFollow (s.setArb a)) else linkFollow (s.setArb a)) := by
  split
  · exact presentsB_reported _ _
  · exact PresentsB.reacts (s := s.setArb a) h (linkFollow_reacts _) (by decide) (by decide)

theorem presentsBRules : EngineRules PresentsB where
  calm reacts h := h.reacts reacts (by decide) (by decide)
  follows h := h.reacts (linkFollow_reacts _) (by decide) (by decide)
  grants h _ _ := h.taken _ _ _
  loses h _ := h.taken _ _ _
  frees h _ := h
  pends h := h
  told {s cause} h := by
    rw [reportLossToEngine_eq]
    exact h
  queue h _ := h
  ending reacts h := h.reacts reacts (by decide) (by decide)
  asks h _ := h
  gives h _ := h.taken _ _ _
  unasks h _ := h

theorem PresentsB.commit_b {y : Change} (h : y.ch.Presents .b s.profile) : PresentsB (commit .b y s) := by
  have changed : PresentsB (changedB y s) :=
    PresentsB.reacts (s := s.setChannel .b y.ch) (fun _ => h) (changedB_reacts y s) (by decide) (by decide)
  have synced (u : State) (hu : PresentsB u) : PresentsB (syncChargeB u) := by
    have asked (b : Bool) : PresentsB { u with chB := { u.chB with request := b } } := hu
    unfold syncChargeB
    dsimp only
    split
    · exact hu
    · split
      · exact presentsBRules.toLinkRules.raiseLink presentsBRules.startChecks (asked _) fun _ _ => asked _
      · exact presentsBRules.toLinkRules.withdrawLink presentsBRules.startChecks (fun _ => (asked _).taken _ _ _) fun _ => asked _
  rw [commit_b_eq]
  exact (synced _ changed).reacts (settleChange_reacts y _ _) (by decide) (by decide)

end

/-- R99: an event of channel B that leaves its request as it is. -/
theorem commit_b_unasked {y : Change} {s : State} (wants : y.ch.wantsLink s.profile = y.ch.request) :
    { (commit .b y s).chB with stale := false } = { y.ch with stale := false } := by
  have changed := changedB_chB y s
  have same : syncChargeB (changedB y s) = changedB y s := by
    refine if_pos ?_
    rw [changedB_profile, (congrArg Channel.request changed :)]
    exact (congrArg (Channel.wantsLink s.profile) changed :).trans wants
  rw [commit_b_eq, same]
  exact ((settleChange_reacts y _ _).chB_fresh (by decide) (by decide)).trans changed

end

/-! ### The channel after the sample -/

section
variable {c : Cell} {v : State} {new : Channel}
  (fresh : { new with stale := false } = { (channelSample c v).channel c with stale := false })
include fresh

/-- What an event leaves of the channel but for what reports of the link change. -/
theorem sampled_linkless {y : Change} (is : Change.sample c v.profile v.sample (v.channel c) = y) :
    new.linkless = { y.ch.linkless with request := if c = .b then y.ch.wantsLink v.profile else y.ch.request } := by
  have event := commit_linkless c (Change.sample c v.profile v.sample (v.channel c)) v
  rw [is] at event
  refine ((congrArg Channel.linkless fresh :).trans ?_).trans event
  rw [channelSample, is]
  rfl

/-- R105: the channel once it has left ACTIVE. -/
theorem sampled_left {y : Change} (is : Change.sample c v.profile v.sample (v.channel c) = y) (left : y.ch.state ≠ .active) :
    { new with stale := false } = { y.ch with stale := false, request := if c = .b then false else y.ch.request } := by
  have event := commit_of_idle c left v
  rw [fresh, channelSample, is]
  exact event

end

end Sys2Proof.Machine
end

section
/-! A channel's turn in a sample that changes no fault, outcome by outcome: O43. -/

namespace Sys2Proof.Machine

section
variable {c : Cell} {v : State} {new : Channel} (active : (v.channel c).state = .active)
  (fresh : { new with stale := false } = { (channelSample c v).channel c with stale := false })

/-- R100: the channel as it has judged the sample. -/
def judgedAt (c : Cell) (profile : List StepRecord) (x : Sample) (old : Channel) : Channel :=
  { old with
    reasons := { old.reasons with temp := old.tempAt c profile x }, presented := old.presentsAt c profile x
    timer := old.timerAt c profile x, run := old.runAt c profile x }

/-! ### The step goes on (R100, R101, R104) -/

section
include active fresh
variable (stays : exitHolds ((v.channel c).step v.profile) (v.sample.volt c) ((v.channel c).timerAt c v.profile v.sample)
    ((v.channel c).runAt c v.profile v.sample) = false)
  (intime : timeoutHolds ((v.channel c).step v.profile) ((v.channel c).timerAt c v.profile v.sample) = false)
include stays intime

theorem sampled_goesOn : let old := v.channel c
    new.state = .active ∧ new.slot = old.slot ∧ new.timer = old.timerAt c v.profile v.sample ∧ new.run = old.runAt c v.profile v.sample
      ∧ new.reasons.temp = old.tempAt c v.profile v.sample
      ∧ (c = .b → old.tempAt c v.profile v.sample = true → new.request = false ∧ new.presented = 0)
      ∧ (c = .a ∨ (old.tempAt c v.profile v.sample = old.reasons.temp ∧ old.wantsLink v.profile = old.request) →
        { new with stale := false } = { judgedAt c v.profile v.sample old with
          stale := false, lastSetpoint := old.presentsAt c v.profile v.sample }) := by
  intro old
  let j := judgedAt c v.profile v.sample old
  let y : Change := { ch := { j with lastSetpoint := j.presented }, entered := false, ended := false, trigger := old.reasons != j.reasons }
  have is : Change.sample c v.profile v.sample old = y := by
    rw [Change.sample_stays active stays intime, Channel.observe_eq active]
    rfl
  have linkless := sampled_linkless fresh is
  refine ⟨(congrArg Channel.state linkless :).trans active, (congrArg Channel.slot linkless :), (congrArg Channel.timer linkless :),
    (congrArg Channel.run linkless :), (congrArg (fun ch : Channel => ch.reasons.temp) linkless :), fun b temp => ⟨?_, ?_⟩, fun plain => ?_⟩
  · refine (congrArg Channel.request linkless :).trans ?_
    show (if c = .b then y.ch.wantsLink v.profile else _) = false
    rw [if_pos b, Channel.wantsLink, Reasons.stopsRequest, show y.ch.reasons.temp = true from temp]
    simp
  · subst b
    have none : y.ch.StoppedByTemp := by
      refine fun _ => ⟨temp, ?_⟩
      show old.presentsAt .b v.profile v.sample = 0
      exact if_neg fun both => both.2 (.inr (.inl temp))
    have stopped : (commit .b y v).chB.StoppedByTemp := stoppedByTemp_rules.commit_b (fun _ h => h) none
    have whole : (channelSample .b v).chB = (commit .b y v).chB := by rw [← is]; rfl
    rw [← whole] at stopped
    exact ((stoppedByTemp_rules.mark fresh stopped) ((congrArg Channel.state linkless :).trans active)).2
  · rw [fresh, channelSample]
    show { (commit c (Change.sample c v.profile v.sample old) v).channel c with stale := false } = _
    rw [is]
    cases c with
    | a => exact commit_a_chA y v
    | b =>
      obtain ⟨temp, asks⟩ := plain.resolve_left nofun
      refine commit_b_unasked (y := y) ?_
      have reasons : y.ch.reasons = old.reasons := by
        show { old.reasons with temp := old.tempAt .b v.profile v.sample } = old.reasons
        rw [temp]
      have same : y.ch.wantsLink v.profile = old.wantsLink v.profile := by
        rw [Channel.wantsLink, Channel.wantsLink, reasons]
        rfl
      exact same.trans asks

end

/-! ### The step times out (R103) -/

section
include active fresh

theorem sampled_late (stays : exitHolds ((v.channel c).step v.profile) (v.sample.volt c) ((v.channel c).timerAt c v.profile v.sample)
      ((v.channel c).runAt c v.profile v.sample) = false)
    (late : timeoutHolds ((v.channel c).step v.profile) ((v.channel c).timerAt c v.profile v.sample) = true) : let old := v.channel c
    new.state = .fault ∧ new.code = .stepTimeout ∧ new.slot = old.slot ∧ new.timer = old.timerAt c v.profile v.sample
      ∧ new.presented = 0 ∧ new.reasons = Reasons.none ∧ new.request = (if c = .b then false else old.request)
      ∧ Noticed (channelSample c v) .main .chEnd ∧ Noticed (channelSample c v) .hub .chEnd := by
  intro old
  let y := (Change.fail (judgedAt c v.profile v.sample old) .stepTimeout).recorded
  have is : Change.sample c v.profile v.sample old = y := by
    rw [Change.sample_late active stays late, Channel.observe_eq active]
    rfl
  have left := sampled_left fresh is nofun
  have noticed := (commit_noticed c y v).2 rfl
  rw [← is] at noticed
  exact ⟨(congrArg Channel.state left :), (congrArg Channel.code left :), (congrArg Channel.slot left :), (congrArg Channel.timer left :),
    (congrArg Channel.presented left :), (congrArg Channel.reasons left :), (congrArg Channel.request left :), noticed⟩

/-! ### The channel walks on (R102, R106, R107) -/

variable {k : Nat} (exit : exitHolds ((v.channel c).step v.profile) (v.sample.volt c) ((v.channel c).timerAt c v.profile v.sample)
    ((v.channel c).runAt c v.profile v.sample) = true)
include exit

omit fresh in
theorem sampled_walks : Change.sample c v.profile v.sample (v.channel c)
    = (Change.walk c v.profile v.sample ((v.channel c).step v.profile).next (judgedAt c v.profile v.sample (v.channel c))).recorded := by
  rw [Change.sample_exits active exit, Channel.observe_eq active]
  rfl

omit fresh in
theorem sampled_entered (step : (v.profile.getD ((v.channel c).step v.profile).next StepRecord.ended).kind ≠ .endStep) :
    Noticed (channelSample c v) .main .chStep ∧ Noticed (channelSample c v) .hub .chStep := by
  have noticed := (commit_noticed c (Change.sample c v.profile v.sample (v.channel c)) v).1
  rw [sampled_walks active exit] at noticed
  rw [channelSample, sampled_walks active exit]
  exact noticed (Change.walk_entered (c := c) (x := v.sample) (ch := judgedAt c v.profile v.sample (v.channel c)) step)

theorem sampled_ends (passes : PassesThrough v.profile (v.sample.volt c) ((v.channel c).step v.profile).next k) (few : k < 4)
    (ends : (v.profile.getD (chainSlot v.profile ((v.channel c).step v.profile).next k) StepRecord.ended).kind = .endStep) :
    new.state = .done ∧ new.slot = some (chainSlot v.profile ((v.channel c).step v.profile).next k) ∧ new.presented = 0
      ∧ new.request = (if c = .b then false else (v.channel c).request)
      ∧ Noticed (channelSample c v) .main .chEnd ∧ Noticed (channelSample c v) .hub .chEnd := by
  let n := ((v.channel c).step v.profile).next
  let j := judgedAt c v.profile v.sample (v.channel c)
  let w := Change.walk c v.profile v.sample n j
  have walked : w.ch = { (j.passed c v.profile v.sample n k).leave .done with slot := some (chainSlot v.profile n k) } :=
    Channel.walk_ends passes few ends
  have done : w.ch.state = .done := by rw [walked]; rfl
  have is : Change.sample c v.profile v.sample (v.channel c) = w.recorded := sampled_walks active exit
  have left := sampled_left fresh is (by rw [show w.recorded.ch.state = .done from done]; nofun)
  have noticed := (commit_noticed c w.recorded v).2 (Change.walk_ended (.inl rfl) done)
  rw [← is] at noticed
  rw [show w.recorded.ch = { w.ch with lastSetpoint := w.ch.presented } from rfl, walked] at left
  refine ⟨(congrArg Channel.state left :), (congrArg Channel.slot left :), (congrArg Channel.presented left :),
    (congrArg Channel.request left :).trans ?_, noticed⟩
  exact if_congr Iff.rfl rfl (j.passed_request n k)

theorem sampled_loops (passes : PassesThrough v.profile (v.sample.volt c) ((v.channel c).step v.profile).next 4) :
    new.state = .fault ∧ new.code = .chainLoop ∧ new.slot = some (chainSlot v.profile ((v.channel c).step v.profile).next 3)
      ∧ new.presented = 0 ∧ new.reasons = Reasons.none
      ∧ Noticed (channelSample c v) .main .chEnd ∧ Noticed (channelSample c v) .hub .chEnd := by
  let n := ((v.channel c).step v.profile).next
  let j := judgedAt c v.profile v.sample (v.channel c)
  let w := Change.walk c v.profile v.sample n j
  have walked : w.ch = (j.enter c v.profile v.sample (chainSlot v.profile n 3)).fail .chainLoop := Channel.walk_loops passes
  have failed : w.ch.state = .fault := by rw [walked]; rfl
  have is : Change.sample c v.profile v.sample (v.channel c) = w.recorded := sampled_walks active exit
  have left := sampled_left fresh is (by rw [show w.recorded.ch.state = .fault from failed]; nofun)
  have noticed := (commit_noticed c w.recorded v).2 (Change.walk_ended (.inr rfl) failed)
  rw [← is] at noticed
  rw [show w.recorded.ch = { w.ch with lastSetpoint := w.ch.presented } from rfl, walked] at left
  exact ⟨(congrArg Channel.state left :), (congrArg Channel.code left :), (congrArg Channel.slot left :), (congrArg Channel.presented left :),
    (congrArg Channel.reasons left :), noticed⟩

theorem sampled_comesTo (passes : PassesThrough v.profile (v.sample.volt c) ((v.channel c).step v.profile).next k) (few : k < 4) :
    let old := v.channel c
    let n := chainSlot v.profile (old.step v.profile).next k
    let after := v.profile.getD n StepRecord.ended
    after.kind ≠ .endStep → ¬ after.PassesAt (v.sample.volt c) →
    new.state = .active ∧ new.slot = some n ∧ new.timer = 0 ∧ new.run = 0
      ∧ new.reasons.temp = decide (v.sample.temp c < after.cold * 10 ∨ after.hot * 10 ≤ v.sample.temp c)
      ∧ new.Presents c v.profile
      ∧ (c = .b → new.request = decide (after.kind ≠ .rest ∧ new.reasons.temp = false ∧ old.reasons.hold = false
          ∧ old.reasons.noInput = false ∧ old.reasons.deficit = false ∧ old.reasons.dieHot = false)) := by
  intro old n after step stays
  let j := judgedAt c v.profile v.sample old
  let w := Change.walk c v.profile v.sample (old.step v.profile).next j
  have walked : w.ch = j.enter c v.profile v.sample n := Channel.walk_stays passes few step stays
  have is : Change.sample c v.profile v.sample (v.channel c) = w.recorded := sampled_walks active exit
  have linkless := sampled_linkless fresh is
  let e := { j.enter c v.profile v.sample n with lastSetpoint := (j.enter c v.profile v.sample n).presented }
  have entered : w.recorded.ch = e := by
    show ({ w.ch with lastSetpoint := w.ch.presented } : Channel) = _
    rw [walked]
  rw [entered] at linkless
  have presented : e.Presents c v.profile := rfl
  have temp : new.reasons.temp = decide (v.sample.temp c < after.cold * 10 ∨ after.hot * 10 ≤ v.sample.temp c) := by
    refine (congrArg (fun ch : Channel => ch.reasons.temp) linkless :).trans ?_
    show outsideWindow after.cold after.hot (v.sample.temp c) = _
    rw [outsideWindow, Bool.decide_or]
  have state : new.state = .active := (congrArg Channel.state linkless :).trans active
  refine ⟨state, (congrArg Channel.slot linkless :), (congrArg Channel.timer linkless :), (congrArg Channel.run linkless :), temp, ?_,
    fun b => ?_⟩
  · have whole : (channelSample c v).channel c = (commit c w.recorded v).channel c := by rw [← is]; rfl
    have profile : (commit c w.recorded v).profile = v.profile := Keeps.profile (commit_reacts v c w.recorded).keeps
    have presents : ((channelSample c v).channel c).Presents c v.profile := by
      rw [whole]
      cases c with
      | a => exact commit_a_presents (y := w.recorded) (entered ▸ presented)
      | b =>
        have still : (commit .b w.recorded v).chB.state = .active := by
          rw [← show (channelSample .b v).chB = (commit .b w.recorded v).chB from whole]
          exact (congrArg Channel.state fresh :).symm.trans state
        have after := PresentsB.commit_b (y := w.recorded) (s := v) (entered ▸ presented) still
        rw [profile] at after
        exact after
    refine ((congrArg Channel.presented fresh :).trans presents).trans ?_
    exact (congrArg (fun ch : Channel => min ch.published (ch.demand c v.profile)) fresh.symm :)
  · have request : new.request = e.wantsLink v.profile :=
      (congrArg Channel.request linkless :).trans (if_pos b)
    have wants := Channel.wantsLink_eq (ch := e) (profile := v.profile) active step
    rw [request, wants, temp]
    have tempE : e.reasons.temp = decide (v.sample.temp c < after.cold * 10 ∨ after.hot * 10 ≤ v.sample.temp c) := by
      show outsideWindow after.cold after.hot (v.sample.temp c) = _
      rw [outsideWindow, Bool.decide_or]
    rw [tempE]
    refine decide_eq_decide.mpr ?_
    show after.kind ≠ .rest ∧ old.reasons.hold = false ∧ _ ∧ old.reasons.noInput = false ∧ _ ↔ _
    tauto

end

end

/-- Settles O43: the channel's one turn, outcome by outcome. -/
theorem channelTakesSample : Obligations.ChannelTakesSample := by
  intro s m order on sampling running
  have record := arriveSample_judged (m := m) (order := order) on
  obtain ⟨carried, prot, -⟩ := record
  have latest : (arriveSample m order s).seq.latest = some (recordSample m s).sample := by rw [carried.seq]; rfl
  refine ⟨_, exec_sampleArrival on sampling m order, (recordSample m s).sample, latest, fun cellA cellB device c _ active lone => ?_⟩
  rw [prot] at cellA cellB device
  have empty (b : c = .b) : s.bal.queue = [] := (lone b).1
  have asks (b : c = .b) : s.chB.request = s.chB.wantsLink s.profile := (lone b).2
  obtain ⟨v, before, same, fresh, told⟩ := arriveSample_channel c (m := m) (order := order) on running ⟨cellA, cellB, device⟩ empty
  have sample : v.sample = (recordSample m s).sample := before.sample
  have profile : v.profile = s.profile := before.profile
  rw [← sample, ← profile]
  rw [← profile] at asks
  obtain ⟨mark, old⟩ : ∃ b, v.channel c = { s.channel c with stale := b } :=
    ⟨(v.channel c).stale, (congrArg (fun ch : Channel => { ch with stale := (v.channel c).stale }) same.fresh :)⟩
  generalize arriveSample m order s = t at fresh told ⊢
  have activeV : (v.channel c).state = .active := by rw [old]; exact active
  intro ch new r charging temp reasons free cap presented timer run volt exit late
  have exits : exitHolds r volt timer run = true ↔ exit := exitHolds_iff ..
  have times : timeoutHolds r timer = true ↔ late := timeoutHolds_iff ..
  have step : (v.channel c).step v.profile = r := by rw [old]; rfl
  have timerIs : (v.channel c).timerAt c v.profile v.sample = timer := by rw [old]; rfl
  have runIs : (v.channel c).runAt c v.profile v.sample = run := by rw [old]; rfl
  have exitV : exitHolds ((v.channel c).step v.profile) (v.sample.volt c) ((v.channel c).timerAt c v.profile v.sample)
      ((v.channel c).runAt c v.profile v.sample) = exitHolds r volt timer run := by rw [step, timerIs, runIs]
  have timeV : timeoutHolds ((v.channel c).step v.profile) ((v.channel c).timerAt c v.profile v.sample) = timeoutHolds r timer := by
    rw [step, timerIs]
  refine ⟨fun stays intime => ?_, fun stays isLate => ?_, fun walks k few passes => ?_, fun walks passes => ?_⟩
  · obtain ⟨state, slot, timed, counted, tempIs, stopped, plain⟩ := sampled_goesOn activeV fresh
      (exitV.trans (Bool.eq_false_iff.mpr (mt exits.mp stays))) (timeV.trans (Bool.eq_false_iff.mpr (mt times.mp intime)))
    rw [old] at slot timed counted tempIs stopped plain
    refine ⟨state, slot, timed, counted, tempIs, fun b _ hot => stopped b hot, fun easy => ?_⟩
    have agrees : c = .a ∨ (temp = ch.reasons.temp ∧ ch.wantsLink v.profile = ch.request) := by
      cases c with
      | a => exact .inl rfl
      | b => exact .inr ⟨easy.resolve_left nofun, (asks rfl).symm⟩
    exact (congrArg (fun x : Channel => { x with stale := ch.stale }) (plain agrees) :)
  · obtain ⟨state, code, slot, timed, presents, none, request, main, hub⟩ := sampled_late activeV fresh
      (exitV.trans (Bool.eq_false_iff.mpr (mt exits.mp stays))) (timeV.trans (times.mpr isLate))
    rw [old] at slot timed request
    exact ⟨state, code, slot, timed, presents, none, request, told _ _ main, told _ _ hub⟩
  · intro n after
    have exitHere := exitV.trans (exits.mpr walks)
    have passesV : PassesThrough v.profile (v.sample.volt c) ((v.channel c).step v.profile).next k := by rw [step]; exact passes
    have nIs : chainSlot v.profile ((v.channel c).step v.profile).next k = n := by rw [step]
    have nextIs : ((v.channel c).step v.profile).next = r.next := by rw [step]
    have few : k < 4 := List.mem_range.mp few
    have enters (first : (v.profile.getD r.next StepRecord.ended).kind ≠ .endStep) : Noticed t .main .chStep ∧ Noticed t .hub .chStep := by
      obtain ⟨main, hub⟩ := sampled_entered activeV exitHere (by rw [nextIs]; exact first)
      exact ⟨told _ _ main, told _ _ hub⟩
    refine ⟨fun some => enters (PassesThrough.enters passes some), fun ends => ?_, fun stepped stays => ?_⟩
    · obtain ⟨state, slot, presents, request, main, hub⟩ := sampled_ends activeV fresh exitHere passesV few (by rw [nIs]; exact ends)
      rw [nIs] at slot
      rw [old] at request
      exact ⟨state, slot, presents, request, told _ _ main, told _ _ hub⟩
    · obtain ⟨state, slot, timed, counted, tempIs, presents, request⟩ := sampled_comesTo activeV fresh exitHere passesV few
        (by rw [nIs]; exact stepped) (by rw [nIs]; exact stays)
      rw [nIs] at slot tempIs request
      rw [old] at request
      have first : (v.profile.getD r.next StepRecord.ended).kind ≠ .endStep := by
        cases k with
        | zero => exact stepped
        | succ k => exact PassesThrough.enters passes (Nat.succ_pos k)
      obtain ⟨main, hub⟩ := enters first
      exact ⟨state, slot, timed, counted, tempIs, presents, request, main, hub⟩
  · have exitHere := exitV.trans (exits.mpr walks)
    have passesV : PassesThrough v.profile (v.sample.volt c) ((v.channel c).step v.profile).next 4 := by rw [step]; exact passes
    obtain ⟨state, code, slot, presents, none, main, hub⟩ := sampled_loops activeV fresh exitHere passesV
    obtain ⟨main', hub'⟩ := sampled_entered activeV exitHere (PassesThrough.enters passesV (by decide))
    rw [show ((v.channel c).step v.profile).next = r.next by rw [step]] at slot
    exact ⟨state, code, slot, presents, none, told _ _ main', told _ _ hub', told _ _ main, told _ _ hub⟩

end Sys2Proof.Machine
end

section
/-! The arbiter while BALANCE cannot be granted (R119, R129), and a head that ends then (R145). -/

namespace Sys2Proof.Machine

/-! ### No grant to BALANCE (R119) -/

/-- BALANCE holds the link, or waits out its backoff: it cannot be granted the link. -/
def NoGrant (a : Arbiter) : Prop := a.link = .held .balance ∨ a.backoffBalance ≠ none

section
variable {a : Arbiter} {r : Requester}

theorem ne_balance_of_backoff (backoff : a.backoffBalance ≠ none) (chosen : a.choose = some r) : r ≠ .balance := by
  obtain ⟨n, is⟩ := Option.ne_none_iff_exists'.mp backoff
  exact choose_ne_of_backoff (q := .balance) is chosen

theorem NoGrant.ne_balance (h : NoGrant a) (unheld : a.Unheld) (chosen : a.choose = some r) : r ≠ .balance :=
  ne_balance_of_backoff (h.resolve_left (unheld.not_held _)) chosen

/-- R122: whoever loses the link, BALANCE waits out its backoff then. -/
theorem NoGrant.lost (h : NoGrant a) (held : a.link = .held r) (now : Nat) (stands : Bool) : (a.lost now r stands).backoffBalance ≠ none := by
  have backoff (ne : r ≠ .balance) : a.backoffBalance ≠ none := h.resolve_left fun own => ne (LinkState.held.inj (held.symm.trans own))
  cases r with
  | supply => exact backoff nofun
  | chargeB => exact backoff nofun
  | balance => nofun

end

/-! ### The engine is not asked (R121, R139) -/

section
variable {s : State} {r : Requester} (f g : State → State)

theorem endChangeover_of_backoff (backoff : s.arb.backoffBalance ≠ none) : endChangeover f s = endChangeover g s := by
  unfold endChangeover
  split
  next chosen => exact grantLink_of_ne f g (ne_balance_of_backoff backoff chosen) s
  next => rfl

theorem chooseFree_of_backoff (backoff : s.arb.backoffBalance ≠ none) : chooseFree f s = chooseFree g s := by
  unfold chooseFree
  split
  next chosen => rw [grantLink_of_ne f g (ne_balance_of_backoff backoff chosen) s]
  next => rfl

theorem loseLink_of_noGrant (h : NoGrant s.arb) (held : s.arb.link = .held r) (cause : LossCause) :
    loseLink f cause r s = loseLink g cause r s := by
  have backoff : (afterLoss cause r s).arb.backoffBalance ≠ none := by
    rw [(afterLoss_sameUsers s cause r).arb]
    exact h.lost held _ _
  rw [loseLink_eq, loseLink_eq, endChangeover_of_backoff f g backoff]

theorem raiseLink_of_noGrant (h : NoGrant s.arb) : raiseLink f r s = raiseLink g r s := by
  have asks : NoGrant (asked r s).arb := h
  have yields {holder : Requester} (held : (asked r s).arb.link = .held holder) :
      startYield f holder (asked r s) = startYield g holder (asked r s) := by
    cases holder with
    | supply => rfl
    | chargeB => exact loseLink_of_noGrant f g asks held .yield
    | balance => rfl
  unfold raiseLink
  split
  · rfl
  · dsimp only
    split
    next free => exact chooseFree_of_backoff f g (s := asked r s) (h.resolve_left (by rw [show s.arb.link = .free from free]; nofun))
    next holder held =>
      cases r with
      | supply => exact loseLink_of_noGrant f g asks held .preemption
      | chargeB => exact congrArg (fun y => if (asked .chargeB s).arb.tenureExpired && holder == .balance then y else _) (yields held)
      | balance => exact congrArg (fun y => if (asked .balance s).arb.tenureExpired && holder == .chargeB then y else _) (yields held)
    next => rfl

theorem withdrawLink_of_noGrant (h : NoGrant s.arb) : withdrawLink f r s = withdrawLink g r s := by
  by_cases held : s.arb.link = .held r
  · rw [withdrawLink_held f held, withdrawLink_held g held, loseLink_of_noGrant f g h held]
  · rw [withdrawLink_unheld f held, withdrawLink_unheld g held]

end

/-! ### BALANCE waits out its backoff (R129) -/

/-- BALANCE does not hold the link, and its backoff ends at n. -/
structure HeldOff (n : Nat) (a : Arbiter) : Prop where
  unheld : a.link ≠ .held .balance
  backoff : a.backoffBalance = some n

theorem HeldOff.noGrant {n : Nat} {a : Arbiter} (h : HeldOff n a) : NoGrant a := .inr (by rw [h.backoff]; nofun)

theorem heldOffRules (n : Nat) : BalanceArbRules (HeldOff n) where
  grants {a r} now tenure h unheld chosen := by
    have ne := h.noGrant.ne_balance unheld chosen
    cases r with
    | supply => exact ⟨nofun, h.backoff⟩
    | chargeB => exact ⟨nofun, h.backoff⟩
    | balance => contradiction
  loses {a r} now h held := by
    cases r with
    | supply => exact ⟨nofun, h.backoff⟩
    | chargeB => exact ⟨nofun, h.backoff⟩
    | balance => exact absurd held h.unheld
  frees h _ := ⟨nofun, h.backoff⟩
  pends h := ⟨h.unheld, h.backoff⟩
  asks h _ := ⟨h.unheld, h.backoff⟩
  gives _ h held := absurd held h.unheld
  unasks _ h _ := ⟨h.unheld, h.backoff⟩

/-- A job without what its turns at the head have made of it. -/
def Job.plain (j : Job) : Job := { j with state := .queued, resolved := none, heldSince := none, runs := [] }

/-- BALANCE waits out its backoff until n, with these last results and these jobs; the head does not run. -/
structure WaitsOut (n : Nat) (last : PerPort (Option LastResult)) (jobs : List Job) (s : State) : Prop where
  arb : HeldOff n s.arb
  last : s.bal.last = last
  jobs : s.bal.queue.map Job.plain = jobs.map Job.plain
  head : ∀ j ∈ s.bal.queue.head?, j.state ≠ .running

section
variable {n : Nat} {last : PerPort (Option LastResult)} {jobs : List Job} {s t : State}

theorem tags_of_plain {q : List Job} (same : q.map Job.plain = jobs.map Job.plain) : q.map Job.tag = jobs.map Job.tag := by
  have tags := congrArg (List.map Job.tag) same
  rw [List.map_map, List.map_map] at tags
  exact tags

theorem WaitsOut.reacts {E : List Effect} (h : WaitsOut n last jobs s) (k : Reacts E s t) (na : .arb ∉ E) (nl : .lock ∉ E) (nq : .queue ∉ E)
    (nlast : .last ∉ E) : WaitsOut n last jobs t :=
  ⟨by rw [k.arb_eq na nl]; exact h.arb, (k.last_eq nlast).trans h.last, by rw [k.queue_eq nq]; exact h.jobs, by
    rw [k.queue_eq nq]; exact h.head⟩

/-- BALANCE waits out its backoff until n, and the engine stands at b. -/
structure Still (n : Nat) (b : Balance) (s : State) : Prop where
  arb : HeldOff n s.arb
  bal : s.bal = b

theorem WaitsOut.of_still {b : Balance} (h : WaitsOut n last jobs s) (is : s.bal = b) (k : Still n b t) : WaitsOut n last jobs t := by
  have same : t.bal = s.bal := k.bal.trans is.symm
  exact ⟨k.arb, by rw [same]; exact h.last, by rw [same]; exact h.jobs, by rw [same]; exact h.head⟩

section
variable {b : Balance} (rests : ∀ j ∈ b.queue.head?, j.state ≠ .running)

theorem Still.reacts {E : List Effect} (h : Still n b s) (k : Reacts E s t) (na : .arb ∉ E) (nl : .lock ∉ E) (nq : .queue ∉ E)
    (nlast : .last ∉ E) (nh : .hot ∉ E) : Still n b t :=
  ⟨by rw [k.arb_eq na nl]; exact h.arb, (k.bal_eq nq nlast nh).trans h.bal⟩

theorem Still.setArb (h : Still n b s) {a : Arbiter} (arb : HeldOff n a) : Still n b (s.setArb a) := ⟨arb, h.bal⟩

include rests

/-- R140: no report of a loss reaches a head that does not run. -/
theorem lossQueue_rests (cause : LossCause) (now : Nat) : lossQueue cause now b.queue = b.queue := by
  cases queue : b.queue with
  | nil => rfl
  | cons j rest => exact if_neg fun runs => rests j (by rw [queue]; rfl) runs.2

theorem stillRules : LinkRules (Still n b) :=
  .of_blind (fun reacts h => h.reacts reacts (by decide) (by decide) (by decide) (by decide) (by decide))
    (fun h => h.reacts (linkFollow_reacts _) (by decide) (by decide) (by decide) (by decide) (by decide))
    (fun h unheld chosen => h.setArb ((heldOffRules n).grants _ _ h.arb unheld chosen))
    (fun h held => h.setArb ((heldOffRules n).loses _ h.arb held)) (fun h changing => h.setArb ((heldOffRules n).frees h.arb changing))
    (fun h => h.setArb ((heldOffRules n).pends h.arb))
    fun {s cause} h => by
      rw [reportLossToEngine_eq, h.bal, lossQueue_rests rests]
      exact ⟨h.arb, h.bal ▸ rfl⟩

theorem Still.raiseLink (h : Still n b s) (f : State → State) (r : Requester) : Still n b (raiseLink f r s) := by
  have asks : Still n b (asked r s) := h.setArb ⟨h.arb.unheld, h.arb.backoff⟩
  rw [raiseLink_of_noGrant f id h.arb.noGrant]
  exact (stillRules rests).raiseLink (fun _ => id) h fun _ _ => asks

theorem Still.lossOf (h : Still n b s) {r : Requester} (held : s.arb.link = .held r) {cause : LossCause} (taken : cause ≠ .withdrawal) :
    Still n b (lossOf cause r s) := by
  rw [Machine.lossOf, loseLink_of_noGrant _ id h.arb.noGrant held]
  exact (stillRules rests).loseLink (fun _ => id) h held taken

theorem Still.withdrawReq (h : Still n b s) {r : Requester} (ne : r ≠ .balance) : Still n b (withdrawReq r s) := by
  rw [Machine.withdrawReq, withdrawLink_of_noGrant _ id h.arb.noGrant]
  refine (stillRules rests).withdrawLink (fun _ => id) (fun held => ?_) fun _ => h.setArb ⟨h.arb.unheld, h.arb.backoff⟩
  have lost : Still n b (s.setArb (s.arb.lost s.now r false)) := by
    refine h.setArb ?_
    cases r with
    | supply => exact ⟨nofun, h.arb.backoff⟩
    | chargeB => exact ⟨nofun, h.arb.backoff⟩
    | balance => contradiction
  have followed := (stillRules rests).follows lost
  unfold lossTaken
  dsimp only
  split
  · exact followed.reacts (reportToB_reacts _ _) (by decide) (by decide) (by decide) (by decide) (by decide)
  · exact followed

/-- R99: an event of a channel while BALANCE waits out its backoff. -/
theorem Still.commit (h : Still n b s) (c : Cell) (y : Change) : Still n b (commit c y s) := by
  cases c with
  | a =>
    refine Still.reacts (s := s.setChannel .a y.ch) ⟨h.arb, h.bal⟩ (commit_a_reacts y s) (by decide) (by decide) (by decide) (by decide)
      (by decide)
  | b =>
    have changed : Still n b (changedB y s) :=
      Still.reacts (s := s.setChannel .b y.ch) ⟨h.arb, h.bal⟩ (changedB_reacts y s) (by decide) (by decide) (by decide) (by decide) (by decide)
    have synced (u : State) (hu : Still n b u) : Still n b (syncChargeB u) := by
      have requests (x : Bool) : Still n b { u with chB := { u.chB with request := x } } := ⟨hu.arb, hu.bal⟩
      unfold syncChargeB
      dsimp only
      split
      · exact hu
      · split
        · exact (requests _).raiseLink rests startChecks .chargeB
        · exact (requests _).withdrawReq rests nofun
    rw [commit_b_eq]
    exact (synced _ changed).reacts (settleChange_reacts y _ _) (by decide) (by decide) (by decide) (by decide) (by decide)

end

/-- R140: the jobs stay as a loss is told to the engine. -/
theorem lossQueue_plain (cause : LossCause) (now : Nat) (q : List Job) : (lossQueue cause now q).map Job.plain = q.map Job.plain := by
  unfold lossQueue
  split
  · rfl
  · split <;> rfl

theorem WaitsOut.still (h : WaitsOut n last jobs s) : Still n s.bal s := ⟨h.arb, rfl⟩

theorem WaitsOut.raiseLink (h : WaitsOut n last jobs s) (f : State → State) (r : Requester) : WaitsOut n last jobs (raiseLink f r s) :=
  h.of_still rfl (h.still.raiseLink h.head f r)

theorem WaitsOut.raiseReq (h : WaitsOut n last jobs s) (r : Requester) : WaitsOut n last jobs (raiseReq r s) := h.raiseLink startChecks r

/-- R99: an event of a channel while BALANCE waits out its backoff. -/
theorem WaitsOut.commit (h : WaitsOut n last jobs s) (c : Cell) (y : Change) : WaitsOut n last jobs (commit c y s) :=
  h.of_still rfl (h.still.commit h.head c y)

/-- These jobs, the first of them in this state. -/
def headed (st : JobState) : List Job → List Job
  | [] => []
  | j :: rest => { j with state := st } :: rest

theorem headed_plain (st : JobState) (q : List Job) : (headed st q).map Job.plain = q.map Job.plain := by cases q <;> rfl

/-- BALANCE waits out its backoff until n, with these last results and these jobs but for the state of the head, which does not
run. -/
structure Passes (n : Nat) (last : PerPort (Option LastResult)) (jobs : List Job) (s : State) : Prop where
  arb : HeldOff n s.arb
  last : s.bal.last = last
  head : ∃ st, st ≠ .running ∧ s.bal.queue = headed st jobs

theorem Passes.rests (h : Passes n last jobs s) : ∀ j ∈ s.bal.queue.head?, j.state ≠ .running := by
  obtain ⟨st, rests, queue⟩ := h.head
  rw [queue]
  cases jobs with
  | nil => nofun
  | cons j rest =>
    intro i head
    obtain rfl := Option.some.inj head
    exact rests

theorem Passes.waitsOut (h : Passes n last jobs s) : WaitsOut n last jobs s := by
  obtain ⟨st, -, queue⟩ := h.head
  exact ⟨h.arb, h.last, by rw [queue]; exact headed_plain st jobs, h.rests⟩

theorem Passes.of_still {b : Balance} (h : Passes n last jobs s) (is : s.bal = b) (k : Still n b t) : Passes n last jobs t := by
  have same : t.bal = s.bal := k.bal.trans is.symm
  exact ⟨k.arb, by rw [same]; exact h.last, by rw [same]; exact h.head⟩

theorem Passes.raiseLink (h : Passes n last jobs s) (f : State → State) (r : Requester) : Passes n last jobs (raiseLink f r s) :=
  h.of_still rfl (Still.raiseLink h.rests ⟨h.arb, rfl⟩ f r)

theorem Passes.commit (h : Passes n last jobs s) (c : Cell) (y : Change) : Passes n last jobs (commit c y s) :=
  h.of_still rfl (Still.commit h.rests ⟨h.arb, rfl⟩ c y)

/-- R138: the next job becomes the head. -/
theorem newHead_passes (f : State → State) (arb : HeldOff n s.arb) : Passes n s.bal.last s.bal.queue (newHead f s) := by
  unfold Machine.newHead
  split
  next empty => exact ⟨arb, rfl, .queued, nofun, by rw [empty]; rfl⟩
  next k more next =>
    have named (st : JobState) (rests : st ≠ .running) : Passes n s.bal.last (k :: more) (s.setQueue ({ k with state := st } :: more)) :=
      ⟨arb, rfl, st, rests, rfl⟩
    rw [next]
    split
    · exact (named .queued nofun).raiseLink f .balance
    · exact named .suspended nofun

variable {j : Job} {rest : List Job} {f : State → State} (queue : s.bal.queue = j :: rest) (reaches : ∀ s, Reacts engineEffects s (f s))
  (reason : EndReason)
include queue reaches

/-- R145: a head ends, BALANCE waiting out its backoff then. -/
theorem endHead_passes (off : let w := if j.state = .suspended then s.setQueue rest else withdrawLink f .balance (s.setQueue rest)
    HeldOff n w.arb ∧ w.bal = { s.bal with queue := rest }) :
    Passes n (s.bal.last.set j.originator (some { tag := j.tag, reason := reason, moved := j.moved })) rest (endHead f reason s)
      ∧ Noticed (endHead f reason s) j.originator .balDone := by
  let w := if j.state = .suspended then s.setQueue rest else withdrawLink f .balance (s.setQueue rest)
  let r := recordEnding j reason w
  have ended : endHead f reason s = queueEmptied (newHead f r) := by rw [endHead, queue]
  obtain ⟨arb, bal⟩ := off
  have last : r.bal.last = s.bal.last.set j.originator (some { tag := j.tag, reason := reason, moved := j.moved }) := by
    show w.bal.last.set _ _ = _
    rw [show w.bal = _ from bal]
  have jobs : r.bal.queue = rest := (congrArg Balance.queue bal :)
  have passes := newHead_passes (s := r) f arb
  rw [last, jobs] at passes
  have emptied : Reacts [.monitor] (newHead f r) (queueEmptied (newHead f r)) := queueEmptied_reacts _ (by decide)
  have told : Noticed r j.originator .balDone := raiseNotice_noticed .balDone j.originator _
  rw [ended]
  exact ⟨passes.of_still rfl (Still.reacts ⟨passes.arb, rfl⟩ emptied (by decide) (by decide) (by decide) (by decide) (by decide)),
    emptied.noticed ((newHead_reacts reaches r).noticed told)⟩

/-- R125, R145: so does a head that holds the link. -/
theorem endHead_gives (held : s.arb.link = .held .balance) (going : j.state ≠ .suspended) :
    Passes (s.now + 100) (s.bal.last.set j.originator (some { tag := j.tag, reason := reason, moved := j.moved })) rest (endHead f reason s)
      ∧ Noticed (endHead f reason s) j.originator .balDone := by
  obtain ⟨given, reacts⟩ := withdrawLink_givesUp f (s := s.setQueue rest) held
  refine endHead_passes queue reaches reason ?_
  dsimp only
  rw [if_neg going]
  exact ⟨⟨given.unheld, given.backoff⟩, reacts.bal_eq (by decide) (by decide) (by decide)⟩

omit reaches in
/-- R138, R145: a head ends while BALANCE waits out its backoff. -/
theorem finishHead_passes (off : HeldOff n s.arb) :
    Passes n (s.bal.last.set j.originator (some { tag := j.tag, reason := reason, moved := j.moved })) rest (finishHead reason s)
      ∧ Noticed (finishHead reason s) j.originator .balDone := by
  refine endHead_passes queue startChecks_reacts reason ?_
  dsimp only
  split
  · exact ⟨off, rfl⟩
  · rw [withdrawLink_unheld startChecks (s := s.setQueue rest) off.unheld]
    exact ⟨⟨off.unheld, off.backoff⟩, rfl⟩

end

end Sys2Proof.Machine
end

section
/-! The head's credit and its end reasons (R142 to R144), and the engine's turn in a sample. -/

namespace Sys2Proof.Machine

/-! ### The head through the arbiter's operations (R128, R140) -/

/-- BALANCE cannot be granted; the last results are these, and the queue is a head that is k but for its state and its runs,
with `rest` behind it. -/
structure HeadKept (last : PerPort (Option LastResult)) (k : Job) (rest : List Job) (s : State) : Prop where
  noGrant : NoGrant s.arb
  last : s.bal.last = last
  head : ∃ j, s.bal.queue = j :: rest ∧ j = { k with state := j.state, heldSince := j.heldSince, runs := j.runs }

section
variable {last : PerPort (Option LastResult)} {k : Job} {rest : List Job} {s t : State}

theorem HeadKept.reacts {E : List Effect} (h : HeadKept last k rest s) (r : Reacts E s t) (na : .arb ∉ E) (nl : .lock ∉ E) (nq : .queue ∉ E)
    (nlast : .last ∉ E) : HeadKept last k rest t :=
  ⟨by rw [r.arb_eq na nl]; exact h.noGrant, (r.last_eq nlast).trans h.last, by rw [r.queue_eq nq]; exact h.head⟩

theorem HeadKept.setArb (h : HeadKept last k rest s) {a : Arbiter} (arb : NoGrant a) : HeadKept last k rest (s.setArb a) :=
  ⟨arb, h.last, h.head⟩

/-- R140: a head whose run ends keeps all but its state and its runs. -/
theorem lossQueue_head (cause : LossCause) (now : Nat) {j : Job} {q : List Job} (queue : q = j :: rest)
    (kept : j = { k with state := j.state, heldSince := j.heldSince, runs := j.runs }) :
    ∃ i, lossQueue cause now q = i :: rest ∧ i = { k with state := i.state, heldSince := i.heldSince, runs := i.runs } := by
  subst queue
  show ∃ i, (if (cause = .preemption ∨ cause = .yield) ∧ j.state = .running then j.stops now .queued :: rest else j :: rest) = i :: rest ∧ _
  split
  · refine ⟨j.stops now .queued, rfl, ?_⟩
    rw [kept]
    rfl
  · exact ⟨j, rfl, kept⟩

theorem headKeptRules (last : PerPort (Option LastResult)) (k : Job) (rest : List Job) : LinkRules (HeadKept last k rest) :=
  .of_blind (fun reacts h => h.reacts reacts (by decide) (by decide) (by decide) (by decide))
    (fun h => h.reacts (linkFollow_reacts _) (by decide) (by decide) (by decide) (by decide))
    (fun {s r} h unheld chosen => h.setArb (by
      have ne := h.noGrant.ne_balance unheld chosen
      have backoff := h.noGrant.resolve_left (unheld.not_held _)
      cases r with
      | supply => exact .inr backoff
      | chargeB => exact .inr backoff
      | balance => contradiction))
    (fun h held => h.setArb (.inr (h.noGrant.lost held _ _)))
    (fun h changing => h.setArb (.inr (h.noGrant.resolve_left (by rw [changing]; nofun)))) (fun h => h.setArb h.noGrant)
    fun {s cause} h => by
      rw [reportLossToEngine_eq]
      obtain ⟨j, queue, kept⟩ := h.head
      exact ⟨h.noGrant, h.last, lossQueue_head cause s.now queue kept⟩

/-- R99: an event of channel B leaves a head that BALANCE cannot be granted for. -/
theorem HeadKept.commit_b (h : HeadKept last k rest s) (y : Change) : HeadKept last k rest (commit .b y s) := by
  have changed : HeadKept last k rest (changedB y s) :=
    HeadKept.reacts (s := s.setChannel .b y.ch) ⟨h.noGrant, h.last, h.head⟩ (changedB_reacts y s) (by decide) (by decide) (by decide) (by decide)
  have synced (u : State) (hu : HeadKept last k rest u) : HeadKept last k rest (syncChargeB u) := by
    have requests (b : Bool) : HeadKept last k rest { u with chB := { u.chB with request := b } } := ⟨hu.noGrant, hu.last, hu.head⟩
    have rules := headKeptRules last k rest
    have lost {w : State} (hw : HeadKept last k rest w) (held : w.arb.link = .held .chargeB) : HeadKept last k rest (lossTaken .chargeB false w) := by
      have taken := rules.follows (hw.setArb (a := w.arb.lost w.now .chargeB false) (.inr (hw.noGrant.lost held _ _)))
      exact taken.reacts (reportToB_reacts _ _) (by decide) (by decide) (by decide) (by decide)
    unfold syncChargeB
    dsimp only
    split
    · exact hu
    · split
      · rw [Machine.raiseReq, raiseLink_of_noGrant _ id (requests _).noGrant]
        exact rules.raiseLink (fun _ => id) (requests _) fun _ _ => (requests _).setArb (requests _).noGrant
      · rw [Machine.withdrawReq, withdrawLink_of_noGrant _ id (requests _).noGrant]
        exact rules.withdrawLink (fun _ => id) (lost (requests _)) fun _ => (requests _).setArb (requests _).noGrant
  rw [commit_b_eq]
  exact (synced _ changed).reacts (settleChange_reacts y _ _) (by decide) (by decide) (by decide) (by decide)

/-- R126: while BALANCE holds the link, CHARGE_B can but wait, and an event of channel B leaves the engine. -/
theorem commit_b_held {y : Change} (held : s.arb.link = .held .balance) :
    (commit .b y s).arb.link = .held .balance ∧ (commit .b y s).bal = s.bal := by
  have changed := changedB_reacts y s
  have synced (u : State) (hu : u.arb.link = .held .balance) : (syncChargeB u).arb.link = .held .balance ∧ (syncChargeB u).bal = u.bal := by
    unfold syncChargeB
    dsimp only
    split
    · exact ⟨hu, rfl⟩
    · split
      · unfold Machine.raiseReq raiseLink
        split
        · exact ⟨hu, rfl⟩
        · dsimp only
          split
          next free => exact absurd (hu.symm.trans free) nofun
          next holder own =>
            obtain rfl : Requester.balance = holder := LinkState.held.inj (hu.symm.trans own)
            unfold arriveHeld startYield
            dsimp only
            split
            · exact ⟨hu, rfl⟩
            · exact ⟨hu, rfl⟩
          next changing => exact absurd (hu.symm.trans changing) nofun
      · rw [Machine.withdrawReq, withdrawLink_unheld _ (by show u.arb.link ≠ _; rw [hu]; nofun)]
        exact ⟨hu, rfl⟩
  obtain ⟨link, bal⟩ := synced (changedB y s) (by rw [changed.arb_eq (by decide) (by decide)]; exact held)
  have settled := settleChange_reacts y s.chB.state (syncChargeB (changedB y s))
  rw [commit_b_eq, settled.arb_eq (by decide) (by decide), settled.bal_eq (by decide) (by decide) (by decide)]
  exact ⟨link, bal.trans (changed.bal_eq (by decide) (by decide) (by decide))⟩

/-- R122, R129: BALANCE has lost the link. -/
theorem lossOf_balance (cause : LossCause) (s : State) :
    let t := lossOf cause .balance s
    HeldOff (s.now + 100) t.arb ∧ t.bal = { s.bal with queue := lossQueue cause s.now s.bal.queue } := by
  let lost := s.arb.lost s.now .balance (cause != .withdrawal)
  let l := afterLoss cause .balance s
  have arb : l.arb = lost := (afterLoss_sameUsers s cause .balance).arb
  have off : HeldOff (s.now + 100) l.arb := by
    rw [arb]
    exact ⟨nofun, rfl⟩
  have bal : l.bal = { s.bal with queue := lossQueue cause s.now s.bal.queue } := by
    let x := linkFollow (s.setArb lost)
    have followed : Reacts followEffects (s.setArb lost) x := linkFollow_reacts _
    have balX : x.bal = s.bal := followed.bal_eq (by decide) (by decide) (by decide)
    have now : x.now = s.now := Keeps.now followed.keeps
    have told : (reportLossToEngine cause x).bal = { x.bal with queue := lossQueue cause x.now x.bal.queue } := by
      rw [reportLossToEngine_eq]
      rfl
    have last : l.bal = (reportLossToEngine cause x).bal := (reported_reacts _).bal_eq (by decide) (by decide) (by decide)
    rw [last, told, balX, now]
  have link : l.arb.link = .changeover := by rw [arb]; rfl
  have all : lossOf cause .balance s = if l.linkSettledZero then endChangeover id l else l := by
    rw [lossOf, loseLink_eq, endChangeover_of_backoff startChecks id (by show l.arb.backoffBalance ≠ none; rw [off.backoff]; nofun)]
  intro t
  have is : t = _ := all
  rw [is]
  split
  · have reacts : Reacts arbiterEffects l (endChangeover id l) := endChangeover_reacts (E := arbiterEffects) (List.Subset.refl _) (fun u => .refl u) l
    refine ⟨(heldOffRules _).toArbRules.linkRules.endChangeover (f := id) (fun _ => id) off link, ?_⟩
    rw [reacts.bal_eq (by decide) (by decide) (by decide), bal]
  · exact ⟨off, bal⟩

/-- R122, R128: BALANCE yields while its head RUNS. -/
theorem yieldBalance_state {j : Job} (queue : s.bal.queue = j :: rest) (runs : j.state = .running) :
    let t := lossOf .yield .balance s
    HeldOff (s.now + 100) t.arb ∧ t.bal = { s.bal with queue := j.stops s.now .queued :: rest } := by
  obtain ⟨off, bal⟩ := lossOf_balance .yield s
  rw [queue, show lossQueue .yield s.now (j :: rest) = j.stops s.now .queued :: rest from if_pos ⟨.inr rfl, runs⟩] at bal
  exact ⟨off, bal⟩

end

/-! ### Counting (R142 to R144) -/

section
variable (j : Job) (x : Sample) (start stop : Nat)

/-- R142: the counted time, spelled out. -/
theorem Job.countedTime_eq : j.countedTime start stop = ((List.range (stop - start)).filter (fun k =>
    (decide (j.state = .running) && (j.heldSince.map (fun h => decide (h ≤ start + k))).getD false)
      || j.runs.any (fun y => decide (y.start ≤ start + k ∧ start + k < y.stop)))).length := by
  have counts (t : Nat) : j.counts t = ((decide (j.state = .running) && (j.heldSince.map (fun h => decide (h ≤ t))).getD false)
      || j.runs.any (fun y => decide (y.start ≤ t ∧ t < y.stop))) := by
    have state : (j.state == .running) = decide (j.state = .running) := by
      rw [Bool.eq_iff_iff, beq_iff_eq, decide_eq_true_iff]
    have since : j.heldSince.any (fun h => decide (h ≤ t)) = (j.heldSince.map (fun h => decide (h ≤ t))).getD false := by
      cases j.heldSince <;> rfl
    have runs : j.runs.any (fun y => decide (y.start ≤ t) && decide (t < y.stop)) = j.runs.any (fun y => decide (y.start ≤ t ∧ t < y.stop)) := by
      simp only [Bool.decide_and]
    rw [Job.counts, state, since, runs]
  rw [Job.countedTime, List.countP_eq_length_filter]
  simp only [counts]

/-- R142: the credit, spelled out. -/
theorem Job.credit_eq (whole t charge : Nat) : j.credit whole t charge
    = if t = 0 then 0 else if t = whole then charge else min charge ((j.rate * t + 3599) / 3600) := by
  have up : divUp (j.rate * t) 3600 = (j.rate * t + 3599) / 3600 := congrArg (· / 3600) (Nat.add_sub_assoc (by decide) _)
  rw [Job.credit, up]

/-- R144: the end reason, spelled out. -/
theorem Job.endsOn_eq (quanta : Nat) : j.endsOn x quanta =
    if j.moved = j.count then some .countDone
    else if j.mode = .untilLevel ∧ 0 < quanta ∧ x.vA ≤ x.vB + j.tolerance.getD 0 ∧ x.vB ≤ x.vA + j.tolerance.getD 0 then some .levelReached
    else if j.state = .running ∧ ((j.resolved = some .aToB ∧ 4350 ≤ x.vB) ∨ (j.resolved = some .bToA ∧ 4350 ≤ x.vA)) then some .destFull
    else if j.state = .running ∧ ((j.resolved = some .aToB ∧ x.vA < 3400) ∨ (j.resolved = some .bToA ∧ x.vB < 3400)) then some .sourceLow
    else none := by
  have level : (j.mode = .untilLevel && decide (0 < quanta) && decide (gap x.vA x.vB ≤ j.tolerance.getD 0)) = true
      ↔ j.mode = .untilLevel ∧ 0 < quanta ∧ x.vA ≤ x.vB + j.tolerance.getD 0 ∧ x.vB ≤ x.vA + j.tolerance.getD 0 := by
    rw [Bool.and_eq_true, Bool.and_eq_true, decide_eq_true_iff, decide_eq_true_iff, decide_eq_true_iff, gap]
    generalize j.tolerance.getD 0 = n
    constructor
    · rintro ⟨⟨mode, some⟩, near⟩
      exact ⟨mode, some, by omega, by omega⟩
    · rintro ⟨mode, some, above, below⟩
      exact ⟨⟨mode, some⟩, by omega⟩
  unfold Job.endsOn
  refine if_congr Iff.rfl rfl (if_congr level rfl ?_)
  cases state : j.state with
  | running =>
    cases resolved : j.resolved with
    | none => simp
    | some w => cases w <;> simp [Way.destination, Way.source, Sample.volt, Config.destinationFull, Config.supplyThreshold] <;> rfl
  | queued => simp
  | suspended => simp

end

/-! ### The engine's turn (R142 to R144) -/

section
variable {s : State} {j : Job} {rest : List Job}

/-- R142: the credit of a head in the sample that stands. -/
def creditOf (j : Job) (s : State) : Nat :=
  j.credit (s.seq.lastArrival - s.seq.prevArrival) (j.countedTime s.seq.prevArrival s.seq.lastArrival) s.sample.linkCharge

/-- R142, R143: the head with its credit. -/
def creditedHead (j : Job) (s : State) : Job := j.credited (creditOf j s) s.seq.lastArrival

/-- R128, R143: the engine once the head has its credit, a completed quantum reported. -/
def afterCredit (j : Job) (rest : List Job) (s : State) : State :=
  if j.state = .running && decide (0 < j.completed (creditOf j s)) then quantumReport (s.setQueue (creditedHead j s :: rest))
  else s.setQueue (creditedHead j s :: rest)

theorem engineSample_cons (queue : s.bal.queue = j :: rest) : engineSample s =
    match (creditedHead j s).endsOn (afterCredit j rest s).sample (j.completed (creditOf j s)) with
    | some reason => finishHead reason (afterCredit j rest s)
    | none => afterCredit j rest s := by
  unfold engineSample
  rw [queue]
  rfl

/-- R128: nothing is taken from a head that is not to yield. -/
theorem afterCredit_keeps
    (stays : ¬ (j.state = .running ∧ 0 < j.completed (creditOf j s) ∧ s.arb.yieldPending = true ∧ s.arb.link = .held .balance)) :
    afterCredit j rest s = s.setQueue (creditedHead j s :: rest) := by
  unfold afterCredit
  split
  next runs =>
    rw [Bool.and_eq_true, decide_eq_true_iff, decide_eq_true_iff] at runs
    refine if_neg fun pending => stays ?_
    rw [Bool.and_eq_true, beq_iff_eq] at pending
    exact ⟨runs.1, runs.2, pending⟩
  next => rfl

/-- R122, R128: a completed quantum takes the link where a yield is pending. -/
theorem afterCredit_yields (runs : j.state = .running) (quantum : 0 < j.completed (creditOf j s)) (pending : s.arb.yieldPending = true)
    (held : s.arb.link = .held .balance) : HeldOff (s.now + 100) (afterCredit j rest s).arb
      ∧ (afterCredit j rest s).bal = { s.bal with queue := (creditedHead j s).stops s.now .queued :: rest } := by
  have is : afterCredit j rest s = lossOf .yield .balance (s.setQueue (creditedHead j s :: rest)) := by
    unfold afterCredit
    rw [if_pos (by rw [runs, Bool.and_eq_true, decide_eq_true_iff]; exact ⟨rfl, decide_eq_true quantum⟩)]
    refine if_pos ?_
    show (s.arb.yieldPending && s.arb.link == .held .balance) = true
    rw [pending, held]
    rfl
  rw [is]
  exact yieldBalance_state (s := s.setQueue (creditedHead j s :: rest)) rfl runs

end

end Sys2Proof.Machine
end

section
/-! The engine's turn in a sample that changes no fault: O47. -/

namespace Sys2Proof.Machine

/-! ### The other blocks' parts leave the arbiter and the engine -/

/-- Between u and t the arbiter and the engine stand as they did, and channel B but for its stale mark. -/
structure SameEngine (u t : State) : Prop where
  arb : t.arb = u.arb
  bal : t.bal = u.bal
  chB : { t.chB with stale := false } = { u.chB with stale := false }

section
variable {u t v : State}

theorem SameEngine.refl (u : State) : SameEngine u u := ⟨rfl, rfl, rfl⟩

theorem SameEngine.trans (h : SameEngine u t) (k : SameEngine t v) : SameEngine u v :=
  ⟨k.arb.trans h.arb, k.bal.trans h.bal, k.chB.trans h.chB⟩

theorem SameEngine.of_reacts {E : List Effect} (k : Reacts E u t) (na : .arb ∉ E) (nl : .lock ∉ E) (nq : .queue ∉ E) (nlast : .last ∉ E)
    (nh : .hot ∉ E) (nB : .chB ∉ E) (nb : .linkB ∉ E) : SameEngine u t :=
  ⟨k.arb_eq na nl, k.bal_eq nq nlast nh, k.chB_fresh nB nb⟩

theorem trigger_sameEngine (u : State) : SameEngine u (trigger u) :=
  .of_reacts (trigger_reacts (E := [.pass]) u (by decide)) (by decide) (by decide) (by decide) (by decide) (by decide) (by decide) (by decide)

theorem inputSample_sameEngine (u : State) : SameEngine u (inputSample u) := by
  have noticed (w : State) : SameEngine w (raiseNotice .droop .main (raiseNotice .droop .input w)) :=
    .of_reacts (E := [.notice]) ((raiseNotice_reacts w (by decide) .droop .input).trans (raiseNotice_reacts _ (by decide) .droop .main))
      (by decide) (by decide) (by decide) (by decide) (by decide) (by decide) (by decide)
  have handed (w : State) : SameEngine w (handLimit w) := by
    rw [handLimit_eq]
    exact ⟨rfl, rfl, rfl⟩
  have set (w : State) (x : InputCtl) : SameEngine w (w.setInput x) := ⟨rfl, rfl, rfl⟩
  rw [inputSample_eq]
  dsimp only
  have heard := set u { u.input with reports := u.input.reports ++ [u.input.overVoltage u.sample.vIn] }
  generalize u.setInput { u.input with reports := u.input.reports ++ [u.input.overVoltage u.sample.vIn] } = w at heard ⊢
  have told := (heard.trans (set w { w.input with droopLimit := u.input.drooped, recovery := some (u.now + 30000) })).trans (noticed _)
  split
  · split
    · exact told
    · exact (told.trans (handed _)).trans (trigger_sameEngine _)
  · exact heard

/-- R14: in a sample that changes no fault, past LOADING, neither channel B nor the engine having its turn. -/
theorem receive_sameEngine {y : Receiver} (engine : y ≠ .engine) (channelB : y ≠ .channelB) {p : Protection} (same : SameSets p u.prot)
    (calm : SameSets p (p.judged u.sample)) (running : u.power.phase = .running) (order : Nat) : SameEngine u (receive order y u) := by
  cases y with
  | monitor =>
    obtain ⟨q, -, stays | entered⟩ := monitorSample_calm same calm order
    · have is : receive order .monitor u = u := stays
      rw [is]
      exact .refl u
    · have is : receive order .monitor u = trigger (u.setProt q) := entered
      have set : SameEngine u (u.setProt q) := ⟨rfl, rfl, rfl⟩
      rw [is]
      exact set.trans (trigger_sameEngine _)
  | input => exact inputSample_sameEngine u
  | channelA =>
    have reacts := commit_a_reacts (Change.sample .a u.profile u.sample u.chA) u
    exact ⟨reacts.arb_eq (by decide) (by decide), reacts.bal_eq (by decide) (by decide) (by decide), commit_a_chB _ u⟩
  | channelB => contradiction
  | engine => contradiction
  | allocator => exact trigger_sameEngine u
  | startUp =>
    have is : receive order .startUp u = u := endLoadingTest_running running
    rw [is]
    exact .refl u

/-- Channel B is not ACTIVE and asks for nothing. -/
structure Unasked (s : State) : Prop where
  idle : s.chB.state ≠ .active
  request : s.chB.request = false

theorem Unasked.congr (h : Unasked u) (same : t.chB.linkless = u.chB.linkless) : Unasked t :=
  ⟨fun active => h.idle ((congrArg Channel.state same :).symm.trans active), (congrArg Channel.request same :).trans h.request⟩

theorem SameEngine.unasked (h : SameEngine u t) (un : Unasked u) : Unasked t := un.congr (congrArg Channel.linkless h.chB :)

/-- R99, R100: channel B's part of a sample, where it is not ACTIVE and asks for nothing. -/
theorem channelSample_unasked (un : Unasked u) : SameEngine u (channelSample .b u) := by
  let y := Change.nothing u.chB
  have is : channelSample .b u = commit .b y u := by rw [channelSample, Change.sample_idle (show (u.channel .b).state ≠ _ from un.idle)]; rfl
  have changed := changedB_reacts y u
  have wantsNot : (changedB y u).chB.wantsLink (changedB y u).profile = (changedB y u).chB.request := by
    have fresh := changedB_chB y u
    have idle : (changedB y u).chB.state ≠ .active := fun active => un.idle ((congrArg Channel.state fresh :).symm.trans active)
    have request : (changedB y u).chB.request = false := (congrArg Channel.request fresh :).trans un.request
    rw [Channel.wantsLink, beq_eq_false_iff_ne.mpr idle, request]
    rfl
  have synced : syncChargeB (changedB y u) = changedB y u := if_pos wantsNot
  have settled := settleChange_reacts y u.chB.state (changedB y u)
  rw [is, commit_b_eq, synced]
  refine SameEngine.trans ⟨?_, ?_, changedB_chB y u⟩
    (.of_reacts settled (by decide) (by decide) (by decide) (by decide) (by decide) (by decide) (by decide))
  · exact changed.arb_eq (by decide) (by decide)
  · exact changed.bal_eq (by decide) (by decide) (by decide)

end

/-! ### The turn (R14) -/

section
variable {s : State} {m : RawSample} {order : Nat} (on : s.operating = true) (running : s.power.phase = .running)
  (calm : SameSets s.prot (s.prot.judged (recordSample m s).sample))
include on running calm

/-- R14: the engine's turn where CHARGE_B is not asked for; v stands before it. -/
theorem arriveSample_unasked (un : Unasked s) : ∃ v, Carries (recordSample m s) v ∧ v.arb = s.arb ∧ v.bal = s.bal
    ∧ let w := engineSample v
      let t := arriveSample m order s
      t.arb = w.arb ∧ t.bal = w.bal ∧ ∀ q k, Noticed w q k → Noticed t q k := by
  let r := recordSample m s
  suffices turn : ∃ v, Carries r v ∧ SameEngine s v ∧ SameSets s.prot (arriveSample m order s).prot ∧ Unasked (arriveSample m order s)
      ∧ (arriveSample m order s).arb = (engineSample v).arb ∧ (arriveSample m order s).bal = (engineSample v).bal
      ∧ ∀ q k, Noticed (engineSample v) q k → Noticed (arriveSample m order s) q k by
    obtain ⟨v, carried, same, -, -, arb, bal, told⟩ := turn
    exact ⟨v, carried, same.arb, same.bal, arb, bal, told⟩
  have calmAt (u : State) (carried : Carries r u) : SameSets s.prot (s.prot.judged u.sample) := by rw [carried.sample]; exact calm
  have other {y : Receiver} (ne : y ≠ .engine) (u : State) (carried : Carries r u) (sets : SameSets s.prot u.prot) (un : Unasked u) :
      SameEngine u (receive (order / 5040) y u) := by
    by_cases b : y = .channelB
    · subst b
      exact channelSample_unasked un
    · exact receive_sameEngine ne b sets (calmAt u carried) (carried.phase running) _
  refine (arriveSample_turn (s := s) (m := m) (order := order) .engine on
    (Pre := fun u => SameEngine s u ∧ SameSets s.prot u.prot)
    (Post := fun t => ∃ v, Carries r v ∧ SameEngine s v ∧ SameSets s.prot t.prot ∧ Unasked t
      ∧ t.arb = (engineSample v).arb ∧ t.bal = (engineSample v).bal ∧ ∀ q k, Noticed (engineSample v) q k → Noticed t q k)
    (fun y ne u carried ⟨same, sets⟩ => ?_) (fun u carried ⟨same, sets⟩ => ?_)
    (fun y ne u carried ⟨v, before, same, sets, still, arb, bal, told⟩ => ?_) ⟨⟨rfl, rfl, rfl⟩, .refl _⟩).2
  · exact ⟨same.trans (other ne u carried sets (same.unasked un)), receive_sameSets sets (calmAt u carried) _ _⟩
  · have sets' := receive_sameSets sets (calmAt u carried) (order / 5040) .engine
    exact ⟨u, carried, same, sets', (same.unasked un).congr ((engineSample_reacts u).chB_linkless (by decide)), rfl, rfl, fun _ _ => id⟩
  · have kept := other ne u carried sets still
    exact ⟨v, before, same, receive_sameSets sets (calmAt u carried) _ _, kept.unasked still, kept.arb.trans arb, kept.bal.trans bal,
      fun q k noticed => (Carries.receive (carried.operating on) (order / 5040) y).noticed _ _ (told q k noticed)⟩

/-- R14: the engine's turn where BALANCE holds the link; v stands before it, and what the engine brings about and channel B's
events keep stands in the end. -/
theorem arriveSample_held (held : s.arb.link = .held .balance) {Q : State → Prop}
    (keeps : ∀ {u t}, SameEngine u t → Q u → Q t) (commits : ∀ {u} y, Q u → Q (commit .b y u)) :
    ∃ v, Carries (recordSample m s) v ∧ v.arb.link = .held .balance ∧ v.bal = s.bal
    ∧ let w := engineSample v
      let t := arriveSample m order s
      (Q w → Q t) ∧ ∀ q k, Noticed w q k → Noticed t q k := by
  let r := recordSample m s
  suffices turn : ∃ v, Carries r v ∧ v.arb.link = .held .balance ∧ v.bal = s.bal ∧ SameSets s.prot (arriveSample m order s).prot
      ∧ (Q (engineSample v) → Q (arriveSample m order s))
      ∧ ∀ q k, Noticed (engineSample v) q k → Noticed (arriveSample m order s) q k by
    obtain ⟨v, carried, link, bal, -, kept, told⟩ := turn
    exact ⟨v, carried, link, bal, kept, told⟩
  have calmAt (u : State) (carried : Carries r u) : SameSets s.prot (s.prot.judged u.sample) := by rw [carried.sample]; exact calm
  refine (arriveSample_turn (s := s) (m := m) (order := order) .engine on
    (Pre := fun u => u.arb.link = .held .balance ∧ u.bal = s.bal ∧ SameSets s.prot u.prot)
    (Post := fun t => ∃ v, Carries r v ∧ v.arb.link = .held .balance ∧ v.bal = s.bal ∧ SameSets s.prot t.prot
      ∧ (Q (engineSample v) → Q t) ∧ ∀ q k, Noticed (engineSample v) q k → Noticed t q k)
    (fun y ne u carried ⟨link, bal, sets⟩ => ?_) (fun u carried ⟨link, bal, sets⟩ => ?_)
    (fun y ne u carried ⟨v, before, link, bal, sets, kept, told⟩ => ?_) ⟨held, rfl, .refl _⟩).2
  · have sets' := receive_sameSets sets (calmAt u carried) (order / 5040) y
    by_cases b : y = .channelB
    · subst b
      obtain ⟨link', bal'⟩ := commit_b_held (y := Change.sample .b u.profile u.sample u.chB) link
      exact ⟨link', bal'.trans bal, sets'⟩
    · have same := receive_sameEngine ne b sets (calmAt u carried) (carried.phase running) (order / 5040)
      exact ⟨(congrArg Arbiter.link same.arb :).trans link, same.bal.trans bal, sets'⟩
  · exact ⟨u, carried, link, bal, receive_sameSets sets (calmAt u carried) _ .engine, id, fun _ _ => id⟩
  · refine ⟨v, before, link, bal, receive_sameSets sets (calmAt u carried) _ y, fun q => ?_,
      fun q k noticed => (Carries.receive (carried.operating on) (order / 5040) y).noticed _ _ (told q k noticed)⟩
    by_cases b : y = .channelB
    · subst b
      exact commits _ (kept q)
    · exact keeps (receive_sameEngine ne b sets (calmAt u carried) (carried.phase running) (order / 5040)) (kept q)

end

end Sys2Proof.Machine
end

section
/-! O47: the head in a sample that changes no fault. -/

namespace Sys2Proof.Machine

/-! ### The engine's turn, by whether the head ends -/

section
variable {s u t v : State} {m : RawSample} {j : Job} {rest : List Job} {reason : EndReason}

/-- R142: the credit of a sample is that of the interval since the arrival before. -/
theorem creditOf_carried (carried : Carries (recordSample m s) v) :
    creditOf j v = j.credit (v.now - s.seq.lastArrival) (j.countedTime s.seq.lastArrival v.now) v.sample.linkCharge := by
  rw [creditOf, carried.now, carried.seq]
  rfl

theorem afterCredit_sample : (afterCredit j rest s).sample = s.sample := by
  unfold afterCredit
  split
  · exact Keeps.sample (quantumReport_reacts (s := s.setQueue _)).keeps
  · rfl

theorem engineSample_goesOn (queue : s.bal.queue = j :: rest) (goes : (creditedHead j s).endsOn s.sample (j.completed (creditOf j s)) = none) :
    engineSample s = afterCredit j rest s := by
  rw [engineSample_cons queue, afterCredit_sample, goes]

theorem engineSample_finishes (queue : s.bal.queue = j :: rest)
    (ends : (creditedHead j s).endsOn s.sample (j.completed (creditOf j s)) = some reason) :
    engineSample s = finishHead reason (afterCredit j rest s) := by
  rw [engineSample_cons queue, afterCredit_sample, ends]

/-- R128: a head that RUNS on the link and goes on, whether it yields or not. -/
theorem engineSample_kept (held : s.arb.link = .held .balance) (queue : s.bal.queue = j :: rest)
    (goes : (creditedHead j s).endsOn s.sample (j.completed (creditOf j s)) = none) :
    HeadKept s.bal.last (creditedHead j s) rest (engineSample s) := by
  rw [engineSample_goesOn queue goes]
  by_cases yields : j.state = .running ∧ 0 < j.completed (creditOf j s) ∧ s.arb.yieldPending = true ∧ s.arb.link = .held .balance
  · obtain ⟨runs, quantum, pending, -⟩ := yields
    obtain ⟨arb, bal⟩ := afterCredit_yields (rest := rest) runs quantum pending held
    exact ⟨arb.noGrant, by rw [bal], _, by rw [bal], rfl⟩
  · rw [afterCredit_keeps yields]
    exact ⟨.inl held, rfl, _, rfl, rfl⟩

/-- R145: a head that RUNS on the link and ends, whether it yields first or not. -/
theorem engineSample_ends (held : s.arb.link = .held .balance) (queue : s.bal.queue = j :: rest) (runs : j.state = .running)
    (ends : (creditedHead j s).endsOn s.sample (j.completed (creditOf j s)) = some reason) :
    Passes (s.now + 100) (s.bal.last.set j.originator (some { tag := j.tag, reason := reason, moved := (creditedHead j s).moved }))
      rest (engineSample s) ∧ Noticed (engineSample s) j.originator .balDone := by
  rw [engineSample_finishes queue ends]
  by_cases yields : j.state = .running ∧ 0 < j.completed (creditOf j s) ∧ s.arb.yieldPending = true ∧ s.arb.link = .held .balance
  · obtain ⟨-, quantum, pending, -⟩ := yields
    obtain ⟨arb, bal⟩ := afterCredit_yields (rest := rest) runs quantum pending held
    obtain ⟨waits, told⟩ := finishHead_passes (congrArg Balance.queue bal) reason arb
    rw [bal] at waits
    exact ⟨waits, told⟩
  · rw [afterCredit_keeps yields]
    exact endHead_gives (s := s.setQueue (creditedHead j s :: rest)) rfl startChecks_reacts reason held
      (by show j.state ≠ _; rw [runs]; nofun)

/-- R145: a head that waits within its backoff and ends by its tail's credit. -/
theorem engineSample_waitingEnds {n : Nat} (off : HeldOff n s.arb) (queue : s.bal.queue = j :: rest) (waits : j.state ≠ .running)
    (ends : (creditedHead j s).endsOn s.sample (j.completed (creditOf j s)) = some reason) :
    Passes n (s.bal.last.set j.originator (some { tag := j.tag, reason := reason, moved := (creditedHead j s).moved }))
      rest (engineSample s) ∧ Noticed (engineSample s) j.originator .balDone := by
  rw [engineSample_finishes queue ends, afterCredit_keeps fun ⟨runs, _⟩ => waits runs]
  exact finishHead_passes (s := s.setQueue (creditedHead j s :: rest)) rfl reason off

theorem HeadKept.of_sameEngine {last : PerPort (Option LastResult)} {k : Job} (same : SameEngine u t) (h : HeadKept last k rest u) :
    HeadKept last k rest t := by
  obtain ⟨noGrant, is, head⟩ := h
  exact ⟨by rw [same.arb]; exact noGrant, by rw [same.bal]; exact is, by rw [same.bal]; exact head⟩

theorem WaitsOut.of_sameEngine {n : Nat} {last : PerPort (Option LastResult)} {jobs : List Job} (same : SameEngine u t)
    (h : WaitsOut n last jobs u) : WaitsOut n last jobs t := by
  obtain ⟨arb, is, named, head⟩ := h
  exact ⟨by rw [same.arb]; exact arb, by rw [same.bal]; exact is, by rw [same.bal]; exact named, by rw [same.bal]; exact head⟩

theorem HeldOff.holder {n : Nat} {a : Arbiter} (h : HeldOff n a) : a.holder ≠ some .balance := by
  intro holds
  unfold Arbiter.holder at holds
  split at holds
  next r link =>
    rw [Option.some.inj holds] at link
    exact h.unheld link
  next => cases holds
  next => cases holds

end

/-- Settles O47: the head's credit and its first end reason, whatever the order of the blocks. -/
theorem headCredited : Obligations.HeadCredited := by
  intro s m order on sampling running j first runs unasked either
  obtain ⟨rest, queue⟩ : ∃ rest, s.bal.queue = j :: rest := ⟨_, (List.cons_head?_tail first).symm⟩
  have record := arriveSample_judged (m := m) (order := order) on
  obtain ⟨carriedT, prot, -⟩ := record
  have latest : (arriveSample m order s).seq.latest = some (recordSample m s).sample := by rw [carriedT.seq]; rfl
  refine ⟨_, exec_sampleArrival on sampling m order, (recordSample m s).sample, latest, fun cellA cellB device => ?_⟩
  rw [prot] at cellA cellB device
  have calm : SameSets s.prot (s.prot.judged (recordSample m s).sample) := ⟨cellA, cellB, device⟩
  intro start whole held tail later counted credit quanta moved near reason
  have spelled {v : State} (carried : Carries (recordSample m s) v) : creditOf j v = credit ∧ v.now = (arriveSample m order s).now
      ∧ creditedHead j v = { j with moved := moved, residue := (j.residue + credit) % 500, runs := later }
      ∧ (creditedHead j v).endsOn v.sample (j.completed (creditOf j v)) = reason := by
    have now : v.now = (arriveSample m order s).now := carried.now.trans carriedT.now.symm
    have countedIs : j.countedTime start v.now = counted := by rw [Job.countedTime_eq, now]
    have creditIs : creditOf j v = credit := by
      rw [creditOf_carried carried, Job.credit_eq, show j.countedTime s.seq.lastArrival v.now = counted from countedIs, carried.sample, now]
    have stop : v.seq.lastArrival = (arriveSample m order s).now := by rw [carried.seq, carriedT.now]; rfl
    have headIs : creditedHead j v = { j with moved := moved, residue := (j.residue + credit) % 500, runs := later } := by
      rw [creditedHead, creditIs, stop]
      rfl
    refine ⟨creditIs, now, headIs, ?_⟩
    rw [headIs, creditIs, Job.endsOn_eq, carried.sample]
    rfl
  refine ⟨fun goes => ?_, fun free waits unheld backoff r ends => ?_, fun runsNow r ends => ?_⟩
  · by_cases free : unasked
    · obtain ⟨v, carried, arbV, balV, arbT, balT, -⟩ := arriveSample_unasked (order := order) on running calm ⟨free.1, free.2⟩
      obtain ⟨creditIs, now, headIs, ends⟩ := spelled carried
      have queueV : v.bal.queue = j :: rest := by rw [balV, queue]
      rw [engineSample_goesOn queueV (ends.trans goes)] at arbT balT
      by_cases yields : j.state = .running ∧ 0 < j.completed (creditOf j v) ∧ v.arb.yieldPending = true ∧ v.arb.link = .held .balance
      · obtain ⟨runsV, quantum, pending, held⟩ := yields
        obtain ⟨arb, bal⟩ := afterCredit_yields (rest := rest) runsV quantum pending held
        rw [creditIs] at quantum
        rw [arbV] at pending held
        rw [balT, bal, balV, queue, headIs, now, arbT]
        refine ⟨rfl, rfl, _, rfl, rfl, fun _ _ => ?_, fun _ _ _ _ => arb.holder, fun _ not => absurd ⟨runsV, held⟩ not⟩
        rw [if_pos ⟨pending, quantum⟩]
        exact ⟨rfl, rfl, rfl⟩
      · rw [afterCredit_keeps yields] at arbT balT
        have stays (r : runs) (pending : s.arb.yieldPending = true) : ¬ 0 < quanta := fun quantum =>
          yields ⟨r.1, by rw [creditIs]; exact quantum, by rw [arbV]; exact pending, by rw [arbV]; exact r.2⟩
        rw [balT, State.setQueue, balV, queue, headIs]
        refine ⟨rfl, rfl, _, rfl, rfl, fun _ r => ?_, fun _ r pending quantum => absurd quantum (stays r pending), fun _ _ _ => ⟨rfl, rfl, rfl⟩⟩
        rw [if_neg fun ⟨pending, quantum⟩ => stays r pending quantum]
        exact ⟨r.1, rfl, rfl⟩
    · obtain ⟨-, link⟩ := either.resolve_right free
      obtain ⟨v, carried, held, balV, kept, -⟩ := arriveSample_held (order := order) on running calm link
        (Q := HeadKept s.bal.last { j with moved := moved, residue := (j.residue + credit) % 500, runs := later } rest)
        HeadKept.of_sameEngine fun y h => h.commit_b y
      obtain ⟨-, -, headIs, ends⟩ := spelled carried
      have before := engineSample_kept held (show v.bal.queue = j :: rest by rw [balV, queue]) (ends.trans goes)
      rw [headIs, balV] at before
      obtain ⟨-, last, k, is, named⟩ := kept before
      rw [last, is, queue]
      exact ⟨rfl, rfl, k, rfl, named, fun un => absurd un free, fun un => absurd un free, fun un => absurd un free⟩
  · obtain ⟨v, carried, arbV, balV, arbT, balT, told⟩ := arriveSample_unasked (order := order) on running calm ⟨free.1, free.2⟩
    obtain ⟨-, -, headIs, is⟩ := spelled carried
    obtain ⟨n, backoffIs⟩ := Option.ne_none_iff_exists'.mp backoff
    have off : HeldOff n v.arb := by rw [arbV]; exact ⟨unheld, backoffIs⟩
    obtain ⟨passes, noticed⟩ := engineSample_waitingEnds off (show v.bal.queue = j :: rest by rw [balV, queue]) waits (is.trans ends)
    obtain ⟨after, last, jobs, -⟩ := passes.waitsOut
    rw [headIs, balV] at last
    rw [balT, arbT, queue]
    exact ⟨told _ _ noticed, after.holder, last, tags_of_plain jobs⟩
  · obtain ⟨state, link⟩ := runsNow
    obtain ⟨v, carried, held, balV, kept, told⟩ := arriveSample_held (order := order) on running calm link
      (Q := WaitsOut ((arriveSample m order s).now + 100)
        (s.bal.last.set j.originator (some { tag := j.tag, reason := r, moved := moved })) rest)
      WaitsOut.of_sameEngine fun y h => h.commit .b y
    obtain ⟨-, now, headIs, is⟩ := spelled carried
    obtain ⟨ended, noticed⟩ := engineSample_ends held (show v.bal.queue = j :: rest by rw [balV, queue]) state (is.trans ends)
    rw [headIs, balV, now] at ended
    obtain ⟨after, last, jobs, -⟩ := kept ended.waitsOut
    rw [queue]
    exact ⟨told _ _ noticed, after.holder, last, tags_of_plain jobs, after.backoff⟩

end Sys2Proof.Machine
end

section
/-! The end of LOADING (R200), for O56. -/

namespace Sys2Proof.Machine

/-! ### The autonomous starts (R200) -/

/-- R200: the channel of cell c starts by itself as LOADING ends. -/
def StartsAlone (u : State) (c : Cell) : Prop :=
  u.settings.autoStart = true ∧ u.input.state ≠ .detached ∧ (u.prot.cell c).ov = false ∧ (u.prot.cell c).hot = false

/-- R200: the slot at which it starts. -/
def defaultSlot (c : Cell) (u : State) : Nat := if c = .a then u.settings.slotA else u.settings.slotB

section
variable {c d : Cell} {u : State}

theorem latched_iff (u : State) (c : Cell) : u.latched c = false ↔ (u.prot.cell c).ov = false ∧ (u.prot.cell c).hot = false := by
  rw [State.latched, CellFaults.latched, Bool.or_eq_false_iff]

theorem autoStart_reacts (c : Cell) (n : Nat) (u : State) : Reacts (channelEffects c) u (autoStart c n u) := by
  unfold autoStart
  split
  · exact .refl u
  · exact startChannel_reacts u c n

theorem autoStart_other (n : Nat) (ne : c ≠ d) (u : State) : ((autoStart d n u).channel c).linkless = (u.channel c).linkless := by
  unfold autoStart
  split
  · rfl
  · cases c <;> cases d
    · contradiction
    · exact (congrArg Channel.linkless (commit_b_chA _ u) :)
    · exact (congrArg Channel.linkless (commit_a_chB _ u) :)
    · contradiction

/-- R200: the starts happen where the setting is on and the input not DETACHED. -/
theorem autoStartAll_eq (on : u.settings.autoStart = true) (attached : u.input.state ≠ .detached) :
    autoStartAll u = autoStart .b u.settings.slotB (autoStart .a u.settings.slotA u) :=
  if_pos (by rw [on, Bool.true_and, bne_iff_ne]; exact attached)

theorem autoStartAll_off (off : ¬ (u.settings.autoStart = true ∧ u.input.state ≠ .detached)) : autoStartAll u = u :=
  if_neg (by rw [Bool.and_eq_true, bne_iff_ne]; exact off)

theorem autoStartAll_reacts (u : State) : Reacts blockEffects u (autoStartAll u) := by
  unfold autoStartAll
  split
  · exact ((autoStart_reacts .a _ u).mono (channelEffects_sub _)).trans ((autoStart_reacts .b _ _).mono (channelEffects_sub _))
  · exact .refl u

/-- R200: a channel that does not start by itself stays as it is, but for the link's causes. -/
theorem autoStartAll_leaves (stays : ¬ StartsAlone u c) : ((autoStartAll u).channel c).linkless = (u.channel c).linkless := by
  by_cases on : u.settings.autoStart = true ∧ u.input.state ≠ .detached
  · have latched (w : State) (same : w.prot = u.prot) : w.latched c = true := by
      rw [← Bool.not_eq_false, latched_iff, same]
      exact fun clear => stays ⟨on.1, on.2, clear⟩
    have kept (w : State) (same : w.prot = u.prot) (n : Nat) : autoStart c n w = w := if_pos (latched w same)
    rw [autoStartAll_eq on.1 on.2]
    cases c with
    | a => rw [autoStart_other (c := .a) (d := .b) _ (by decide), kept u rfl]
    | b => rw [kept _ (Keeps.prot (autoStart_reacts .a _ u).keeps), autoStart_other (c := .b) (d := .a) _ (by decide)]
  · rw [autoStartAll_off on]

/-- R200: a channel that starts by itself; w stands before its start. -/
theorem autoStartAll_starts (starts : StartsAlone u c) : ∃ w, w.profile = u.profile ∧ w.sample = u.sample
    ∧ ((autoStartAll u).channel c).linkless = ((startChannel c (defaultSlot c u) w).channel c).linkless
    ∧ ∀ q k, Noticed (startChannel c (defaultSlot c u) w) q k → Noticed (autoStartAll u) q k := by
  obtain ⟨on, attached, clear⟩ := starts
  have begun (w : State) (same : w.prot = u.prot) (n : Nat) : autoStart c n w = startChannel c n w :=
    if_neg (Bool.eq_false_iff.mp ((latched_iff w c).mpr (by rw [same]; exact clear)))
  rw [autoStartAll_eq on attached]
  cases c with
  | a =>
    rw [begun u rfl]
    exact ⟨u, rfl, rfl, autoStart_other (c := .a) (d := .b) _ (by decide) _, fun q k => (autoStart_reacts .b _ _).noticed⟩
  | b =>
    have before := autoStart_reacts .a u.settings.slotA u
    rw [begun _ (Keeps.prot before.keeps)]
    exact ⟨_, Keeps.profile before.keeps, Keeps.sample before.keeps, rfl, fun q k => id⟩

end

/-! ### The end of LOADING (R34, R41, R200) -/

/-- R34, R41, R200: the stage and the timers as LOADING ends, before the channels' starts. -/
def timersStarted (v : State) : State :=
  startDormancy .input (startDormancy .hub (startDormancy .main (takeInput v.input.limit v)))

section
variable {v : State}

theorem timersStarted_eq (v : State) : timersStarted v = { v with
    inputStage := (takeInput v.input.limit v).inputStage
    freeUses := (takeInput v.input.limit v).freeUses
    ports := {
      main := { v.ports.main with dormancy := v.dormancyFrom }
      hub := { v.ports.hub with dormancy := v.dormancyFrom }
      input := { v.ports.input with dormancy := v.dormancyFrom } } } := by
  unfold timersStarted
  rw [takeInput_eq]
  rfl

/-- What stands after LOADING has ended, whatever else the part does before its next event. -/
structure Begun (t : State) : Prop where
  target : t.inputStage.target = t.input.limit
  timers : ∀ q, (t.port q).dormancy = t.dormancyFrom

theorem Begun.congr {t u : State} (h : Begun t) (stage : u.inputStage = t.inputStage) (limit : u.input.limit = t.input.limit)
    (settings : u.settings = t.settings) (now : u.now = t.now) (timers : ∀ q, (u.port q).dormancy = (t.port q).dormancy) : Begun u :=
  ⟨by rw [stage, limit, h.target], fun q => by rw [timers, h.timers, State.dormancyFrom, State.dormancyFrom, settings, now]⟩

/-- R34: the timers stand as the end of LOADING started them. -/
theorem Reacts.timers {E : List Effect} {t u : State} (k : Reacts E t u) (h : ∀ q, (t.port q).dormancy = t.dormancyFrom) (q : Port) :
    (u.port q).dormancy = u.dormancyFrom := by
  have outer : u.outer = t.outer := k.keeps
  have settings : u.settings = t.settings := (congrArg State.settings outer :)
  have now : u.now = t.now := (congrArg State.now outer :)
  rw [State.dormancyFrom, settings, now]
  exact (congrArg PortState.dormancy (Keeps.port k.keeps q) :).trans (h q)

theorem Begun.reacts {E : List Effect} {t u : State} (h : Begun t) (k : Reacts E t u) : Begun u := by
  have outer : u.outer = t.outer := k.keeps
  have stage : u.inputStage = t.inputStage := (congrArg State.inputStage outer :)
  have input : u.input = t.input := (congrArg State.input outer :)
  exact ⟨by rw [stage, input, h.target], k.timers h.timers⟩

theorem timersStarted_begun (v : State) : Begun (timersStarted v) := by
  rw [timersStarted_eq]
  exact ⟨takeInput_target v _, fun q => by cases q <;> rfl⟩

/-- R200: LOADING has ended, and READY has gone to every port, but the pass is not triggered. -/
def loadingEnded (v : State) : State :=
  raiseAll .ready ((autoStartAll (timersStarted v)).setPower { (autoStartAll (timersStarted v)).power with phase := .running })

theorem raiseAll_reacts (k : Notice) (u : State) : Reacts [.notice] u (raiseAll k u) :=
  (raiseMainHub_reacts u (by decide) k).trans (raiseNotice_reacts _ (by decide) k .input)

theorem loadingEnded_carries (v : State) : Carries v (loadingEnded v) := by
  have timed : Carries v (timersStarted v) := by
    rw [timersStarted_eq]
    exact ⟨id, rfl, id, rfl, rfl, rfl, rfl, rfl, rfl, fun q k told => by cases q <;> exact told, fun _ computing => ⟨computing, id⟩⟩
  have runs (u : State) : Carries u (u.setPower { u.power with phase := .running }) :=
    ⟨fun _ => rfl, rfl, id, rfl, rfl, rfl, rfl, rfl, rfl, fun _ _ => id, fun _ computing => ⟨computing, id⟩⟩
  exact ((timed.trans (.of_reacts (autoStartAll_reacts _))).trans (runs _)).trans (.of_reacts (raiseAll_reacts .ready _))

theorem loadingEnded_running (v : State) : (loadingEnded v).power.phase = .running := rfl

theorem endLoading_reacts (v : State) : Reacts [.pass] (loadingEnded v) (endLoading v) := trigger_reacts _ (by decide)

theorem endLoading_running (v : State) : (endLoading v).power.phase = .running :=
  (Keeps.phase (endLoading_reacts v).keeps).trans (loadingEnded_running v)

theorem endLoading_wanted (on : v.operating = true) : PassWanted v (endLoading v) :=
  (loadingEnded_carries v).pass.passWanted (loadingEnded_running v) ((loadingEnded_carries v).operating on)

theorem endLoading_begun (v : State) : Begun (endLoading v) := by
  have started := (timersStarted_begun v).reacts (autoStartAll_reacts _)
  have running : Begun ((autoStartAll (timersStarted v)).setPower { (autoStartAll (timersStarted v)).power with phase := .running }) :=
    started.congr rfl rfl rfl rfl fun _ => rfl
  exact (running.reacts (raiseAll_reacts .ready _)).reacts (endLoading_reacts v)

theorem endLoading_ready (v : State) (q : Port) : Noticed (endLoading v) q .ready := by
  refine (endLoading_reacts v).noticed ?_
  have kept (p : Port) (u : State) : Noticed u q .ready → Noticed (raiseNotice .ready p u) q .ready := raiseNotice_keepsNoticed _ _ _ _ _
  cases q with
  | main => exact kept .input _ (kept .hub _ (raiseNotice_noticed .ready .main _))
  | hub => exact kept .input _ (raiseNotice_noticed .ready .hub _)
  | input => exact raiseNotice_noticed .ready .input _

/-- R200: what the end of LOADING leaves alone. -/
theorem endLoading_outer (v : State) : let t := endLoading v
    t.outer = { v.outer with power := t.outer.power, inputStage := t.inputStage, freeUses := t.outer.freeUses, ports := t.outer.ports } := by
  have ended : (endLoading v).outer = (loadingEnded v).outer := (endLoading_reacts v).keeps
  have told : (loadingEnded v).outer = ((autoStartAll (timersStarted v)).setPower
    { (autoStartAll (timersStarted v)).power with phase := .running }).outer := (raiseAll_reacts .ready _).keeps
  have started : (autoStartAll (timersStarted v)).outer = (timersStarted v).outer := (autoStartAll_reacts _).keeps
  have timed : (timersStarted v).outer = { v.outer with
    inputStage := (timersStarted v).inputStage, ports := (timersStarted v).outer.ports } := by
    rw [timersStarted_eq]
    rfl
  have running (u : State) : (u.setPower { u.power with phase := .running }).outer
    = { u.outer with power := { u.outer.power with phase := .running } } := rfl
  rw [running, started, timed] at told
  intro t
  have stage : t.inputStage = (timersStarted v).inputStage := (congrArg State.inputStage (ended.trans told) :)
  rw [show t.outer = _ from ended.trans told, stage]

/-! ### The channels as LOADING ends (R200) -/

variable {c : Cell}

theorem endLoading_linkless (v : State) : ((endLoading v).channel c).linkless = ((autoStartAll (timersStarted v)).channel c).linkless := by
  have ended : Reacts [.notice, .pass] ((autoStartAll (timersStarted v)).setPower
      { (autoStartAll (timersStarted v)).power with phase := .running }) (endLoading v) :=
    ((raiseAll_reacts .ready _).mono (by decide)).trans ((endLoading_reacts v).mono (by decide))
  cases c with
  | a => exact (congrArg Channel.linkless (ended.chA_fresh (by decide)) :)
  | b => exact ended.chB_linkless (by decide)

theorem timersStarted_startsAlone : StartsAlone (timersStarted v) c ↔ StartsAlone v c := by rw [timersStarted_eq]; exact Iff.rfl

theorem endLoading_leaves (stays : ¬ StartsAlone v c) : ((endLoading v).channel c).linkless = (v.channel c).linkless := by
  rw [endLoading_linkless, autoStartAll_leaves (mt timersStarted_startsAlone.mp stays), timersStarted_eq]
  cases c <;> rfl

/-- R200: w stands before the channel's start. -/
theorem endLoading_starts (starts : StartsAlone v c) : ∃ w, w.profile = v.profile ∧ w.sample = v.sample
    ∧ ((endLoading v).channel c).linkless = ((startChannel c (defaultSlot c v) w).channel c).linkless
    ∧ ∀ q k, Noticed (startChannel c (defaultSlot c v) w) q k → Noticed (endLoading v) q k := by
  obtain ⟨w, profile, sample, same, told⟩ := autoStartAll_starts (timersStarted_startsAlone.mpr starts)
  have slot : defaultSlot c (timersStarted v) = defaultSlot c v := by rw [timersStarted_eq]; rfl
  rw [slot] at same told
  refine ⟨w, profile.trans (by rw [timersStarted_eq]), sample.trans (by rw [timersStarted_eq]; rfl), endLoading_linkless v ▸ same,
    fun q k noticed => ?_⟩
  exact (endLoading_reacts v).noticed ((raiseAll_reacts .ready _).noticed (told q k noticed))

/-- R106, R200: a channel that starts in a step. -/
theorem endLoading_stays (starts : StartsAlone v c) (step : (v.profile.getD (defaultSlot c v) StepRecord.ended).kind ≠ .endStep)
    (stays : ¬ (v.profile.getD (defaultSlot c v) StepRecord.ended).PassesAt (v.sample.volt c)) :
    let t := endLoading v
    (t.channel c).state = .active ∧ (t.channel c).slot = some (defaultSlot c v) ∧ (t.channel c).timer = 0 ∧ (t.channel c).run = 0
      ∧ Noticed t .main .chStep ∧ Noticed t .hub .chStep := by
  obtain ⟨w, profile, sample, same, told⟩ := endLoading_starts starts
  obtain ⟨state, slot, -, timer, run, -, -, -, -, -, -, -, -, -, main, hub⟩ := startChannel_stays (c := c) (slot := defaultSlot c v) (u := w)
    (k := 0) (fun _ none => nomatch List.mem_range.mp none) (by decide) (by rw [profile]; exact step) (by rw [profile, sample]; exact stays)
  exact ⟨(congrArg Channel.state same :).trans state, (congrArg Channel.slot same :).trans slot, (congrArg Channel.timer same :).trans timer,
    (congrArg Channel.run same :).trans run, told _ _ main, told _ _ hub⟩

/-- R105, R200: a channel whose default slot holds END. -/
theorem endLoading_ends (starts : StartsAlone v c) (ends : (v.profile.getD (defaultSlot c v) StepRecord.ended).kind = .endStep) :
    let t := endLoading v
    (t.channel c).state = .done ∧ (t.channel c).slot = some (defaultSlot c v) ∧ Noticed t .main .chEnd ∧ Noticed t .hub .chEnd := by
  obtain ⟨w, profile, -, same, told⟩ := endLoading_starts starts
  obtain ⟨state, slot, -, -, -, main, hub⟩ := startChannel_ends (c := c) (slot := defaultSlot c v) (u := w)
    (k := 0) (fun _ none => nomatch List.mem_range.mp none) (by decide) (by rw [profile]; exact ends)
  exact ⟨(congrArg Channel.state same :).trans state, (congrArg Channel.slot same :).trans slot, told _ _ main, told _ _ hub⟩

end

end Sys2Proof.Machine
end

section
/-! A sample arrival in LOADING (R199, R200), for O56. -/

namespace Sys2Proof.Machine

/-! ### What goes on in LOADING (R67, R199) -/

/-- Between s and u the part stays in LOADING: the copy and the line stand, no pass starts, and no IDLE channel leaves IDLE. -/
structure StaysLoading (s u : State) : Prop where
  phase : u.power.phase = .loading
  copied : u.power.copied = s.power.copied
  line : u.power.rstnLow = s.power.rstnLow
  alloc : u.alloc = s.alloc
  idle : ∀ c, (s.channel c).state = .idle → (u.channel c).state = .idle

theorem Touches.alloc_loading {e : Effect} {u t : State} (h : Touches e u t) (loading : u.power.phase = .loading) : t.alloc = u.alloc := by
  by_cases pass : e = .pass
  · subst pass
    cases h
    rw [trigger_ignored u (.inl loading)]
  · exact h.alloc_eq pass

theorem Reacts.alloc_loading {E : List Effect} {u t : State} (k : Reacts E u t) (loading : u.power.phase = .loading) : t.alloc = u.alloc := by
  have both : t.power.phase = .loading ∧ t.alloc = u.alloc := by
    refine k.rel (fun u t => u.power.phase = .loading → t.power.phase = .loading ∧ t.alloc = u.alloc) (fun _ l => ⟨l, rfl⟩)
      (fun _ _ _ f g l => ?_) (fun e _ v w touch l => ?_) loading
    · obtain ⟨l', first⟩ := f l
      obtain ⟨l'', second⟩ := g l'
      exact ⟨l'', second.trans first⟩
    · exact ⟨(Keeps.phase touch.outer).trans l, touch.alloc_loading l⟩
  exact both.2

namespace StaysLoading
variable {s u t : State}

theorem congr (h : StaysLoading s u) (power : t.power = { u.power with state := t.power.state, holdOff := t.power.holdOff })
    (alloc : t.alloc = u.alloc) (chA : t.chA = u.chA) (chB : t.chB = u.chB) : StaysLoading s t :=
  ⟨by rw [power]; exact h.phase, by rw [power]; exact h.copied, by rw [power]; exact h.line, alloc.trans h.alloc, fun c idle => by
    cases c with
    | a => exact (congrArg Channel.state chA).trans (h.idle .a idle)
    | b => exact (congrArg Channel.state chB).trans (h.idle .b idle)⟩

theorem of_keeps (h : StaysLoading s u) (keeps : Keeps u t) (alloc : t.alloc = u.alloc)
    (idle : ∀ c, (u.channel c).state = .idle → (t.channel c).state = .idle) : StaysLoading s t := by
  have outer : t.outer = u.outer := keeps
  exact ⟨(Keeps.phase keeps).trans h.phase, (congrArg (fun v => v.power.copied) outer :).trans h.copied,
    (congrArg (fun v => v.power.rstnLow) outer :).trans h.line, alloc.trans h.alloc, fun c was => idle c (h.idle c was)⟩

theorem reacts {E : List Effect} (h : StaysLoading s u) (k : Reacts E u t) (nA : .chA ∉ E) (nB : .chB ∉ E) : StaysLoading s t := by
  refine h.of_keeps k.keeps (k.alloc_loading h.phase) fun c idle => ?_
  cases c with
  | a => exact (congrArg Channel.state (k.chA_fresh nA) :).trans idle
  | b => exact (congrArg Channel.state (k.chB_linkless nB) :).trans idle

theorem commit (h : StaysLoading s u) (d : Cell) {y : Change} (keeps : y.KeepsIdle (u.channel d)) : StaysLoading s (commit d y u) := by
  have reacts := commit_reacts u d y
  refine h.of_keeps reacts.keeps (reacts.alloc_loading h.phase) fun c idle => ?_
  have own (same : c = d) : ((Machine.commit d y u).channel c).state = .idle := by
    subst same
    exact (congrArg Channel.state (commit_linkless c y u) :).trans (keeps idle)
  cases c <;> cases d
  · exact own rfl
  · exact (congrArg Channel.state (commit_b_chA y u) :).trans idle
  · exact (congrArg Channel.state (commit_a_chB y u) :).trans idle
  · exact own rfl

theorem takeReport (h : StaysLoading s u) (x : FaultReport) : StaysLoading s (takeReport x u) := by
  have hot (b : Bool) : StaysLoading s (u.setEngineHot b) := h.congr rfl rfl rfl rfl
  match x with
  | .cellToChannel c => exact h.commit c Change.keepsIdle_cellFault
  | .cellToEngine => exact h.reacts (endAll_reacts _ u) (by decide) (by decide)
  | .dieHot true (.channel c) => exact h.commit c (Change.keepsIdle_withReasons _)
  | .dieHot false (.channel c) => exact h.commit c (Change.keepsIdle_withReasons _)
  | .dieHot true .engine => exact (hot true).reacts (suspendHead_reacts _) (by decide) (by decide)
  | .dieHot false .engine => exact (hot false).reacts (releaseHead_reacts _) (by decide) (by decide)
  | .linkToArbiter => exact h.reacts (lockLink_reacts u) (by decide) (by decide)
  | .linkToEngine => exact h.reacts (linkFaultToEngine_reacts u) (by decide) (by decide)

theorem enterFaults (h : StaysLoading s u) (new : Protection) : StaysLoading s (enterFaults new u) := by
  have ended : StaysLoading s (raiseIf (u.prot.cellA.uv && !new.cellA.uv) endAllowance (u.setProt new)) := by
    unfold raiseIf
    split
    · exact h.congr rfl rfl rfl rfl
    · exact h.congr rfl rfl rfl rfl
  unfold Machine.enterFaults
  generalize raiseIf (u.prot.cellA.uv && !new.cellA.uv) endAllowance (u.setProt new) = v at ended ⊢
  unfold raiseIf
  split
  · rw [tellRaise_eq]
    exact ended.congr rfl rfl rfl rfl
  · exact ended

theorem trigger (h : StaysLoading s u) : StaysLoading s (trigger u) := by
  rw [trigger_ignored u (.inl h.phase)]
  exact h

theorem inputSample (h : StaysLoading s u) : StaysLoading s (inputSample u) := by
  have handed {v : State} (hv : StaysLoading s v) : StaysLoading s (handLimit v) := by
    rw [handLimit_eq]
    exact hv.congr rfl rfl rfl rfl
  have cut (x : InputCtl) : StaysLoading s (raiseNotice .droop .main (raiseNotice .droop .input (u.setInput x))) := h.congr rfl rfl rfl rfl
  rw [inputSample_eq]
  dsimp only
  split
  · split
    · exact cut _
    · exact (handed (cut _)).trigger
  · exact h.congr rfl rfl rfl rfl

/-- R199: every block's part of a sample in LOADING but the start-up control's. -/
theorem receive (h : StaysLoading s u) {y : Receiver} (other : y ≠ .startUp ∨ u.loaded = false) (order : Nat) :
    StaysLoading s (receive order y u) := by
  cases y with
  | monitor =>
    show StaysLoading s (monitorSample order u)
    unfold monitorSample
    dsimp only
    split
    · exact h
    · refine trigger ?_
      exact foldl_preserves (P := StaysLoading s) (fun v x => Machine.takeReport x v) _ (fun x _ _ hv => hv.takeReport x) _ (h.enterFaults _)
  | input => exact h.inputSample
  | channelA => exact h.commit .a (Change.keepsIdle_sample _)
  | channelB => exact h.commit .b (Change.keepsIdle_sample _)
  | engine => exact h.reacts (engineSample_reacts u) (by decide) (by decide)
  | allocator => exact h.trigger
  | startUp =>
    have stays : Machine.receive order .startUp u = u := if_neg (Bool.eq_false_iff.mp (other.resolve_left fun ne => ne rfl))
    rw [stays]
    exact h

/-- R200: LOADING can end exactly when the copy, a sample and a released line all stand. -/
theorem loaded_iff (h : StaysLoading s u) : u.loaded = true ↔ s.power.copied = true ∧ s.power.rstnLow = false ∧ u.seq.latest ≠ none := by
  rw [State.loaded, h.phase, h.copied, h.line]
  simp [Option.isSome_iff_ne_none, and_comm, and_left_comm]

end StaysLoading

/-- R200: a sample that does not end LOADING. -/
theorem arriveSample_staysLoading {s : State} (m : RawSample) (order : Nat) (loading : s.power.phase = .loading)
    (incomplete : s.power.copied = false ∨ s.power.rstnLow = true) : StaysLoading s (arriveSample m order s) := by
  refine foldl_preserves (P := StaysLoading s) _ _ (fun x _ u h => h.receive (.inr (Bool.eq_false_iff.mpr fun loaded => ?_)) _) _
    ⟨loading, rfl, rfl, rfl, fun c idle => by cases c <;> exact idle⟩
  obtain ⟨copied, line, -⟩ := h.loaded_iff.mp loaded
  rcases incomplete with uncopied | low
  · exact nomatch copied.symm.trans uncopied
  · exact nomatch low.symm.trans line

end Sys2Proof.Machine
end

section
/-! O56: the end of LOADING by the copy, by the line and by a sample. -/

namespace Sys2Proof.Machine

/-! ### What stands once LOADING has ended (R34, R41) -/

section
variable {u : State}

theorem enterFaults_settings (new : Protection) (u : State) :
    (enterFaults new u).settings = u.settings ∧ (enterFaults new u).now = u.now
      ∧ ∀ q, ((enterFaults new u).port q).dormancy = (u.port q).dormancy := by
  have told (v : State) : (tellRaise v).settings = v.settings ∧ (tellRaise v).now = v.now
      ∧ ∀ q, ((tellRaise v).port q).dormancy = (v.port q).dormancy := by
    rw [tellRaise_eq]
    exact ⟨rfl, rfl, fun q => by cases q <;> rfl⟩
  have ended (b : Bool) (v : State) : raiseIf b endAllowance v = { v with pathA := (raiseIf b endAllowance v).pathA } := by cases b <;> rfl
  unfold enterFaults
  rw [ended]
  generalize (raiseIf (u.prot.cellA.uv && !new.cellA.uv) endAllowance (u.setProt new)).pathA = path
  cases u.prot.gains new
  · exact ⟨rfl, rfl, fun _ => rfl⟩
  · exact told _

/-- R34, R41: no block's part of a sample upsets what the end of LOADING has set. -/
theorem Begun.receive (h : Begun u) (running : u.power.phase = .running) (order : Nat) (y : Receiver) : Begun (receive order y u) := by
  cases y with
  | monitor =>
    show Begun (monitorSample order u)
    unfold monitorSample
    dsimp only
    split
    · exact h
    · obtain ⟨input, stage⟩ := enterFaults_input (u.prot.judged u.sample) u
      obtain ⟨settings, now, timers⟩ := enterFaults_settings (u.prot.judged u.sample) u
      have entered : Begun (enterFaults (u.prot.judged u.sample) u) := h.congr stage (by rw [input]) settings now timers
      exact (entered.reacts (takeReports_reacts _ _)).reacts (trigger_reacts (E := [.pass]) _ (by decide))
  | input =>
    show Begun (inputSample u)
    rw [inputSample_eq]
    extract_lets _ told _ cut v
    have heard : Begun told := h.congr rfl rfl rfl rfl fun _ => rfl
    have noticed : Reacts [.notice] cut v :=
      (raiseNotice_reacts cut (by decide) .droop .input).trans (raiseNotice_reacts _ (by decide) .droop .main)
    have timers := noticed.timers (t := cut) h.timers
    have phase : v.power.phase = .running := running
    have stage : v.inputStage = u.inputStage := rfl
    have limit : v.input.limit = if u.input.state.drawing then u.input.drooped else 0 := rfl
    clear_value v told
    split
    · split
      next same => exact ⟨by rw [stage, limit, same]; exact h.target, timers⟩
      next =>
        refine Begun.reacts ?_ (trigger_reacts (E := [.pass]) _ (by decide))
        have target := takeInput_target v v.input.limit
        rw [handLimit_running v phase]
        rw [takeInput_eq] at target ⊢
        exact ⟨target, timers⟩
    · exact heard
  | channelA => exact h.reacts (channelSample_reacts u .a)
  | channelB => exact h.reacts (channelSample_reacts u .b)
  | engine => exact h.reacts (engineSample_reacts u)
  | allocator => exact h.reacts (trigger_reacts (E := [.pass]) u (by decide))
  | startUp =>
    have stays : Machine.receive order .startUp u = u := endLoadingTest_running running
    rw [stays]
    exact h

theorem receive_inputState (order : Nat) (y : Receiver) (u : State) : (receive order y u).input.state = u.input.state := by
  have kept {E : List Effect} {v w : State} (k : Reacts E v w) : w.input.state = v.input.state :=
    (congrArg (fun x => x.input.state) (show w.outer = v.outer from k.keeps) :)
  cases y with
  | monitor =>
    show (monitorSample order u).input.state = _
    unfold monitorSample
    dsimp only
    split
    · rfl
    · refine (kept (trigger_reacts (E := [.pass]) _ (by decide))).trans ((kept (takeReports_reacts _ _)).trans ?_)
      exact congrArg InputCtl.state (enterFaults_input _ u).1
  | input =>
    show (inputSample u).input.state = _
    rw [inputSample_eq]
    dsimp only
    split
    · split
      · rfl
      · have same (v : State) : (trigger (handLimit v)).input.state = v.input.state := by
          have outer : (trigger (handLimit v)).outer = (handLimit v).outer := trigger_outer _
          refine (congrArg (fun w => w.input.state) outer :).trans ?_
          rw [handLimit_eq]
          rfl
        exact same _
    · rfl
  | channelA => exact kept (channelSample_reacts u .a)
  | channelB => exact kept (channelSample_reacts u .b)
  | engine => exact kept (engineSample_reacts u)
  | allocator => exact kept (trigger_reacts (E := [.pass]) u (by decide))
  | startUp =>
    show (if u.loaded then endLoading u else u).input.state = _
    split
    · exact (congrArg (fun w => w.input.state) (endLoading_outer u) :)
    · rfl

end

/-! ### A channel as a sample ends LOADING (R102, R103, R106, R200) -/

/-- R200: what the autonomous start has made of a channel that was IDLE in s; the channel that started in a step is p. -/
structure Launched (c : Cell) (p : Channel → Prop) (s u : State) : Prop where
  stays : ¬ StartsAlone s c → (u.channel c).state = .idle
  steps : StartsAlone s c → (s.profile.getD (defaultSlot c s) StepRecord.ended).kind ≠ .endStep →
    ¬ (s.profile.getD (defaultSlot c s) StepRecord.ended).PassesAt (u.sample.volt c) →
    (u.channel c).state = .active ∧ (u.channel c).slot = some (defaultSlot c s) ∧ p (u.channel c)
      ∧ Noticed u .main .chStep ∧ Noticed u .hub .chStep
  ends : StartsAlone s c → (s.profile.getD (defaultSlot c s) StepRecord.ended).kind = .endStep →
    (u.channel c).state = .done ∧ (u.channel c).slot = some (defaultSlot c s) ∧ Noticed u .main .chEnd ∧ Noticed u .hub .chEnd

/-- A step just entered: its timer and its run stand at zero. -/
def Channel.Fresh (ch : Channel) : Prop := ch.timer = 0 ∧ ch.run = 0

section
variable {c : Cell} {p : Channel → Prop} {s u t : State} {m : RawSample} {order : Nat}

theorem Launched.congr (h : Launched c p s u) (carried : Carries u t) (same : (t.channel c).linkless = (u.channel c).linkless)
    (blind : ∀ {a b : Channel}, a.linkless = b.linkless → p b → p a) : Launched c p s t where
  stays starts := (congrArg Channel.state same :).trans (h.stays starts)
  steps starts step passes := by
    obtain ⟨state, slot, is, main, hub⟩ := h.steps starts step (by rw [← carried.sample]; exact passes)
    exact ⟨(congrArg Channel.state same :).trans state, (congrArg Channel.slot same :).trans slot, blind same is,
      carried.noticed _ _ main, carried.noticed _ _ hub⟩
  ends starts step := by
    obtain ⟨state, slot, main, hub⟩ := h.ends starts step
    exact ⟨(congrArg Channel.state same :).trans state, (congrArg Channel.slot same :).trans slot, carried.noticed _ _ main,
      carried.noticed _ _ hub⟩

theorem Channel.Fresh.congr {a b : Channel} (same : a.linkless = b.linkless) (h : b.Fresh) : a.Fresh :=
  ⟨(congrArg Channel.timer same :).trans h.1, (congrArg Channel.run same :).trans h.2⟩

/-- R200: the end of LOADING starts the channel. -/
theorem endLoading_launched (settings : u.settings = s.settings) (profile : u.profile = s.profile) (input : u.input.state = s.input.state)
    (sets : SameSets s.prot u.prot) (idle : (u.channel c).state = .idle) : Launched c Channel.Fresh s (endLoading u) := by
  have starts : StartsAlone u c ↔ StartsAlone s c := by
    have cell : u.prot.cell c = s.prot.cell c := by
      cases c with
      | a => exact sets.cellA
      | b => exact sets.cellB
    unfold StartsAlone
    rw [settings, input, cell]
  have slotIs : defaultSlot c u = defaultSlot c s := by rw [defaultSlot, defaultSlot, settings]
  have sample : (endLoading u).sample = u.sample := (Carries.endLoading u).sample
  refine ⟨fun no => ?_, fun yes step passes => ?_, fun yes step => ?_⟩
  · exact (congrArg Channel.state (endLoading_leaves (mt starts.mp no)) :).trans idle
  · rw [← slotIs, ← profile] at step passes
    rw [← slotIs]
    obtain ⟨state, slot, timer, run, noticed⟩ := endLoading_stays (starts.mpr yes) step (by rw [← sample]; exact passes)
    exact ⟨state, slot, ⟨timer, run⟩, noticed⟩
  · rw [← slotIs, ← profile] at step
    rw [← slotIs]
    exact endLoading_ends (starts.mpr yes) step

/-- R102, R103: the sample at which a step is entered holds no exit that its entry did not, and no timeout. -/
theorem entered_stays {ch : Channel} {profile : List StepRecord} {x : Sample} (fresh : ch.Fresh)
    (passes : ¬ (ch.step profile).PassesAt (x.volt c)) :
    exitHolds (ch.step profile) (x.volt c) (ch.timerAt c profile x) (ch.runAt c profile x) = false
      ∧ timeoutHolds (ch.step profile) (ch.timerAt c profile x) = false := by
  obtain ⟨timer, run⟩ := fresh
  have timed : ch.timerAt c profile x ≤ 1 := by
    unfold Channel.timerAt
    rw [timer]
    split <;> decide
  have counted : ch.runAt c profile x ≤ 1 := by
    unfold Channel.runAt
    rw [run]
    split
    · split <;> decide
    · decide
  refine ⟨Bool.eq_false_iff.mpr fun exit => passes ?_, Bool.eq_false_iff.mpr fun late => ?_⟩
  · rcases (exitHolds_iff ..).mp exit with ⟨kind, volt⟩ | ⟨-, runs⟩ | ⟨kind, due⟩ | ⟨kind, volt⟩
    · exact .inl ⟨kind, volt⟩
    · omega
    · exact .inr (.inr ⟨kind, by omega⟩)
    · exact .inr (.inl ⟨kind, volt⟩)
  · obtain ⟨-, some, late⟩ := (timeoutHolds_iff ..).mp late
    omega

/-- R14: the channel's own turn after its start. -/
theorem channelSample_launched (h : Launched c Channel.Fresh s u) (profile : u.profile = s.profile) :
    Launched c (fun _ => True) s (channelSample c u) := by
  let y := Change.sample c u.profile u.sample (u.channel c)
  have after := commit_linkless c y u
  have carried : Carries u (channelSample c u) := .of_reacts (channelSample_reacts u c)
  have stateIs : ((channelSample c u).channel c).state = y.ch.state := (congrArg Channel.state after :)
  have slotIs : ((channelSample c u).channel c).slot = y.ch.slot := (congrArg Channel.slot after :)
  have rests (idle : (u.channel c).state ≠ .active) : y.ch = u.channel c := by
    show (Change.sample ..).ch = _
    rw [Change.sample_idle idle]
    rfl
  refine ⟨fun no => ?_, fun yes step passes => ?_, fun yes step => ?_⟩
  · have idle := h.stays no
    rw [stateIs, rests (by rw [idle]; nofun), idle]
  · rw [carried.sample] at passes
    obtain ⟨state, slot, fresh, main, hub⟩ := h.steps yes step passes
    have own : (u.channel c).step u.profile = s.profile.getD (defaultSlot c s) StepRecord.ended := by
      rw [Channel.step, slot, profile]
      rfl
    obtain ⟨exit, late⟩ := entered_stays (c := c) (x := u.sample) (profile := u.profile) fresh (by rw [own]; exact passes)
    have is : y = (Change.reasons (u.channel c) ((u.channel c).observe c u.profile u.sample)).recorded :=
      Change.sample_stays state exit late
    have observed := Channel.observe_eq (c := c) (profile := u.profile) (x := u.sample) state
    refine ⟨stateIs.trans ?_, slotIs.trans ?_, trivial, carried.noticed _ _ main, carried.noticed _ _ hub⟩
    · rw [is]
      exact (congrArg Channel.state observed).trans state
    · rw [is]
      exact (congrArg Channel.slot observed).trans slot
  · obtain ⟨state, slot, main, hub⟩ := h.ends yes step
    rw [stateIs, slotIs, rests (by rw [state]; nofun)]
    exact ⟨state, slot, carried.noticed _ _ main, carried.noticed _ _ hub⟩

/-- R14: past LOADING, in a sample that changes no fault, the other blocks leave a channel but for the link's causes. -/
theorem receive_linkless {y : Receiver} (ne : y ≠ channelOf c) {q : Protection} (same : SameSets q u.prot) (calm : SameSets q (q.judged u.sample))
    (running : u.power.phase = .running) (order : Nat) : ((receive order y u).channel c).linkless = (u.channel c).linkless := by
  cases c with
  | a => exact (congrArg Channel.linkless (receive_sameChannel ne same calm running order nofun).fresh :)
  | b =>
    by_cases engine : y = .engine
    · subst engine
      exact (engineSample_reacts u).chB_linkless (by decide)
    · exact (congrArg Channel.linkless (receive_sameEngine engine ne same calm running order).chB :)

/-- R200: a channel that was IDLE, as a sample that changes no fault ends LOADING. -/
theorem arriveSample_launched (on : s.operating = true) (loading : s.power.phase = .loading) (copied : s.power.copied = true)
    (line : s.power.rstnLow = false) (idle : (s.channel c).state = .idle)
    (calm : SameSets s.prot (s.prot.judged (recordSample m s).sample)) (ended : (arriveSample m order s).power.phase = .running) :
    Launched c (fun _ => True) s (arriveSample m order s) := by
  let r := recordSample m s
  have calmAt (u : State) (carried : Carries r u) : SameSets s.prot (s.prot.judged u.sample) := by rw [carried.sample]; exact calm
  -- In LOADING the channel is IDLE yet; past it the channel is as its start has made it.
  have other (p : Channel → Prop) (blind : ∀ {a b : Channel}, a.linkless = b.linkless → p b → p a) (fresh : ∀ {a}, a.Fresh → p a)
      (y : Receiver) (ne : y ≠ channelOf c) (u : State) (carried : Carries r u) (sets : SameSets s.prot u.prot)
      (input : u.input.state = s.input.state) (h : StaysLoading s u ∨ (u.power.phase = .running ∧ Launched c p s u)) :
      StaysLoading s (receive (order / 5040) y u)
        ∨ ((receive (order / 5040) y u).power.phase = .running ∧ Launched c p s (receive (order / 5040) y u)) := by
    rcases h with loads | ⟨running, launched⟩
    · by_cases own : y = .startUp
      · subst own
        have loaded : u.loaded = true := loads.loaded_iff.mpr ⟨copied, line, by rw [carried.seq]; nofun⟩
        have is : receive (order / 5040) .startUp u = endLoading u := if_pos loaded
        rw [is]
        obtain ⟨stays, steps, ends⟩ := endLoading_launched (c := c) carried.settings carried.profile input sets (loads.idle c idle)
        exact .inr ⟨endLoading_running u, stays, fun yes step passes =>
          let ⟨state, slot, new, noticed⟩ := steps yes step passes
          ⟨state, slot, fresh new, noticed⟩, ends⟩
      · exact .inl (loads.receive (.inl own) _)
    · have on' : Carries u (receive (order / 5040) y u) := .receive (carried.operating on) _ y
      exact .inr ⟨on'.phase running, launched.congr on' (receive_linkless ne sets (calmAt u carried) running _) blind⟩
  have both := (arriveSample_turn (s := s) (m := m) (order := order) (channelOf c) on
    (Pre := fun u => SameSets s.prot u.prot ∧ u.input.state = s.input.state
      ∧ (StaysLoading s u ∨ (u.power.phase = .running ∧ Launched c Channel.Fresh s u)))
    (Post := fun u => SameSets s.prot u.prot ∧ u.input.state = s.input.state
      ∧ (StaysLoading s u ∨ (u.power.phase = .running ∧ Launched c (fun _ => True) s u)))
    (fun y ne u carried ⟨sets, input, h⟩ => ⟨receive_sameSets sets (calmAt u carried) _ y, (receive_inputState _ y u).trans input,
      other _ Channel.Fresh.congr id y ne u carried sets input h⟩)
    (fun u carried ⟨sets, input, h⟩ => ⟨receive_sameSets sets (calmAt u carried) _ _, (receive_inputState _ _ u).trans input, ?_⟩)
    (fun y ne u carried ⟨sets, input, h⟩ => ⟨receive_sameSets sets (calmAt u carried) _ y, (receive_inputState _ y u).trans input,
      other _ (fun _ => id) (fun _ => trivial) y ne u carried sets input h⟩)
    ⟨.refl _, rfl, .inl ⟨loading, rfl, rfl, rfl, fun d idle => by cases d <;> exact idle⟩⟩).2
  · obtain ⟨-, -, loads | ⟨-, launched⟩⟩ := both
    · exact nomatch ended.symm.trans loads.phase
    · exact launched
  · rcases h with loads | ⟨running, launched⟩
    · exact .inl (loads.receive (.inl (by cases c <;> nofun)) _)
    · have own := channelSample_launched launched carried.profile
      have carriedOn : Carries u (channelSample c u) := .of_reacts (channelSample_reacts u c)
      cases c with
      | a => exact .inr ⟨carriedOn.phase running, own⟩
      | b => exact .inr ⟨carriedOn.phase running, own⟩

end

end Sys2Proof.Machine
end

section
/-! O56: the copy, the line and the sample end LOADING. -/

namespace Sys2Proof.Machine

/-! ### The copy (R199) -/

theorem stepKindOf_eq : ∀ n, ([StepKind.precharge, .current, .voltage, .topoff, .rest, .endStep][n]?) = stepKindOf n
  | 0 | 1 | 2 | 3 | 4 | 5 => rfl
  | _ + 6 => rfl

theorem recordedStep_eq (r : RawStep) : recordedStep r = judgeStep r := by
  rw [recordedStep, stepKindOf_eq]
  cases named : stepKindOf r.kind with
  | none =>
    rw [judgeStep, named]
    rfl
  | some k =>
    by_cases passes : PassesAs k r
    · rw [judgeStep_passes named passes]
      exact if_pos passes
    · rw [judgeStep_fails named passes]
      exact if_neg passes

/-- R199: profile memory as the copy loads it, record by record. -/
theorem loadProfile_eq (image : List RawStep) : loadProfile image = (List.range 48).map (fun n => ((image[n]?).bind recordedStep).getD
    { kind := .endStep, current := 0, volt := 0, endCurrent := 0, duration := 0, timeout := 0, cold := 0, hot := 0, next := 0 }) := by
  refine List.map_congr_left fun n _ => ?_
  unfold loadStep
  cases image[n]? with
  | none => rfl
  | some r => exact congrArg (·.getD StepRecord.ended) (recordedStep_eq r).symm

theorem loadSettings_eq (x : Settings) : loadSettings x = { dormancy := min x.dormancy 60, tenure := max 250 (min x.tenure 8000)
                                                            autoStart := x.autoStart, slotA := min x.slotA 47, slotB := min x.slotB 47 } := by
  rw [loadSettings, clampNat, Nat.min_comm 8000]

/-! ### The settled account -/

section
variable {s v t : State} {m : RawSample} {order : Nat}

/-- R41: the stage's target, spelled out. -/
theorem Begun.target_eq (h : Begun t) :
    t.inputStage.target = if t.input.state = .dflt ∨ t.input.state = .contracted then t.input.droopLimit else 0 :=
  h.target.trans t.input.limit_eq

/-- R34, R41, R106, R200: what LOADING's end comes to outside a sample. -/
theorem endLoadingTest_loaded (loaded : v.loaded = true) : endLoadingTest v = endLoading v := if_pos loaded

theorem endLoadingTest_stays (stays : v.loaded = false) : endLoadingTest v = v := if_neg (Bool.eq_false_iff.mp stays)

theorem loaded_iff_ready (loading : v.power.phase = .loading) :
    v.loaded = true ↔ v.power.copied = true ∧ v.power.rstnLow = false ∧ v.seq.latest ≠ none :=
  (⟨loading, rfl, rfl, rfl, fun _ => id⟩ : StaysLoading v v).loaded_iff

/-- R200: a sample that ends LOADING. -/
theorem arriveSample_endsLoading (on : s.operating = true) (loading : s.power.phase = .loading) (copied : s.power.copied = true)
    (line : s.power.rstnLow = false) : let t := arriveSample m order s
    t.power.phase = .running ∧ PassWanted s t ∧ Begun t ∧ ∀ q, Noticed t q .ready := by
  let r := recordSample m s
  have first : StaysLoading s r := ⟨loading, rfl, rfl, rfl, fun d idle => by cases d <;> exact idle⟩
  have turn := (arriveSample_turn (s := s) (m := m) (order := order) .startUp on (Pre := StaysLoading s)
    (Post := fun t => Wanted r t ∧ Begun t ∧ ∀ q, Noticed t q .ready)
    (fun y ne u _ loads => loads.receive (.inl ne) _) (fun u carried loads => ?_)
    (fun y ne u carried ⟨wanted, begun, ready⟩ =>
      ⟨wanted.receive _ y, begun.receive wanted.running _ y, fun q => (Carries.receive (carried.operating on) _ y).noticed _ _ (ready q)⟩) first).2
  · obtain ⟨wanted, begun, ready⟩ := turn
    exact ⟨wanted.running, wanted.wanted, begun, ready⟩
  · have loaded : u.loaded = true := loads.loaded_iff.mpr ⟨copied, line, by rw [carried.seq]; nofun⟩
    have is : receive (order / 5040) .startUp u = endLoading u := endLoadingTest_loaded loaded
    have wanted : PassWanted r (endLoading u) := by
      have own := endLoading_wanted (carried.operating on)
      rwa [PassWanted, loads.alloc] at own
    rw [is]
    exact ⟨⟨(Carries.endLoading u).operating (carried.operating on), endLoading_running u, wanted⟩, endLoading_begun u, endLoading_ready u⟩

end

/-- Settles O56: the end of LOADING is one account, whichever event brings it. -/
theorem loadingEnds : Obligations.LoadingEnds := by
  intro s m order on loading x copied released ready timer starts ended
  have settled (v : State) (on : v.operating = true) : ended v (endLoading v) := by
    have outer := endLoading_outer v
    have begun := endLoading_begun v
    have input : (endLoading v).input = v.input := (congrArg State.input outer :)
    have dormancy : (endLoading v).dormancyFrom = timer v := by
      have settings : (endLoading v).settings = v.settings := (congrArg State.settings outer :)
      have now : (endLoading v).now = v.now := (congrArg State.now outer :)
      rw [State.dormancyFrom, settings, now]
    refine ⟨endLoading_running v, endLoading_wanted on, ?_, fun q _ => ⟨(begun.timers q).trans dormancy, endLoading_ready v q⟩,
      fun c _ => ⟨fun no => ?_, fun yes step stays => ?_, fun yes step => endLoading_ends yes step⟩, outer⟩
    · rw [begun.target_eq, input]
    · have same := endLoading_leaves (v := v) (c := c) no
      exact ⟨(congrArg Channel.state same :), (congrArg Channel.slot same :)⟩
    · obtain ⟨state, slot, -, -, noticed⟩ := endLoading_stays (v := v) (c := c) yes step
        (mt (passesAt_iff _ _).mp (Bool.eq_false_iff.mp stays))
      exact ⟨state, slot, noticed⟩
  have finished : finishCopy s = copied := by
    rw [finishCopy, loadProfile_eq, loadSettings_eq]
  have copies (fresh : s.power.copied = false) : exec .copyComplete s = .next (endLoadingTest copied) := by
    rw [← finished]
    exact congrArg Host.Outcome.next (if_pos (by rw [on, loading, fresh]; rfl))
  have releases : exec .rstnRelease s = .next (endLoadingTest released) := congrArg Host.Outcome.next (if_pos on)
  refine ⟨fun fresh not => ?_, fun fresh is => ?_, fun not => ?_, fun is => ?_, fun sampling => ?_⟩
  · rw [copies fresh, endLoadingTest_stays (Bool.eq_false_iff.mpr (mt (loaded_iff_ready (v := copied) loading).mp not))]
  · exact ⟨_, (copies fresh).trans (congrArg _ (endLoadingTest_loaded ((loaded_iff_ready (v := copied) loading).mpr is))), settled copied on⟩
  · rw [releases, endLoadingTest_stays (Bool.eq_false_iff.mpr (mt (loaded_iff_ready (v := released) loading).mp not))]
  · exact ⟨_, releases.trans (congrArg _ (endLoadingTest_loaded ((loaded_iff_ready (v := released) loading).mpr is))), settled released on⟩
  refine ⟨_, exec_sampleArrival on sampling m order, fun incomplete => ?_, fun complete line => ?_⟩
  · obtain ⟨phase, -, -, alloc, idle⟩ := arriveSample_staysLoading m order loading incomplete
    exact ⟨phase, alloc, fun c _ => idle c⟩
  · obtain ⟨running, wanted, begun, readied⟩ := arriveSample_endsLoading (m := m) (order := order) on loading complete line
    obtain ⟨carried, prot, -⟩ := arriveSample_judged (m := m) (order := order) on
    refine ⟨running, wanted, begun.target_eq, fun q _ => ⟨begun.timers q, readied q⟩, fun cellA cellB device c _ => ?_⟩
    rw [prot] at cellA cellB device
    have launched (idle : (s.channel c).state = .idle) :=
      arriveSample_launched (m := m) (order := order) on loading complete line idle ⟨cellA, cellB, device⟩ running
    refine ⟨fun no idle => (launched idle).stays no, fun yes idle step stays => ?_, fun yes idle step => (launched idle).ends yes step⟩
    obtain ⟨state, slot, -, noticed⟩ := (launched idle).steps yes step stays
    exact ⟨state, slot, noticed⟩

end Sys2Proof.Machine
end

section
/-! What the start checks may make of the queue (R139, R145), for O9. -/

namespace Sys2Proof.Machine

/-! ### An operation of the arbiter and the grant it may end in (R119 to R126) -/

namespace LinkRules
variable {P Q : State → Prop} (rules : LinkRules P) (weaken : ∀ {s}, P s → Q s)
  (calm : ∀ {s t}, Reacts calmEffects s t → Q s → Q t) {f : State → State}
  (answers : ∀ s, P s → s.arb.link = .held .balance → Q (f s)) {s : State} {r : Requester}
include rules weaken calm answers

/-- R121: what the engine makes of a grant comes after all that P tells of. -/
theorem grantLink_then (h : P s) (unheld : s.arb.Unheld) (chosen : s.arb.choose = some r) : Q (Machine.grantLink f r s) := by
  have granted := rules.grants h unheld chosen
  have reports {u : State} (hu : Q u) : Q (trigger (reportLink u)) :=
    calm (((reportLink_reacts u).mono (by decide)).trans (trigger_reacts _ (by decide))) hu
  cases r with
  | supply => exact reports (weaken granted)
  | chargeB => exact reports (weaken granted)
  | balance =>
    refine reports (answers _ granted ?_)
    exact (congrArg Arbiter.link (grantTaken_arb .balance s)).trans rfl

theorem chooseFree_then (h : P s) (free : s.arb.link = .free) : Q (Machine.chooseFree f s) := by
  unfold Machine.chooseFree
  split
  next chosen =>
    split
    · exact rules.grantLink_then weaken calm answers h (.inl free) chosen
    · exact weaken h
  next => exact weaken h

theorem endChangeover_then (h : P s) (link : s.arb.link = .changeover) : Q (Machine.endChangeover f s) := by
  unfold Machine.endChangeover
  split
  next chosen => exact rules.grantLink_then weaken calm answers h (.inr link) chosen
  next => exact calm ((reportLink_reacts _).mono (by decide)) (weaken (rules.frees h link))

theorem loseLink_then {cause : LossCause} (h : P (lossTaken r (cause != .withdrawal) s)) : Q (Machine.loseLink f cause r s) := by
  have lost := rules.afterLoss_of h
  rw [loseLink_eq]
  split
  · exact rules.endChangeover_then weaken calm answers lost (afterLoss_unheld cause r s)
  · exact weaken lost

theorem startYield_then (h : P s) (held : s.arb.link = .held r) : Q (Machine.startYield f r s) := by
  cases r with
  | chargeB =>
    refine rules.loseLink_then weaken calm answers (r := .chargeB) (cause := .yield) ?_
    exact rules.loses h held
  | balance =>
    show Q (s.setArb { s.arb with yieldPending := true })
    exact weaken (rules.pends h)
  | supply => exact weaken h

theorem raiseLink_then (h : P s) (asks : P (asked r s)) : Q (Machine.raiseLink f r s) := by
  unfold Machine.raiseLink
  split
  next => exact weaken h
  next =>
    dsimp only
    split
    next free => exact rules.chooseFree_then weaken calm answers asks free
    next holder held =>
      have yields (b : Bool) : Q (if b then Machine.startYield f holder (asked r s) else asked r s) := by
        split
        · exact rules.startYield_then weaken calm answers asks held
        · exact weaken asks
      cases r with
      | supply => exact rules.loseLink_then weaken calm answers (cause := .preemption) (rules.loses asks held)
      | chargeB => exact yields _
      | balance => exact yields _
    next => exact weaken asks

theorem withdrawLink_then (gives : P (lossTaken r false s)) (waitsNot : P (unasked r s)) : Q (Machine.withdrawLink f r s) := by
  by_cases held : s.arb.link = .held r
  · rw [withdrawLink_held f held]
    exact rules.loseLink_then weaken calm answers gives
  · rw [withdrawLink_unheld f held]
    exact weaken waitsNot

end LinkRules

/-! ### A property of the engine alone, and what the grant makes of it (R99, R122, R139) -/

/-- A property of the engine alone that reports of losses keep. -/
structure BalRules (P : State → Prop) : Prop where
  same : ∀ {s t}, P s → t.bal = s.bal → P t
  told : ∀ {s cause}, P s → P (reportLossToEngine cause s)

namespace BalRules
variable {P Q : State → Prop} (rules : BalRules P) {s t : State}
include rules

theorem reacts {E : List Effect} (k : Reacts E s t) (nq : .queue ∉ E) (nlast : .last ∉ E) (nh : .hot ∉ E) (h : P s) : P t :=
  rules.same h (k.bal_eq nq nlast nh)

theorem linkRules : LinkRules P :=
  .of_blind (fun k => rules.reacts k (by decide) (by decide) (by decide))
    (fun h => rules.reacts (linkFollow_reacts _) (by decide) (by decide) (by decide) h) (fun h _ _ => rules.same h rfl)
    (fun h _ => rules.same h rfl) (fun h _ => rules.same h rfl) (fun h => rules.same h rfl) rules.told

theorem lost (h : P s) (r : Requester) (stands : Bool) : P (lossTaken r stands s) := by
  have followed := rules.linkRules.follows (rules.same (t := s.setArb (s.arb.lost s.now r stands)) h rfl)
  unfold lossTaken
  dsimp only
  split
  · exact rules.reacts (reportToB_reacts _ _) (by decide) (by decide) (by decide) followed
  · exact followed

variable (weaken : ∀ {s}, P s → Q s) (calm : ∀ {s t}, Reacts (.monitor :: calmEffects) s t → Q s → Q t)
  {f : State → State} (answers : ∀ s, P s → s.arb.link = .held .balance → Q (f s))
include weaken calm answers

theorem raiseLink_then (h : P s) (r : Requester) : Q (raiseLink f r s) :=
  rules.linkRules.raiseLink_then weaken (fun k => calm (k.mono (by decide))) answers h (rules.same h rfl)

theorem withdrawLink_then (h : P s) (r : Requester) : Q (withdrawLink f r s) :=
  rules.linkRules.withdrawLink_then weaken (fun k => calm (k.mono (by decide))) answers (rules.lost h r false) (rules.same h rfl)

omit answers in
/-- R99: an event of a channel. -/
theorem commit_then (answers : ∀ s, P s → s.arb.link = .held .balance → Q (startChecks s)) (h : P s) (c : Cell) (y : Change) :
    Q (commit c y s) := by
  have placed : P (s.setChannel c y.ch) := rules.same h (by cases c <;> rfl)
  cases c with
  | a => exact weaken (rules.reacts (commit_a_reacts y s) (by decide) (by decide) (by decide) placed)
  | b =>
    have synced (u : State) (hu : P u) : Q (syncChargeB u) := by
      have requests (b : Bool) : P { u with chB := { u.chB with request := b } } := rules.same hu rfl
      unfold syncChargeB
      dsimp only
      split
      · exact weaken hu
      · split
        · exact rules.raiseLink_then weaken calm answers (requests _) .chargeB
        · exact rules.withdrawLink_then weaken calm answers (requests _) .chargeB
    rw [commit_b_eq]
    exact calm ((settleChange_reacts y _ _).mono (by decide))
      (synced _ (rules.reacts (changedB_reacts y s) (by decide) (by decide) (by decide) placed))

end BalRules

/-! ### At most one job ends (R129, R139, R145) -/

/-- The last results and the jobs are these. -/
structure JobsStand (last : PerPort (Option LastResult)) (jobs : List Job) (s : State) : Prop where
  last : s.bal.last = last
  jobs : s.bal.queue.map Job.plain = jobs.map Job.plain

/-- R139: the end reasons of the start checks. -/
abbrev startReasons : List EndReason := [.levelReached, .destFull, .sourceLow]

/-- The last results and the jobs are these, or the first of the jobs has ended at its start checks and BALANCE waits out its
backoff. -/
def JobsTried (last : PerPort (Option LastResult)) (jobs : List Job) (s : State) : Prop :=
  JobsStand last jobs s ∨ ∃ j rest, jobs = j :: rest ∧ ∃ r ∈ startReasons, ∃ n,
    WaitsOut n (last.set j.originator (some { tag := j.tag, reason := r, moved := j.moved })) rest s

section
variable {last : PerPort (Option LastResult)} {jobs : List Job} {s t : State}

theorem JobsStand.of_bal (h : JobsStand last jobs s) (bal : t.bal = s.bal) : JobsStand last jobs t :=
  ⟨by rw [bal]; exact h.last, by rw [bal]; exact h.jobs⟩

theorem JobsStand.reacts {E : List Effect} (h : JobsStand last jobs s) (k : Reacts E s t) (nq : .queue ∉ E) (nlast : .last ∉ E) :
    JobsStand last jobs t := ⟨(k.last_eq nlast).trans h.last, by rw [k.queue_eq nq]; exact h.jobs⟩

theorem JobsTried.reacts {E : List Effect} (h : JobsTried last jobs s) (k : Reacts E s t) (na : .arb ∉ E) (nl : .lock ∉ E) (nq : .queue ∉ E)
    (nlast : .last ∉ E) : JobsTried last jobs t := by
  obtain stands | ⟨j, rest, is, r, reason, n, waits⟩ := h
  · exact .inl (stands.reacts k nq nlast)
  · exact .inr ⟨j, rest, is, r, reason, n, waits.reacts k na nl nq nlast⟩

theorem jobsStandRules (last : PerPort (Option LastResult)) (jobs : List Job) : BalRules (JobsStand last jobs) where
  same h bal := h.of_bal bal
  told {s cause} h := by
    rw [reportLossToEngine_eq]
    exact ⟨h.last, (lossQueue_plain cause s.now _).trans h.jobs⟩

theorem startCheck_reason {j : Job} {x : Sample} {r : EndReason} (ends : j.startCheck x = .inr r) : r ∈ startReasons := by
  unfold Job.startCheck at ends
  split at ends
  · cases ends
    decide
  · split at ends
    · cases ends
      decide
    · split at ends
      · cases ends
        decide
      · cases ends

/-- R139: a head that is granted the link RUNS, or ends. -/
theorem JobsStand.startChecks (h : JobsStand last jobs s) (held : s.arb.link = .held .balance) : JobsTried last jobs (startChecks s) := by
  unfold Machine.startChecks
  split
  next => exact .inl h
  next j rest queue =>
    have plain := h.jobs
    rw [queue] at plain
    split
    next queued =>
      split
      next way _ =>
        have named : JobsStand last jobs (s.setQueue (headRuns j way s.now :: rest)) := ⟨h.last, plain⟩
        exact .inl ((jobsStandRules last jobs).linkRules.follows named)
      next r check =>
        obtain ⟨passes, -⟩ := endHead_gives queue (f := id) (fun u => .refl u) r held (by rw [queued]; nofun)
        have waits := passes.waitsOut
        cases jobs with
        | nil => exact nomatch plain
        | cons k more =>
          obtain ⟨head, tail⟩ := List.cons.inj plain
          have originator : j.originator = k.originator := (congrArg Job.originator head :)
          have tag : j.tag = k.tag := (congrArg Job.tag head :)
          have moved : j.moved = k.moved := (congrArg Job.moved head :)
          rw [h.last, originator, tag, moved] at waits
          exact .inr ⟨k, more, rfl, r, startCheck_reason check, s.now + 100, waits.arb, waits.last, waits.jobs.trans tail, waits.head⟩
    next => exact .inl h

theorem JobsTried.calm (k : Reacts (.monitor :: calmEffects) s t) (h : JobsTried last jobs s) : JobsTried last jobs t :=
  h.reacts k (by decide) (by decide) (by decide) (by decide)

theorem JobsTried.raiseReq (h : JobsTried last jobs s) (r : Requester) : JobsTried last jobs (raiseReq r s) := by
  obtain stands | ⟨j, rest, is, e, reason, n, waits⟩ := h
  · exact (jobsStandRules last jobs).raiseLink_then .inl JobsTried.calm (fun _ h held => h.startChecks held) stands r
  · exact .inr ⟨j, rest, is, e, reason, n, waits.raiseReq r⟩

theorem JobsStand.withdrawReq (h : JobsStand last jobs s) (r : Requester) : JobsTried last jobs (withdrawReq r s) :=
  (jobsStandRules last jobs).withdrawLink_then .inl JobsTried.calm (fun _ h held => h.startChecks held) h r

/-- R138: the next job becomes the head, and may be granted the link. -/
theorem JobsStand.newHead (h : JobsStand last jobs s) : JobsTried last jobs (newHead Machine.startChecks s) := by
  unfold Machine.newHead
  split
  next => exact .inl h
  next k more queue =>
    have plain := h.jobs
    rw [queue] at plain
    have named (st : JobState) : JobsStand last jobs (s.setQueue ({ k with state := st } :: more)) := ⟨h.last, plain⟩
    split
    · exact JobsTried.raiseReq (.inl (named .queued)) .balance
    · exact .inl (named .suspended)

/-- R141: the head is released, and waits out the backoff. -/
theorem WaitsOut.releaseHead {n : Nat} (h : WaitsOut n last jobs s) : WaitsOut n last jobs (releaseHead s) := by
  unfold Machine.releaseHead
  split
  next => exact h
  next k more queue =>
    have plain := h.jobs
    rw [queue] at plain
    split
    · have named : WaitsOut n last jobs (s.setQueue ({ k with state := .queued } :: more)) :=
        ⟨h.arb, h.last, plain, fun i head => by obtain rfl := Option.some.inj head; nofun⟩
      exact named.raiseReq .balance
    · exact h

/-- R141: the head is released, and may be granted the link. -/
theorem JobsTried.releaseHead (h : JobsTried last jobs s) : JobsTried last jobs (releaseHead s) := by
  obtain stands | ⟨j, rest, is, e, reason, n, waits⟩ := h
  · unfold Machine.releaseHead
    split
    next => exact .inl stands
    next k more queue =>
      have plain := stands.jobs
      rw [queue] at plain
      have named : JobsStand last jobs (s.setQueue ({ k with state := .queued } :: more)) := ⟨stands.last, plain⟩
      split
      · exact JobsTried.raiseReq (.inl named) .balance
      · exact .inl stands
  · exact .inr ⟨j, rest, is, e, reason, n, waits.releaseHead⟩

/-- R99: an event of a channel. -/
theorem JobsTried.commit (h : JobsTried last jobs s) (c : Cell) (y : Change) : JobsTried last jobs (commit c y s) := by
  obtain stands | ⟨j, rest, is, e, reason, n, waits⟩ := h
  · exact (jobsStandRules last jobs).commit_then .inl JobsTried.calm (fun _ h held => h.startChecks held) stands c y
  · exact .inr ⟨j, rest, is, e, reason, n, waits.commit c y⟩

/-- R161, R164: the hold ends. -/
theorem JobsTried.leaveHold (h : JobsTried last jobs s) (p : Port) (order : Nat) : JobsTried last jobs (leaveHold p order false s) := by
  have held (u : State) (hu : JobsTried last jobs u) (x : HoldCtl) : JobsTried last jobs (u.setHold x) := by
    obtain stands | ⟨j, rest, is, e, reason, n, waits⟩ := hu
    · exact .inl (stands.of_bal rfl)
    · exact .inr ⟨j, rest, is, e, reason, n, waits.arb, waits.last, waits.jobs, waits.head⟩
  have listens (l : Listener) (u : State) (hu : JobsTried last jobs u) : JobsTried last jobs (holdEnded l u) := by
    cases l with
    | channel c => exact hu.commit c _
    | engine => exact hu.releaseHead
  have left : JobsTried last jobs (leftHold p s) := held s h _
  by_cases others : otherHolders p s = []
  · rw [leaveHold_last others]
    refine JobsTried.reacts ?_ (monitorTest_reacts (E := [.monitor]) _ (by decide)) (by decide) (by decide) (by decide) (by decide)
    exact foldl_preserves (P := JobsTried last jobs) (fun s l => holdEnded l s) _ (fun l _ u hu => listens l u hu) _ (held _ left _)
  · rw [leaveHold_others others]
    exact left

end

end Sys2Proof.Machine
end

section
/-! PORT_RESET (R189): O9. -/

namespace Sys2Proof.Machine

/-! ### The engine's share (R150) -/

theorem PerPort.set_comm {α : Type} {x : PerPort α} {p q : Port} (ne : q ≠ p) (v w : α) : (x.set q v).set p w = (x.set p w).set q v := by
  cases q <;> cases p <;> first | rfl | contradiction

section
variable {last : PerPort (Option LastResult)} {jobs : List Job} {p : Port} {s t x u : State}

theorem JobsTried.congr (h : JobsTried last jobs s) (arb : t.arb = s.arb) (bal : t.bal = s.bal) : JobsTried last jobs t := by
  obtain stands | ⟨j, rest, is, r, reason, n, off, results, plain, rests⟩ := h
  · exact .inl (stands.of_bal bal)
  · exact .inr ⟨j, rest, is, r, reason, n, by rw [arb]; exact off, by rw [bal]; exact results, by rw [bal]; exact plain, by rw [bal]; exact rests⟩

theorem JobsTried.newHead (h : JobsTried last jobs s) : JobsTried last jobs (newHead startChecks s) := by
  obtain stands | ⟨j, rest, is, r, reason, n, off, results, plain, -⟩ := h
  · exact stands.newHead
  · obtain ⟨off', results', plain', rests'⟩ := (newHead_passes startChecks off).waitsOut
    exact .inr ⟨j, rest, is, r, reason, n, off', results'.trans results, plain'.trans plain, rests'⟩

/-- The jobs of the other ports. -/
def jobsOfOthers (p : Port) (q : List Job) : List Job := q.filter (fun j => j.originator != p)

theorem jobsOfOthers_plain (p : Port) (q : List Job) :
    (jobsOfOthers p q).map Job.plain = (q.map Job.plain).filter (fun j => j.originator != p) := by
  rw [List.filter_map]
  rfl

theorem jobsOfOthers_congr {q : List Job} (same : q.map Job.plain = jobs.map Job.plain) :
    (jobsOfOthers p q).map Job.plain = (jobsOfOthers p jobs).map Job.plain := by
  rw [jobsOfOthers_plain, jobsOfOthers_plain, same]

/-- R150: the jobs and the last result as the engine takes its share. -/
def withoutJobs (p : Port) (s : State) : State :=
  s.setBal { s.bal with queue := jobsOfOthers p s.bal.queue, last := s.bal.last.set p (resetResult p s.bal.queue) }

theorem enginePortReset_other (ne : ∀ j ∈ s.bal.queue.head?, j.originator ≠ p) : enginePortReset p s = withoutJobs p s := by
  unfold enginePortReset
  dsimp only
  split
  next => rfl
  next j rest queue => exact if_neg (ne j (by rw [queue]; rfl))

theorem enginePortReset_own {j : Job} {rest : List Job} (queue : s.bal.queue = j :: rest) (own : j.originator = p) : enginePortReset p s
    = queueEmptied (newHead startChecks (if j.state = .suspended then withoutJobs p s else withdrawReq .balance (withoutJobs p s))) := by
  unfold enginePortReset
  dsimp only
  split
  next empty => exact nomatch queue.symm.trans empty
  next k more is =>
    obtain ⟨rfl, rfl⟩ := List.cons.inj (queue.symm.trans is)
    exact if_pos own

theorem JobsTried.queueEmptied (h : JobsTried last jobs s) : JobsTried last jobs (queueEmptied s) :=
  h.reacts (queueEmptied_reacts (E := [.monitor]) s (by decide)) (by decide) (by decide) (by decide) (by decide)

/-- R150: the engine's share where no job has ended before. -/
theorem JobsStand.enginePortReset (h : JobsStand last jobs s) :
    JobsTried (last.set p (resetResult p s.bal.queue)) (jobsOfOthers p jobs) (enginePortReset p s) := by
  have kept : JobsStand (last.set p (resetResult p s.bal.queue)) (jobsOfOthers p jobs) (withoutJobs p s) :=
    ⟨congrArg (PerPort.set · p _) h.last, jobsOfOthers_congr h.jobs⟩
  by_cases own : ∃ j rest, s.bal.queue = j :: rest ∧ j.originator = p
  · obtain ⟨j, rest, queue, own⟩ := own
    rw [enginePortReset_own queue own]
    refine JobsTried.queueEmptied (JobsTried.newHead ?_)
    split
    · exact .inl kept
    · exact kept.withdrawReq .balance
  · rw [enginePortReset_other fun j head same => own ⟨j, s.bal.queue.tail, (List.cons_head?_tail head).symm, same⟩]
    exact .inl kept

/-- R150: a head that does not run leaves no result. -/
theorem resetResult_none {q : List Job} (rests : ∀ j ∈ q.head?, j.originator = p → j.state ≠ .running) : resetResult p q = none := by
  cases q with
  | nil => rfl
  | cons j rest =>
    refine if_neg fun runs => ?_
    rw [Bool.and_eq_true, decide_eq_true_iff, decide_eq_true_iff] at runs
    exact rests j rfl runs.1 runs.2

/-- R150: the engine's share where a job has ended at its start checks before. -/
theorem WaitsOut.enginePortReset {n : Nat} (h : WaitsOut n last jobs s) :
    WaitsOut n (last.set p none) (jobsOfOthers p jobs) (enginePortReset p s) := by
  have none : resetResult p s.bal.queue = none := resetResult_none fun j head _ => h.head j head
  have results : (withoutJobs p s).bal.last = last.set p Option.none := by
    show s.bal.last.set p (resetResult p s.bal.queue) = _
    rw [none, h.last]
  by_cases own : ∃ j rest, s.bal.queue = j :: rest ∧ j.originator = p
  · obtain ⟨j, rest, queue, own⟩ := own
    let w := if j.state = .suspended then withoutJobs p s else Machine.withdrawReq .balance (withoutJobs p s)
    have withdrawn : HeldOff n w.arb ∧ w.bal = (withoutJobs p s).bal := by
      unfold w
      split
      · exact ⟨h.arb, rfl⟩
      · rw [Machine.withdrawReq, withdrawLink_unheld startChecks (s := withoutJobs p s) h.arb.unheld]
        exact ⟨⟨h.arb.unheld, h.arb.backoff⟩, rfl⟩
    obtain ⟨off, bal⟩ := withdrawn
    have headed := (newHead_passes (s := w) startChecks off).waitsOut
    rw [bal, results] at headed
    obtain ⟨arb, is, plain, rests⟩ := headed.reacts (queueEmptied_reacts (E := [.monitor]) _ (by decide)) (by decide) (by decide) (by decide)
      (by decide)
    rw [enginePortReset_own queue own]
    exact ⟨arb, is, plain.trans (jobsOfOthers_congr h.jobs), rests⟩
  · have other : ∀ j ∈ s.bal.queue.head?, j.originator ≠ p := fun j head same =>
      own ⟨j, s.bal.queue.tail, (List.cons_head?_tail head).symm, same⟩
    rw [enginePortReset_other other]
    refine ⟨h.arb, results, jobsOfOthers_congr h.jobs, fun j head => ?_⟩
    have same : (withoutJobs p s).bal.queue.head? = s.bal.queue.head? := by
      show (jobsOfOthers p s.bal.queue).head? = _
      cases queue : s.bal.queue with
      | nil => rfl
      | cons k rest =>
        rw [jobsOfOthers, List.filter_cons_of_pos (by rw [bne_iff_ne]; exact other k (by rw [queue]; rfl)), List.head?_cons,
          List.head?_cons]
    rw [same] at head
    exact h.head j head

/-- R150: the engine's share, whatever has come of the hold before. -/
theorem JobsTried.enginePortReset (h : JobsTried last jobs s) :
    JobsTried (last.set p (resetResult p s.bal.queue)) (jobsOfOthers p jobs) (enginePortReset p s) := by
  obtain stands | ⟨j, rest, rfl, r, reason, n, waits⟩ := h
  · exact stands.enginePortReset
  · have none : resetResult p s.bal.queue = none := resetResult_none fun i head _ => waits.head i head
    have after := waits.enginePortReset (p := p)
    rw [none]
    by_cases own : j.originator = p
    · have jobs : jobsOfOthers p (j :: rest) = jobsOfOthers p rest := List.filter_cons_of_neg (by rw [bne_iff_ne]; exact not_not.mpr own)
      rw [own, PerPort.set_set] at after
      rw [jobs]
      exact .inl ⟨after.last, after.jobs⟩
    · have jobs : jobsOfOthers p (j :: rest) = j :: jobsOfOthers p rest := List.filter_cons_of_pos (by rw [bne_iff_ne]; exact own)
      rw [PerPort.set_comm own] at after
      exact .inr ⟨j, _, jobs, r, reason, n, after⟩

end

end Sys2Proof.Machine
end

section
/-! PORT_RESET (R189): O9, the shares together. -/

namespace Sys2Proof.Machine

/-! ### What every share keeps (R38, R59, R150, R164) -/

/-- Between u and x blocks have taken their shares of a PORT_RESET of port p. -/
structure Sharing (p : Port) (u x : State) : Prop where
  outer : x.outer = { u.outer with table := x.table, ceilings := x.ceilings, hold := x.outer.hold }
  power : x.power = u.power
  seq : x.seq = u.seq
  pass : PassGoesOn u x
  holders : ∀ q, q ≠ p → (x.holder q).quiet = (u.holder q).quiet
  tags : x.bal.tagCounter = u.bal.tagCounter
  hot : x.bal.dieHot = u.bal.dieHot

namespace Sharing
variable {p : Port} {u x y : State}

theorem refl (p : Port) (u : State) : Sharing p u u :=
  ⟨rfl, rfl, rfl, fun _ computing => ⟨computing, id⟩, fun _ _ => rfl, rfl, rfl⟩

theorem port (h : Sharing p u x) (q : Port) : (x.port q).quiet = (u.port q).quiet := by
  have ports : x.outer.ports = u.outer.ports := by rw [h.outer]
  cases q with
  | main => exact (congrArg PerPort.main ports :)
  | hub => exact (congrArg PerPort.hub ports :)
  | input => exact (congrArg PerPort.input ports :)

theorem awake (h : Sharing p u x) (awake : (u.port p).dormant = false) : (x.port p).dormant = false :=
  (congrArg PortState.dormant (h.port p) :).trans awake

theorem reacts {E : List Effect} (h : Sharing p u x) (awake : (u.port p).dormant = false) (k : Reacts E x y) (nh : .hot ∉ E) : Sharing p u y := by
  have outer : y.outer = x.outer := k.keeps
  have table : y.table = x.table := (congrArg State.table outer :)
  have ceilings : y.ceilings = x.ceilings := (congrArg State.ceilings outer :)
  obtain ⟨power, seq⟩ := k.awake (h.awake awake)
  have pass : PassGoesOn x y := k.passGoesOn
  refine ⟨?_, power.trans h.power, seq.trans h.seq, fun z computing => ?_, fun q ne => (Keeps.holder k.keeps q).trans (h.holders q ne),
    ?_, (k.hot_eq nh).trans h.hot⟩
  · rw [outer, table, ceilings]
    exact h.outer
  · obtain ⟨goesOn, kept⟩ := h.pass z computing
    exact ⟨(pass z goesOn).1, fun rerun => (pass z goesOn).2 (kept rerun)⟩
  · exact (k.same (fun s => s.bal.tagCounter) fun _ _ _ _ touch => touch.tagCounter_eq).trans h.tags

/-- R160, R164: the hold control changes what is port p's, or the hold's state. -/
theorem setHold (h : Sharing p u x) (z : HoldCtl) (others : ∀ q, q ≠ p → (z.holders.get q).quiet = (x.holder q).quiet) :
    Sharing p u (x.setHold z) := by
  refine ⟨?_, h.power, h.seq, h.pass, fun q ne => (others q ne).trans (h.holders q ne), h.tags, h.hot⟩
  have set : (x.setHold z).outer = { x.outer with hold := (x.setHold z).outer.hold } := rfl
  rw [set, h.outer]
  rfl

/-- R161, R164: port p leaves the holder set. -/
theorem leaveHold (h : Sharing p u x) (awake : (u.port p).dormant = false) (order : Nat) : Sharing p u (leaveHold p order false x) := by
  have left : Sharing p u (leftHold p x) := h.setHold _ fun q ne => congrArg Holder.quiet (PerPort.get_set_other _ ne _)
  by_cases others : otherHolders p x = []
  · rw [leaveHold_last others]
    have off : Sharing p u ((leftHold p x).setHold { (leftHold p x).hold with state := .off }) := left.setHold _ fun _ _ => rfl
    exact off.reacts awake ((holdEndedAll_reacts order _).trans (monitorTest_reacts _ (by decide))) (by decide)
  · rw [leaveHold_others others]
    exact left

theorem share (h : Sharing p u x) (awake : (u.port p).dormant = false) (order : Nat) (y : Share) : Sharing p u (takeShare p order y x) := by
  cases y with
  | claims =>
    refine ⟨?_, h.power, h.seq, h.pass, h.holders, h.tags, h.hot⟩
    have set (z : ClaimTable) : (x.setTable z).outer = { x.outer with table := z } := rfl
    rw [takeShare, set, h.outer]
    rfl
  | ceilings =>
    refine ⟨?_, h.power, h.seq, h.pass, h.holders, h.tags, h.hot⟩
    have set (z : List Ceiling) : ({ x with ceilings := z } : State).outer = { x.outer with ceilings := z } := rfl
    rw [takeShare, set, h.outer]
  | engine => exact h.reacts awake (enginePortReset_reacts x p) (by decide)
  | hold =>
    show Sharing p u (if (x.holder p).joined then _ else x)
    split
    · exact h.leaveHold awake order
    · exact h

theorem otherHolders (h : Sharing p u x) : otherHolders p x = Machine.otherHolders p u := by
  refine List.filter_congr fun q _ => ?_
  by_cases own : q = p
  · rw [decide_eq_false (not_not.mpr own)]
    rfl
  · rw [show (x.holder q).joined = (u.holder q).joined from (congrArg Holder.joined (h.holders q own) :)]

end Sharing

/-! ### The shares together (R189) -/

/-- R189 step 2: the shares taken in the order named. -/
def sharesTaken (p : Port) (order : Nat) (u : State) : State :=
  (arrange order [Share.claims, .ceilings, .engine, .hold]).foldl (fun s x => takeShare p (order / 24) x s) u

section
variable {p : Port} {u x : State} {order : Nat}

theorem everyShare_arranged (order : Nat) : (arrange order [Share.claims, .ceilings, .engine, .hold]).Nodup
    ∧ ∀ y, y ∈ arrange order [Share.claims, .ceilings, .engine, .hold] := by
  refine ⟨(arrange_perm order _).nodup_iff.mpr (by decide), fun y => (arrange_perm order _).mem_iff.mpr ?_⟩
  cases y <;> decide

theorem takeShare_tables (order : Nat) (y : Share) (x : State) :
    (y ≠ .claims → (takeShare p order y x).table = x.table) ∧ (y ≠ .ceilings → (takeShare p order y x).ceilings = x.ceilings) := by
  have left : (leaveHold p order false x).table = x.table ∧ (leaveHold p order false x).ceilings = x.ceilings := by
    by_cases others : otherHolders p x = []
    · rw [leaveHold_last others]
      have ended : Reacts blockEffects ((leftHold p x).setHold { (leftHold p x).hold with state := .off }) (endHold order false (leftHold p x)) :=
        (holdEndedAll_reacts order _).trans (monitorTest_reacts _ (by decide))
      exact ⟨(Keeps.table ended.keeps).trans rfl, (Keeps.ceilings ended.keeps).trans rfl⟩
    · rw [leaveHold_others others]
      exact ⟨rfl, rfl⟩
  cases y with
  | claims => exact ⟨fun ne => absurd rfl ne, fun _ => rfl⟩
  | ceilings => exact ⟨fun _ => rfl, fun ne => absurd rfl ne⟩
  | engine => exact ⟨fun _ => Keeps.table (enginePortReset_reacts x p).keeps, fun _ => Keeps.ceilings (enginePortReset_reacts x p).keeps⟩
  | hold =>
    obtain ⟨table, ceilings⟩ := left
    have either (z : State) (h : z.table = x.table ∧ z.ceilings = x.ceilings) (b : Bool) :
        (if b then z else x).table = x.table ∧ (if b then z else x).ceilings = x.ceilings := by
      cases b
      · exact ⟨rfl, rfl⟩
      · exact h
    obtain ⟨table', ceilings'⟩ := either _ ⟨table, ceilings⟩ (x.holder p).joined
    exact ⟨fun _ => table', fun _ => ceilings'⟩

variable (awake : (u.port p).dormant = false)
include awake

/-- R189: one block's turn among the shares. -/
theorem sharesTaken_turn (y : Share) {Pre Post : State → Prop}
    (before : ∀ z ≠ y, ∀ x, Sharing p u x → Pre x → Pre (takeShare p (order / 24) z x))
    (turn : ∀ x, Sharing p u x → Pre x → Post (takeShare p (order / 24) y x))
    (after : ∀ z ≠ y, ∀ x, Sharing p u x → Post x → Post (takeShare p (order / 24) z x)) (first : Pre u) :
    Sharing p u (sharesTaken p order u) ∧ Post (sharesTaken p order u) := by
  obtain ⟨nodup, mem⟩ := everyShare_arranged order
  exact foldl_turn (Pre := fun x => Sharing p u x ∧ Pre x) (Post := fun x => Sharing p u x ∧ Post x) (fun s z => takeShare p (order / 24) z s)
    (fun z ne x hx => ⟨hx.1.share awake _ z, before z ne x hx.1 hx.2⟩) (fun x hx => ⟨hx.1.share awake _ y, turn x hx.1 hx.2⟩)
    (fun z ne x hx => ⟨hx.1.share awake _ z, after z ne x hx.1 hx.2⟩) nodup (mem y) ⟨.refl p u, first⟩

/-- R38. -/
theorem sharesTaken_table : (sharesTaken p order u).table = { u.table with claims := u.table.claims.filter (fun c => c.owner != .port p) } :=
  (sharesTaken_turn (order := order) awake .claims (Pre := fun x => x.table = u.table)
    (Post := fun x => x.table = { u.table with claims := u.table.claims.filter (fun c => c.owner != .port p) })
    (fun z ne x _ h => ((takeShare_tables _ z x).1 ne).trans h) (fun x _ h => by rw [← h]; rfl)
    (fun z ne x _ h => ((takeShare_tables _ z x).1 ne).trans h) rfl).2

/-- R59. -/
theorem sharesTaken_ceilings : (sharesTaken p order u).ceilings = u.ceilings.filter (fun e => e.owner != p) :=
  (sharesTaken_turn (order := order) awake .ceilings (Pre := fun x => x.ceilings = u.ceilings)
    (Post := fun x => x.ceilings = u.ceilings.filter (fun e => e.owner != p))
    (fun z ne x _ h => ((takeShare_tables _ z x).2 ne).trans h) (fun x _ h => by rw [← h]; rfl)
    (fun z ne x _ h => ((takeShare_tables _ z x).2 ne).trans h) rfl).2

/-- R164: port p's place in the holder set. -/
theorem sharesTaken_hold : ((sharesTaken p order u).holder p).joined = false
    ∧ ((u.holder p).joined = true → otherHolders p u = [] → (sharesTaken p order u).hold.state = .off) := by
  have same {E : List Effect} {x y : State} (k : Reacts E x y) : (y.holder p).joined = (x.holder p).joined :=
    (congrArg Holder.joined (Keeps.holder k.keeps p) :)
  refine (sharesTaken_turn (order := order) awake .hold (Pre := fun x => (x.holder p).joined = (u.holder p).joined)
    (Post := fun x => (x.holder p).joined = false ∧ ((u.holder p).joined = true → otherHolders p u = [] → x.hold.state = .off))
    (fun z ne x _ h => ?_) (fun x sharing h => ?_) (fun z ne x _ ⟨left, off⟩ => ?_) rfl).2
  · cases z with
    | claims => exact h
    | ceilings => exact h
    | engine => exact (same (enginePortReset_reacts x p)).trans h
    | hold => contradiction
  · by_cases joined : (x.holder p).joined = true
    · have is : takeShare p (order / 24) .hold x = leaveHold p (order / 24) false x := if_pos joined
      have left : ((leftHold p x).holder p).joined = false := congrArg Holder.joined (setHolder_holder x p _)
      rw [is]
      by_cases others : otherHolders p x = []
      · have ended : Reacts blockEffects ((leftHold p x).setHold { (leftHold p x).hold with state := .off })
            (endHold (order / 24) false (leftHold p x)) := (holdEndedAll_reacts _ _).trans (monitorTest_reacts _ (by decide))
        rw [leaveHold_last others]
        exact ⟨(same ended).trans left, fun _ _ => ended.holdOff_iff.mpr rfl⟩
      · rw [leaveHold_others others]
        exact ⟨left, fun _ none => absurd (sharing.otherHolders.trans none) others⟩
    · have is : takeShare p (order / 24) .hold x = x := if_neg joined
      rw [is]
      exact ⟨Bool.eq_false_iff.mpr joined, fun was => absurd (h.trans was) joined⟩
  · cases z with
    | claims => exact ⟨left, off⟩
    | ceilings => exact ⟨left, off⟩
    | engine =>
      have k := enginePortReset_reacts x p
      exact ⟨(same k).trans left, fun joined none => k.holdOff_iff.mpr (off joined none)⟩
    | hold => contradiction

/-- R150: the jobs, the last results, and what port p's last result shows. -/
theorem sharesTaken_jobs : ∃ r, JobsTried (u.bal.last.set p r) (jobsOfOthers p u.bal.queue) (sharesTaken p order u)
    ∧ (∀ y ∈ r, y.reason = .reset)
    ∧ ((u.holder p).joined = false ∨ otherHolders p u ≠ [] ∨ (∀ j ∈ u.bal.queue.head?, j.originator ≠ p) → r = resetResult p u.bal.queue) := by
  have reset (q : List Job) : ∀ y ∈ resetResult p q, y.reason = .reset := by
    intro y is
    unfold resetResult at is
    split at is
    · exact nomatch is
    · split at is
      · obtain rfl := Option.some.inj is
        rfl
      · exact nomatch is
  suffices shared : Sharing p u (sharesTaken p order u)
      ∧ ∃ r, JobsTried (u.bal.last.set p r) (jobsOfOthers p u.bal.queue) (sharesTaken p order u) ∧ (∀ y ∈ r, y.reason = .reset)
        ∧ ((u.holder p).joined = false ∨ otherHolders p u ≠ [] ∨ (∀ j ∈ u.bal.queue.head?, j.originator ≠ p) →
          r = resetResult p u.bal.queue) from shared.2
  refine sharesTaken_turn (order := order) awake .engine
    (Pre := fun x => JobsTried u.bal.last u.bal.queue x ∧ ((x.holder p).joined = true → (u.holder p).joined = true)
      ∧ ((u.holder p).joined = false ∨ otherHolders p u ≠ [] → x.bal = u.bal))
    (Post := fun x => ∃ r, JobsTried (u.bal.last.set p r) (jobsOfOthers p u.bal.queue) x ∧ (∀ y ∈ r, y.reason = .reset)
      ∧ ((u.holder p).joined = false ∨ otherHolders p u ≠ [] ∨ (∀ j ∈ u.bal.queue.head?, j.originator ≠ p) →
        r = resetResult p u.bal.queue))
    (fun z ne x sharing ⟨tried, joined, same⟩ => ?_) (fun x sharing ⟨tried, _, same⟩ => ?_)
    (fun z ne x _ ⟨r, tried, reasons, exactly⟩ => ⟨r, ?_, reasons, exactly⟩)
    ⟨.inl ⟨rfl, rfl⟩, id, fun _ => rfl⟩
  · cases z with
    | claims => exact ⟨tried.congr rfl rfl, joined, same⟩
    | ceilings => exact ⟨tried.congr rfl rfl, joined, same⟩
    | engine => contradiction
    | hold =>
      by_cases holds : (x.holder p).joined = true
      · have is : takeShare p (order / 24) .hold x = leaveHold p (order / 24) false x := if_pos holds
        rw [is]
        refine ⟨tried.leaveHold p _, fun _ => joined holds, fun stays => ?_⟩
        have others : otherHolders p x ≠ [] := by
          rw [sharing.otherHolders]
          exact stays.resolve_left (by rw [joined holds]; nofun)
        rw [leaveHold_others others]
        exact same stays
      · have is : takeShare p (order / 24) .hold x = x := if_neg holds
        rw [is]
        exact ⟨tried, joined, same⟩
  · refine ⟨_, tried.enginePortReset, reset _, fun known => ?_⟩
    by_cases stays : (u.holder p).joined = false ∨ otherHolders p u ≠ []
    · rw [same stays]
    · have other : ∀ j ∈ u.bal.queue.head?, j.originator ≠ p := by tauto
      rw [resetResult_none fun j head own => absurd own (other j head)]
      refine resetResult_none fun j head own => ?_
      obtain ⟨-, plain⟩ | ⟨k, rest, -, r, -, n, waits⟩ := tried
      · have heads := congrArg List.head? plain
        rw [List.head?_map, List.head?_map, show x.bal.queue.head? = some j from head, Option.map_some] at heads
        obtain ⟨k, first, is⟩ := Option.map_eq_some_iff.mp heads.symm
        exact absurd ((congrArg Job.originator is :).trans own) (other k first)
      · exact waits.head j head
  · cases z with
    | claims => exact tried.congr rfl rfl
    | ceilings => exact tried.congr rfl rfl
    | engine => contradiction
    | hold =>
      show JobsTried _ _ (if (x.holder p).joined then _ else x)
      split
      · exact tried.leaveHold p _
      · exact tried

end

end Sys2Proof.Machine
end

section
/-! O9: PORT_RESET. -/

namespace Sys2Proof.Machine

section
variable {p : Port} {u : State} {order : Nat}

theorem exec_portReset {s : State} (order : Nat) (h : Hands s p) : exec (.portReset p (Framing.ofLength 0) order) s
    = .next (resetPort p order (handedOver p (.portReset p (Framing.ofLength 0) order) s)) :=
  exec_handed (r := .portReset) rfl s h (by cases p <;> rfl)

/-- R189: the shares, and the port's own set and mask. -/
def portCleared (p : Port) (order : Nat) (u : State) : State :=
  let x := sharesTaken p order u
  x.setPort p { x.port p with notices := 0, mask := 0 }

theorem resetPort_eq (p : Port) (order : Nat) (u : State) : resetPort p order u = handReply p .ok [] (trigger (portCleared p order u)) := rfl

/-- What the pass trigger and the reply leave of the port's own part. -/
theorem resetPort_ports (q : Port) : (q ≠ p → (resetPort p order u).port q = (sharesTaken p order u).port q)
    ∧ ((resetPort p order u).port p).notices = 0 ∧ ((resetPort p order u).port p).mask = 0 := by
  have ports : (trigger (portCleared p order u)).ports = (portCleared p order u).ports :=
    (trigger_reacts (E := [.pass]) _ (by decide)).ports_eq (by decide)
  have own : (trigger (portCleared p order u)).port p = { (sharesTaken p order u).port p with notices := 0, mask := 0 } := by
    rw [State.port, ports]
    exact PerPort.get_set_self _ _ _
  have replied : (resetPort p order u).port p
      = { (trigger (portCleared p order u)).port p with handed := some { code := .ok, payload := [] } } := PerPort.get_set_self _ _ _
  refine ⟨fun ne => ?_, ?_⟩
  · have other : (resetPort p order u).port q = (trigger (portCleared p order u)).port q := PerPort.get_set_other _ ne _
    rw [other, State.port, ports]
    exact PerPort.get_set_other _ ne _
  · rw [replied, own]
    exact ⟨rfl, rfl⟩

/-- What they leave of the part. -/
theorem resetPort_rest : let t := resetPort p order u
    let x := sharesTaken p order u
    t.outer = { x.outer with ports := t.outer.ports } ∧ t.bal = x.bal ∧ t.power = x.power ∧ t.seq = x.seq ∧ t.hold = x.hold := by
  have k : Reacts [.pass] (portCleared p order u) (trigger (portCleared p order u)) := trigger_reacts _ (by decide)
  have outer : (trigger (portCleared p order u)).outer = (portCleared p order u).outer := k.keeps
  refine ⟨?_, k.bal_eq (by decide) (by decide) (by decide), k.power_eq (by decide), k.seq_eq (by decide), k.hold_eq (by decide) (by decide)⟩
  rw [resetPort_eq, handReply_outer, outer]
  rfl

/-- R150: the jobs and last results that are left, from what the shares have made of them. -/
theorem jobsLeft {r : Option LastResult} {last : PerPort (Option LastResult)} {q : List Job} {x : State}
    (tried : JobsTried (last.set p r) (jobsOfOthers p q) x) :
    (∀ j ∈ x.bal.queue, j.originator ≠ p) ∧ x.bal.last.get p = r
    ∧ ((x.bal.queue.map Job.plain = (jobsOfOthers p q).map Job.plain ∧ ∀ w, w ≠ p → x.bal.last.get w = last.get w)
      ∨ (x.bal.queue.map Job.plain = (jobsOfOthers p q).tail.map Job.plain ∧ ∀ j ∈ (jobsOfOthers p q).head?, ∀ w, w ≠ p →
          if w = j.originator then ∃ e ∈ startReasons, x.bal.last.get w = some { tag := j.tag, reason := e, moved := j.moved }
          else x.bal.last.get w = last.get w)) := by
  have others (k : Job) (member : k ∈ jobsOfOthers p q) : k.originator ≠ p := bne_iff_ne.mp (List.mem_filter.mp member).2
  have apart (l : List Job) (sub : l ⊆ jobsOfOthers p q) (same : x.bal.queue.map Job.plain = l.map Job.plain) :
      ∀ j ∈ x.bal.queue, j.originator ≠ p := by
    intro j member
    have plain : j.plain ∈ l.map Job.plain := same ▸ List.mem_map_of_mem member
    obtain ⟨k, among, is⟩ := List.mem_map.mp plain
    rw [← show k.originator = j.originator from (congrArg Job.originator is :)]
    exact others k (sub among)
  obtain ⟨results, plain⟩ | ⟨j, rest, is, e, reason, n, -, results, plain, -⟩ := tried
  · rw [results]
    exact ⟨apart _ (List.Subset.refl _) plain, PerPort.get_set_self _ _ _, .inl ⟨plain, fun w ne => PerPort.get_set_other _ ne _⟩⟩
  · have first : j ∈ jobsOfOthers p q := by rw [is]; exact List.mem_cons_self
    have own := others j first
    rw [results]
    refine ⟨apart rest (by rw [is]; exact List.subset_cons_self _ _) plain, ?_, .inr ⟨by rw [is]; exact plain, fun k head w ne => ?_⟩⟩
    · rw [PerPort.get_set_other _ own.symm]
      exact PerPort.get_set_self _ _ _
    · rw [is] at head
      obtain rfl := Option.some.inj head
      split
      next same =>
        subst same
        exact ⟨e, reason, PerPort.get_set_self _ _ _⟩
      next other =>
        rw [PerPort.get_set_other _ other]
        exact PerPort.get_set_other _ ne _

/-- R150: the last result shows the RESET of a job that ran. -/
theorem resetResult_eq (p : Port) (q : List Job) : resetResult p q
    = ((q.head?.filter (fun j => j.originator == p)).filter (fun j => j.state == .running)).map (fun j =>
      { tag := j.tag, reason := .reset, moved := j.moved }) := by
  cases q with
  | nil => rfl
  | cons j rest =>
    by_cases own : j.originator = p
    · by_cases runs : j.state = .running
      · simp [resetResult, own, runs, Option.filter]
      · simp [resetResult, own, runs, Option.filter]
    · simp [resetResult, own, Option.filter]

end

/-- Settles O9: the shares keep to port p, whatever their order. -/
theorem portResetClears : Obligations.PortResetClears := by
  intro s p order hands u
  have awake : (u.port p).dormant = false := handedOver_awake _ hands
  have on : u.operating = true := handedOver_operating p _ s hands.1.1
  have running : u.power.phase = .running := handedOver_running p _ s hands
  have sharing : Sharing p u (sharesTaken p order u) := (sharesTaken_turn (order := order) awake .claims (Pre := fun _ => True)
    (Post := fun _ => True) (fun _ _ _ _ _ => trivial) (fun _ _ _ => trivial) (fun _ _ _ _ _ => trivial) trivial).1
  have table := sharesTaken_table (order := order) awake
  have ceilings := sharesTaken_ceilings (order := order) awake
  obtain ⟨unjoined, off⟩ := sharesTaken_hold (order := order) awake
  obtain ⟨r, tried, reasons, exactly⟩ := sharesTaken_jobs (order := order) awake
  obtain ⟨outer, bal, power, seq, hold⟩ := resetPort_rest (p := p) (u := u) (order := order)
  have ports (q : Port) := resetPort_ports (p := p) (u := u) (order := order) q
  obtain ⟨-, notices, mask⟩ := ports p
  obtain ⟨left, result, account⟩ := jobsLeft tried
  have wanted : PassWanted u (resetPort p order u) := by
    refine PassWanted.handReply (PassGoesOn.passWanted (t := portCleared p order u) sharing.pass ?_ ?_) p .ok []
    · exact (congrArg PowerCtl.phase sharing.power).trans running
    · exact (congrArg (fun x : PowerCtl => x.supplied && x.state != .ship) sharing.power).trans on
  have tableT : (resetPort p order u).table = (sharesTaken p order u).table := (congrArg State.table outer :)
  have ceilingsT : (resetPort p order u).ceilings = (sharesTaken p order u).ceilings := (congrArg State.ceilings outer :)
  have holder (q : Port) : (resetPort p order u).holder q = (sharesTaken p order u).holder q := congrArg (fun h : HoldCtl => h.holders.get q) hold
  refine ⟨_, exec_portReset order hands, handReply_answers .ok [] _, wanted, tableT.trans table, ceilingsT.trans ceilings, ?_⟩
  have outerT : (resetPort p order u).outer = { u.outer with
      table := (resetPort p order u).table, ceilings := (resetPort p order u).ceilings
      ports := (resetPort p order u).outer.ports, hold := (resetPort p order u).outer.hold } := by
    have holdT : (resetPort p order u).outer.hold = (sharesTaken p order u).outer.hold := (congrArg State.hold outer :)
    rw [holdT, tableT, ceilingsT]
    refine outer.trans ?_
    rw [sharing.outer]
  rw [bal, power, seq, hold]
  refine ⟨left, ?_, ?_, sharing.tags, sharing.hot, sharing.power, sharing.seq, account, ?_, ?_, ?_, ?_⟩
  · rw [result]
    exact reasons
  · intro own known
    rw [result, exactly ?_, resetResult_eq]
    obtain unjoined | ⟨q, -, ne, joined⟩ | none := known
    · exact .inl unjoined
    · refine .inr (.inl fun empty => ?_)
      have member : q ∈ otherHolders p u :=
        List.mem_filter.mpr ⟨by cases q <;> decide, by rw [Bool.and_eq_true, decide_eq_true_iff]; exact ⟨ne, joined⟩⟩
      rw [empty] at member
      exact nomatch member
    · exact .inr (.inr fun j head same => Option.filter_eq_none_iff.mp none j head (beq_iff_eq.mpr same))
  · rw [holder]
    exact unjoined
  · intro joined alone
    refine off joined (List.filter_eq_nil_iff.mpr fun q _ => ?_)
    by_cases same : q = p
    · simp [same]
    · simp [alone q same]
  · intro q ne
    rw [holder, (ports q).1 ne]
    exact ⟨sharing.holders q ne, sharing.port q⟩
  · exact ⟨notices, mask, outerT⟩

end Sys2Proof.Machine
end

section
/-! What every block's part of a sample keeps, the monitor's reports among them (R14, R168), for O27. -/

namespace Sys2Proof.Machine

/-! ### A property kept by every part of a sample (R14) -/

/-- A property that the blocks' parts of a sample and the reports l of the monitor keep. -/
structure PartRules (l : List FaultReport) (P : State → Prop) : Prop where
  apart : ∀ {s t}, Apart s t → (∀ q k, Noticed s q k → Noticed t q k) → P s → P t
  prot : ∀ {s} x, P s → P (s.setProt x)
  samples : ∀ {s} c, P s → P (channelSample c s)
  engine : ∀ {s}, P s → P (engineSample s)
  reports : ∀ {s} x, x ∈ l → P s → P (takeReport x s)

theorem foldl_reaches {α : Type} {f : State → α → State} {l : List α} {x : α} {Pre Post : State → Prop}
    (before : ∀ y ∈ l, ∀ u, Pre u → Pre (f u y)) (turn : ∀ u, Pre u → Post (f u x)) (after : ∀ y ∈ l, ∀ u, Post u → Post (f u y)) :
    x ∈ l → ∀ {s : State}, Pre s → Post (l.foldl f s) := by
  induction l with
  | nil => exact fun member => nomatch member
  | cons y l ih =>
    intro member s h
    by_cases same : y = x
    · subst same
      exact foldl_preserves (P := Post) f l (fun z hz u hu => after z (List.mem_cons_of_mem _ hz) u hu) _ (turn s h)
    · refine ih (fun z hz => before z (List.mem_cons_of_mem _ hz)) (fun z hz => after z (List.mem_cons_of_mem _ hz)) ?_
        (before y List.mem_cons_self s h)
      exact (List.mem_cons.mp member).resolve_left (Ne.symm same)

section
variable {l : List FaultReport} {P Pre : State → Prop} {s u : State} {m : RawSample} {order : Nat}

/-- R168: the reports that a sample makes. -/
def sampleReports (m : RawSample) (s : State) : List FaultReport := reportsOf s.prot (s.prot.judged (recordSample m s).sample)

namespace PartRules

/-- A property that nothing a block brings about changes. -/
theorem of_reacts (l : List FaultReport) (apart : ∀ {s t}, Apart s t → P s → P t) (prot : ∀ {s} x, P s → P (s.setProt x))
    (kept : ∀ {E s t}, Reacts E s t → P s → P t) : PartRules l P :=
  ⟨fun h _ => apart h, prot, fun c => kept (channelSample_reacts _ c), kept (engineSample_reacts _), fun x _ => kept (takeReport_reacts _ x)⟩

variable (rules : PartRules l P)
include rules

theorem trigger (h : P u) : P (trigger u) := rules.apart (.trigger u) (Carries.trigger u).noticed h

theorem enterFaults (on : u.operating = true) (h : P u) (new : Protection) : P (enterFaults new u) :=
  rules.apart (.enterFaults_rest new u) (Carries.enterFaults on new).noticed (rules.prot new h)

theorem receive {y : Receiver} (ne : y ≠ .monitor) (running : u.power.phase = .running) (h : P u) : P (receive order y u) := by
  cases y with
  | monitor => contradiction
  | input => exact rules.apart (.inputSample u) (Carries.inputSample u).noticed h
  | channelA => exact rules.samples .a h
  | channelB => exact rules.samples .b h
  | engine => exact rules.engine h
  | allocator => exact rules.trigger h
  | startUp =>
    have is : Machine.receive order .startUp u = u := endLoadingTest_running running
    rw [is]
    exact h

end PartRules

/-- R14, R168: a report of the sample establishes P; what stands before it is Pre. -/
theorem arriveSample_reports {x : FaultReport} (on : s.operating = true) (running : s.power.phase = .running) (member : x ∈ sampleReports m s)
    (pre : PartRules (sampleReports m s) Pre) (rules : PartRules (sampleReports m s) P) (turn : ∀ u, Pre u → P (takeReport x u))
    (first : Pre s) : P (arriveSample m order s) := by
  refine (arriveSample_turn (s := s) (m := m) (order := order) .monitor on (Pre := fun u => u.prot = s.prot ∧ Pre u) (Post := P)
    (fun y ne u carried ⟨prot, h⟩ => ⟨(Judged.receive ne _ u).prot.trans prot, pre.receive ne (carried.phase running) h⟩)
    (fun u carried ⟨prot, h⟩ => ?_) (fun y ne u carried h => rules.receive ne (carried.phase running) h)
    ⟨rfl, pre.apart (.recordSample m s) (fun _ _ => id) first⟩).2
  have reports : reportsOf u.prot (u.prot.judged u.sample) = sampleReports m s := by rw [prot, carried.sample]; rfl
  have changed : u.prot.judged u.sample ≠ u.prot := by
    intro same
    rw [same, reportsOf_sameSets (.refl _)] at reports
    rw [← reports] at member
    exact nomatch member
  show P (monitorSample (order / 5040) u)
  unfold monitorSample
  dsimp only
  rw [if_neg changed, reports]
  have among (y : FaultReport) : y ∈ arrange (order / 5040) (sampleReports m s) ↔ y ∈ sampleReports m s := (arrange_perm _ _).mem_iff
  refine rules.trigger (foldl_reaches (f := fun s x => takeReport x s) (Pre := Pre) (Post := P)
    (fun y hy v hv => pre.reports y ((among y).mp hy) hv) turn (fun y hy v hv => rules.reports y ((among y).mp hy) hv)
    ((among x).mpr member) (pre.enterFaults (carried.operating on) h _))

end

/-! ### The arbiter's and the engine's part (R130, R148, R170 to R174) -/

section
variable {P : State → Prop} {s : State}

/-- R130, R174: the arbiter takes a raise of LINK_FAULT. -/
theorem EngineRules.lockLink (rules : EngineRules P) (locks : ∀ {s}, P s → P (s.setArb { s.arb with faultLock := true })) (h : P s) :
    P (lockLink s) := by
  have locked := locks h
  unfold Machine.lockLink
  dsimp only
  split
  next r held => exact rules.linkFaultToEngine (rules.lossOf locked held nofun)
  next => exact locked
  next => exact locked

/-- R168: a report to the arbiter or the engine. -/
def FaultReport.toChannel : FaultReport → Option Cell
  | .cellToChannel c => some c
  | .dieHot _ (.channel c) => some c
  | .cellToEngine => none
  | .dieHot _ .engine => none
  | .linkToArbiter => none
  | .linkToEngine => none

theorem EngineRules.takeReport (rules : EngineRules P) (locks : ∀ {s}, P s → P (s.setArb { s.arb with faultLock := true }))
    (hot : ∀ {s} b, P s → P (s.setEngineHot b)) {x : FaultReport} (own : x.toChannel = none) (h : P s) : P (takeReport x s) := by
  match x, own with
  | .cellToEngine, _ => exact rules.endAll _ h
  | .dieHot true .engine, _ => exact rules.suspendHead (hot _ h)
  | .dieHot false .engine, _ => exact rules.releaseHead (hot _ h)
  | .linkToArbiter, _ => exact rules.lockLink locks h
  | .linkToEngine, _ => exact rules.linkFaultToEngine h

theorem takeReport_toEngine {x : FaultReport} (own : x.toChannel = none) : Reacts (.lock :: .hot :: engineEffects) s (takeReport x s) := by
  match x, own with
  | .cellToEngine, _ => exact (endAll_reacts _ s).mono (by decide)
  | .dieHot true .engine, _ =>
    exact ((Touches.hot true s).reacts (by decide)).trans ((suspendHead_reacts _).mono (by decide))
  | .dieHot false .engine, _ =>
    exact ((Touches.hot false s).reacts (by decide)).trans ((releaseHead_reacts _).mono (by decide))
  | .linkToArbiter, _ => exact (lockLink_reacts s).mono (by decide)
  | .linkToEngine, _ => exact (linkFaultToEngine_reacts s).mono (by decide)

end

/-! ### A property of one channel (R94, R95, R108) -/

/-- A property of channel c that a sample, the reports of its faults and reports of its link keep. -/
structure OwnRules (l : List FaultReport) (c : Cell) (Q : Channel → Prop) : Prop extends ChannelRules Q where
  request : ∀ {ch : Channel} b, Q ch → Q { ch with request := b }
  sample : ∀ {ch : Channel} profile x, Q ch → Q (Change.sample c profile x ch).ch
  fault : ∀ {ch : Channel}, Q ch → Q (Change.cellFault ch).ch
  hot : ∀ {ch : Channel} profile b, .dieHot b (.channel c) ∈ l → Q ch → Q (Change.withReasons c profile { ch.reasons with dieHot := b } ch).ch

namespace OwnRules
variable {l : List FaultReport} {c : Cell} {Q : Channel → Prop} (rules : OwnRules l c Q) {s : State}
include rules

theorem commit_own {y : Change} (h : Q y.ch) : Q ((commit c y s).channel c) := by
  cases c with
  | a => exact rules.mark (commit_a_chA y s) h
  | b => exact rules.toChannelRules.commit_b rules.request h

theorem commit_other {d : Cell} (ne : d ≠ c) {y : Change} (h : Q (s.channel c)) : Q ((commit d y s).channel c) := by
  cases c with
  | a =>
    cases d with
    | a => contradiction
    | b => exact rules.mark (commit_b_chA y s) h
  | b =>
    cases d with
    | a => exact rules.mark (commit_a_chB y s) h
    | b => contradiction

theorem commit {d : Cell} {y : Change} (own : d = c → Q y.ch) (h : Q (s.channel c)) : Q ((commit d y s).channel c) := by
  by_cases same : d = c
  · subst same
    exact rules.commit_own (own rfl)
  · exact rules.commit_other same h

theorem partRules : PartRules l fun s => Q (s.channel c) where
  apart {s t} k _ h := by
    refine rules.mark ?_ h
    cases c with
    | a => exact k.chA
    | b => exact k.chB
  prot {s} x h := by cases c <;> exact h
  samples d h := rules.commit (fun own => by subst own; exact rules.sample _ _ h) h
  engine {s} h := by
    cases c with
    | a => exact rules.mark ((engineSample_reacts s).chA_fresh (by decide)) h
    | b => exact rules.engineRules.engineSample h
  reports {s} x member h := by
    by_cases own : x.toChannel = none
    · cases c with
      | a => exact rules.mark ((takeReport_toEngine own).chA_fresh (by decide)) h
      | b => exact rules.engineRules.takeReport (fun h => h) (fun _ h => h) own h
    · match x, own with
      | .cellToChannel d, _ => exact rules.commit (fun own => by subst own; exact rules.fault h) h
      | .dieHot true (.channel d), _ => exact rules.commit (fun own => by subst own; exact rules.hot _ true member h) h
      | .dieHot false (.channel d), _ => exact rules.commit (fun own => by subst own; exact rules.hot _ false member h) h

end OwnRules

/-! ### Channels out of ACTIVE, and channels under DIE_HOT (R94, R108) -/

theorem notActive_rules (l : List FaultReport) (c : Cell) : OwnRules l c fun ch => ch.state ≠ .active where
  mark same h active := h ((congrArg Channel.state same :).symm.trans active)
  told profile b h := by
    rw [withReasons_of_not_active h]
    exact h
  request _ h := h
  sample _ _ h := by
    rw [Change.sample_idle h]
    exact h
  fault {ch} h := by
    rw [Change.cellFault, if_neg h]
    exact h
  hot profile b _ h := by
    rw [Change.withReasons, if_neg h]
    exact h

theorem cellFault_leaves (ch : Channel) : (Change.cellFault ch).ch.state ≠ .active := by
  unfold Change.cellFault
  split
  · nofun
  next idle => exact idle

/-- R94, R98: an ACTIVE channel holds DIE_HOT where b says so, and presents 0 under it. -/
def Channel.Heat (b : Bool) (ch : Channel) : Prop := ch.state = .active → ch.reasons.dieHot = b ∧ (b = true → ch.presented = 0)

section
variable {b : Bool} {c : Cell} {profile : List StepRecord} {x : Sample}

theorem represent_heat {ch : Channel} (hot : ch.reasons.dieHot = b) : (ch.represent c profile).reasons.dieHot = b
    ∧ (b = true → (ch.represent c profile).presented = 0) := by
  refine ⟨hot, fun is => ?_⟩
  have stopped : ch.demand c profile = 0 := by
    refine if_neg ?_
    rw [Reasons.stopsDemand, hot, is]
    simp
  rw [Channel.represent, stopped]
  exact Nat.min_zero _

theorem withReasons_heat {r : Reasons} (hot : r.dieHot = b) (ch : Channel) : (Change.withReasons c profile r ch).ch.Heat b := by
  unfold Change.withReasons
  split
  · exact fun _ => represent_heat hot
  next idle => exact fun active => absurd active idle

theorem walk_heat (k : Nat) : ∀ {n : Nat} {ch : Channel}, ch.reasons.dieHot = b → (Channel.walk c profile x k n ch).Heat b := by
  induction k with
  | zero => exact fun _ active => nomatch active
  | succ k ih =>
    intro n ch hot
    rw [Channel.walk]
    split
    · exact nofun
    · dsimp only
      split
      · exact ih hot
      · exact fun _ => represent_heat hot

theorem sample_heat {ch : Channel} (h : ch.Heat b) : (Change.sample c profile x ch).ch.Heat b := by
  by_cases active : ch.state = .active
  · obtain ⟨hot, -⟩ := h active
    have seen : (ch.observe c profile x).Heat b := by
      rw [Channel.observe_eq active]
      refine fun _ => ⟨hot, fun is => if_neg fun free => free.2 ?_⟩
      rw [hot, is]
      simp
    have kept {y : Change} (hy : y.ch.Heat b) : y.recorded.ch.Heat b := hy
    have same : (ch.observe c profile x).reasons.dieHot = b := by
      rw [Channel.observe_eq active]
      exact hot
    rw [Change.sample, if_pos active]
    dsimp only
    split
    · exact kept (walk_heat _ same)
    · split
      · exact kept (y := Change.fail _ _) nofun
      · exact kept (y := Change.reasons _ _) seen
  · rw [Change.sample_idle active]
    exact fun now => absurd now active

/-- R172: a sample that does not report the contrary of b. -/
theorem heat_rules {l : List FaultReport} (b : Bool) (c : Cell) (alone : .dieHot (!b) (.channel c) ∉ l) : OwnRules l c (Channel.Heat b) where
  mark {ch ch'} same h active := by
    obtain ⟨hot, presented⟩ := h ((congrArg Channel.state same :).symm.trans active)
    exact ⟨(congrArg (fun x : Channel => x.reasons.dieHot) same :).trans hot, fun is => (congrArg Channel.presented same :).trans (presented is)⟩
  told {ch} profile y h := by
    by_cases was : ch.state = .active
    · exact withReasons_heat (r := { ch.reasons with noLink := y }) (h was).1 ch
    · rw [withReasons_of_not_active was]
      exact h
  request _ h := h
  sample _ _ h := sample_heat h
  fault {ch} _ active := absurd active (cellFault_leaves ch)
  hot {ch} profile d member _ := by
    obtain rfl : d = b := by
      by_contra ne
      exact alone (by rw [← Bool.eq_not_of_ne ne]; exact member)
    exact withReasons_heat rfl ch

end

end Sys2Proof.Machine
end

section
/-! The head and the link after the reports of DIE_HOT and LINK_FAULT (R130, R141, R172, R174), for O27. -/

namespace Sys2Proof.Machine

/-! ### Which reports a sample makes (R168, R170, R172) -/

section
variable {old new : Protection}

theorem mem_reportsOf {x : FaultReport} : x ∈ reportsOf old new
    ↔ (∃ c, (old.cell c).latches (new.cell c) = true ∧ (x = .cellToChannel c ∨ x = .cellToEngine))
      ∨ (old.device.dieHot ≠ new.device.dieHot ∧ ∃ l, x = .dieHot new.device.dieHot l)
      ∨ (old.device.linkFault ≠ new.device.linkFault ∧ (x = .linkToArbiter ∨ x = .linkToEngine)) := by
  have onCell (c : Cell) : x ∈ (if (old.cell c).latches (new.cell c) then [FaultReport.cellToChannel c, .cellToEngine] else [])
      ↔ (old.cell c).latches (new.cell c) = true ∧ (x = .cellToChannel c ∨ x = .cellToEngine) := by
    split
    next is => simp [is]
    next is => simp [is]
  have onHot : x ∈ (if old.device.dieHot = new.device.dieHot then [] else everyListener.map (FaultReport.dieHot new.device.dieHot))
      ↔ old.device.dieHot ≠ new.device.dieHot ∧ ∃ l, x = .dieHot new.device.dieHot l := by
    have listens (l : Listener) : l ∈ everyListener := by
      match l with
      | .channel .a => decide
      | .channel .b => decide
      | .engine => decide
    split
    next is => simp [is]
    next is => simp [is, listens, eq_comm]
  have onLink : x ∈ (if old.device.linkFault = new.device.linkFault then [] else [FaultReport.linkToArbiter, .linkToEngine])
      ↔ old.device.linkFault ≠ new.device.linkFault ∧ (x = .linkToArbiter ∨ x = .linkToEngine) := by
    split
    next is => simp [is]
    next is => simp [is]
  have cells (p : Cell → Prop) : (∃ c, p c) ↔ p .a ∨ p .b :=
    ⟨fun ⟨c, h⟩ => by cases c; exacts [.inl h, .inr h], fun h => h.elim (⟨_, ·⟩) (⟨_, ·⟩)⟩
  rw [reportsOf, List.mem_append, List.mem_append, List.mem_append, onCell, onCell, onHot, onLink, cells, or_assoc]

theorem dieHot_mem {b : Bool} {l : Listener} :
    .dieHot b l ∈ reportsOf old new ↔ old.device.dieHot ≠ new.device.dieHot ∧ b = new.device.dieHot := by
  simp [mem_reportsOf]

end

/-! ### What the arbiter and the engine do in a sample keeps -/

/-- A property of the arbiter and the head that a credit, the end of a head and a lock keep as well. -/
structure HeadRules (P : State → Prop) : Prop extends LinkRules P where
  apart : ∀ {s t}, Apart s t → P s → P t
  prot : ∀ {s} x, P s → P (s.setProt x)
  answers : ∀ s, P s → P (startChecks s)
  finishes : ∀ {s} reason, P s → P (finishHead reason s)
  credits : ∀ {s j k rest}, s.bal.queue = j :: rest → k.state = j.state → P s → P (s.setQueue (k :: rest))
  locks : ∀ {s}, P s → P (s.setArb { s.arb with faultLock := true })
  commits : ∀ {s} c y, P s → P (commit c y s)

namespace HeadRules
variable {P : State → Prop} (rules : HeadRules P) {s : State}
include rules

theorem quantumReport (h : P s) : P (quantumReport s) := by
  unfold Machine.quantumReport
  split
  next held =>
    rw [Bool.and_eq_true, beq_iff_eq] at held
    exact rules.toLinkRules.loseLink rules.answers h held.2 nofun
  next => exact h

theorem engineSample (h : P s) : P (engineSample s) := by
  cases queue : s.bal.queue with
  | nil =>
    have same : Machine.engineSample s = s := by rw [Machine.engineSample, queue]
    rw [same]
    exact h
  | cons j rest =>
    have credited : P (s.setQueue (creditedHead j s :: rest)) := rules.credits queue rfl h
    have after : P (afterCredit j rest s) := by
      unfold afterCredit
      split
      · exact rules.quantumReport credited
      · exact credited
    rw [engineSample_cons queue]
    split
    · exact rules.finishes _ after
    · exact after

theorem endAll (n : Nat) : ∀ {s : State}, P s → P (endAll n s) := by
  induction n with
  | zero => exact id
  | succ n ih => exact fun h => ih (rules.finishes _ h)

theorem linkFaultToEngine (h : P s) : P (linkFaultToEngine s) := by
  unfold Machine.linkFaultToEngine
  split
  · exact h
  · split
    · exact rules.finishes _ h
    · exact h

theorem lockLink (h : P s) : P (lockLink s) := by
  have locked := rules.locks h
  unfold Machine.lockLink
  dsimp only
  split
  next r held => exact rules.linkFaultToEngine (rules.toLinkRules.loseLink rules.answers locked held nofun)
  next => exact locked
  next => exact locked

theorem partRules {l : List FaultReport} (hot : ∀ {s} b, .dieHot b .engine ∈ l → P s → P (takeReport (.dieHot b .engine) s)) : PartRules l P where
  apart k _ := rules.apart k
  prot := rules.prot
  samples c h := rules.commits c _ h
  engine := rules.engineSample
  reports {s} x member h := by
    match x with
    | .cellToChannel c => exact rules.commits c _ h
    | .cellToEngine => exact rules.endAll _ h
    | .dieHot true (.channel c) => exact rules.commits c _ h
    | .dieHot false (.channel c) => exact rules.commits c _ h
    | .dieHot b .engine => exact hot b member h
    | .linkToArbiter => exact rules.lockLink h
    | .linkToEngine => exact rules.linkFaultToEngine h

end HeadRules

/-! ### A head SUSPENDED under DIE_HOT (R141) -/

/-- The engine was told of DIE_HOT, and its head is SUSPENDED. -/
structure HotRests (s : State) : Prop where
  hot : s.bal.dieHot = true
  rests : HeadRests s

theorem newHead_rests {f : State → State} {s : State} (hot : s.bal.dieHot = true) : HeadRests (newHead f s) := by
  unfold newHead
  split
  next empty => exact fun j head => absurd head (by rw [empty]; exact Option.not_mem_none j)
  next j rest _ =>
    rw [if_neg (by rw [State.balanceAllowed, hot]; simp)]
    intro i head
    rw [← Option.some.inj head]

theorem HotRests.reacts {E : List Effect} {s t : State} (h : HotRests s) (k : Reacts E s t) (nq : .queue ∉ E) (nh : .hot ∉ E) : HotRests t :=
  ⟨(k.hot_eq nh).trans h.hot, h.rests.reacts k nq⟩

/-- R138, R145: the next head of a queue under DIE_HOT is SUSPENDED. -/
theorem HotRests.finishHead {s : State} (h : HotRests s) (reason : EndReason) : HotRests (finishHead reason s) := by
  refine ⟨((endHead_reacts startChecks_reacts reason s).hot_eq (by decide)).trans h.hot, ?_⟩
  unfold Machine.finishHead endHead
  split
  · exact h.rests
  next j rest _ =>
    dsimp only
    have left : (s.setQueue rest).bal.dieHot = true := h.hot
    refine HeadRests.reacts (newHead_rests ?_) (queueEmptied_reacts (E := [.monitor]) _ (by decide)) (by decide)
    refine (recordEnding_reacts (E := engineEffects) _ (by decide) (by decide) j reason).hot_eq (by decide) |>.trans ?_
    split
    · exact left
    · exact ((withdrawLink_reacts (by decide) startChecks_reacts (by decide) _ _).hot_eq (by decide)).trans left

theorem hotRestsRules : HeadRules HotRests where
  toLinkRules := .of_blind (fun reacts h => h.reacts reacts (by decide) (by decide))
    (fun h => h.reacts (linkFollow_reacts _) (by decide) (by decide)) (fun h _ _ => ⟨h.hot, h.rests⟩)
    (fun h _ => ⟨h.hot, h.rests⟩) (fun h _ => ⟨h.hot, h.rests⟩) (fun h => ⟨h.hot, h.rests⟩) fun {s cause} h => by
      refine ⟨?_, h.rests.told cause⟩
      rw [reportLossToEngine_eq]
      exact h.hot
  apart k h := ⟨(congrArg Balance.dieHot k.bal :).trans h.hot, by unfold HeadRests; rw [k.bal]; exact h.rests⟩
  prot _ h := ⟨h.hot, h.rests⟩
  answers s h := ⟨((startChecks_reacts s).hot_eq (by decide)).trans h.hot, h.rests.startChecks⟩
  finishes reason h := h.finishHead reason
  credits {s j k rest} queue same h := ⟨h.hot, fun i head => by
    obtain rfl := Option.some.inj head
    exact same.trans (h.rests j (by rw [queue]; rfl))⟩
  locks h := ⟨h.hot, h.rests⟩
  commits {s} c y h := ⟨((commit_reacts s c y).hot_eq (by cases c <;> decide)).trans h.hot, h.rests.commit c y⟩

/-- R172: once told of DIE_HOT, and not of its clear. -/
theorem hotRests_parts {l : List FaultReport} (alone : .dieHot false .engine ∉ l) : PartRules l HotRests :=
  hotRestsRules.partRules fun {s} b member h => by
    cases b with
    | false => exact absurd member alone
    | true => exact ⟨(suspendHead_reacts _).hot_eq (by decide), suspendHead_rests _⟩

/-! ### A head released as DIE_HOT clears (R141, R172) -/

theorem headReleased_headRules : HeadRules HeadReleased where
  toLinkRules := headReleasedRules
  apart {s t} k h := by
    refine ⟨?_, by rw [k.bal]; exact h.2⟩
    rw [balanceAllowed_iff, State.Allowed, k.off, k.bal]
    exact (balanceAllowed_iff s).mp h.1
  prot _ h := h
  answers := HeadReleased.startChecks
  finishes reason h := endHead_released HeadReleased.startChecks startChecks_reacts h reason
  credits {s j k rest} queue same h := .setQueue h.1 (by rw [same]; exact h.2 j (by rw [queue]; rfl)) rest
  locks h := h
  commits c y h := h.commit c y

theorem headReleased_parts {l : List FaultReport} (alone : .dieHot true .engine ∉ l) : PartRules l HeadReleased :=
  headReleased_headRules.partRules fun {s} b member h => by
    cases b with
    | true => exact absurd member alone
    | false =>
      refine releaseHead_released ?_
      rw [balanceAllowed_iff]
      exact ⟨((balanceAllowed_iff s).mp h.1).1, rfl⟩

/-! ### The link under LINK_FAULT (R130, R174) -/

/-- The fault lock stands, and nobody holds the link. -/
structure Locked (a : Arbiter) : Prop where
  lock : a.faultLock = true
  unheld : ∀ r, a.link ≠ .held r

theorem lockedRules : BalanceArbRules Locked where
  grants _ _ h _ chosen := by
    rw [choose_of_locked h.lock] at chosen
    contradiction
  loses {a r} _ h held := absurd held (h.unheld r)
  frees h _ := ⟨h.lock, nofun⟩
  pends h := ⟨h.lock, h.unheld⟩
  asks h _ := ⟨h.lock, h.unheld⟩
  gives _ h held := absurd held (h.unheld _)
  unasks _ h _ := ⟨h.lock, h.unheld⟩

theorem locked_headRules : HeadRules fun s => Locked s.arb where
  toLinkRules := lockedRules.engineRules.toLinkRules
  apart k h := by
    rw [k.arb]
    exact h
  prot _ h := h
  answers := lockedRules.engineRules.startChecks
  finishes reason h := lockedRules.engineRules.finishHead h reason
  credits _ _ h := h
  locks h := ⟨rfl, h.unheld⟩
  commits {s} c y h := lockedRules.engineRules.commit (fun _ h => h) (fun _ h => h)
    (fun n h => by rw [(takeCharge_reacts _ n).arb_eq (by decide) (by decide)]; exact h) (fun h _ => ⟨h.lock, h.unheld⟩)
    (fun h held => absurd held (h.unheld _)) (fun h _ => ⟨h.lock, h.unheld⟩) h

theorem locked_parts (l : List FaultReport) : PartRules l fun s => Locked s.arb :=
  locked_headRules.partRules fun {s} b _ h => by
    cases b with
    | true => exact lockedRules.engineRules.suspendHead (s := s.setEngineHot true) h
    | false => exact lockedRules.engineRules.releaseHead (s := s.setEngineHot false) h

theorem lossTaken_arb (r : Requester) (stands : Bool) (s : State) : (lossTaken r stands s).arb = s.arb.lost s.now r stands := by
  have followed : (linkFollow (s.setArb (s.arb.lost s.now r stands))).arb = s.arb.lost s.now r stands := linkFollow_arb _
  unfold lossTaken
  dsimp only
  split
  · exact (reportToB_sameUsers _ _).arb.trans followed
  · exact followed

/-- R130: the arbiter takes a raise of LINK_FAULT. -/
theorem lockLink_locked (s : State) : Locked (lockLink s).arb := by
  let l := s.setArb { s.arb with faultLock := true }
  have lost (r : Requester) : Locked (lossOf .linkFault r l).arb :=
    lockedRules.toArbRules.linkRules.loseLink_of lockedRules.engineRules.startChecks (s := l) (cause := .linkFault) (by
      show Locked (lossTaken r (LossCause.linkFault != .withdrawal) l).arb
      rw [lossTaken_arb]
      exact ⟨lost_faultLock _ _ _ _, by cases r <;> nofun⟩)
  unfold lockLink
  dsimp only
  split
  next r held => exact lockedRules.engineRules.linkFaultToEngine (lost r)
  next free => exact ⟨rfl, by rw [show l.arb.link = .free from free]; nofun⟩
  next changing => exact ⟨rfl, by rw [show l.arb.link = .changeover from changing]; nofun⟩

end Sys2Proof.Machine
end

section
/-! A head RUNS only while BALANCE holds the link (R140, R174), for O27. -/

namespace Sys2Proof.Machine

/-- The head, where there is one, does not run. -/
def HeadIdle (s : State) : Prop := ∀ j ∈ s.bal.queue.head?, j.state ≠ .running

/-- The head runs only while BALANCE holds the link. -/
def RunsHeld (s : State) : Prop := HeadIdle s ∨ s.arb.link = .held .balance

section
variable {s t : State} {f : State → State}

theorem HeadIdle.of_queue {j : Job} (rests : j.state ≠ .running) (rest : List Job) : HeadIdle (s.setQueue (j :: rest)) := by
  intro i head
  obtain rfl := Option.some.inj head
  exact rests

theorem HeadIdle.of_nil (empty : s.bal.queue = []) : HeadIdle s := by
  unfold HeadIdle
  rw [empty]
  nofun

theorem headIdleRules : BalRules HeadIdle where
  same {s t} h bal := by
    unfold HeadIdle
    rw [bal]
    exact h
  told {s cause} h := by
    rw [reportLossToEngine_eq, lossQueue_rests h]
    exact h

theorem RunsHeld.reacts {E : List Effect} (k : Reacts E s t) (na : .arb ∉ E) (nl : .lock ∉ E) (nq : .queue ∉ E) (h : RunsHeld s) : RunsHeld t := by
  unfold RunsHeld HeadIdle
  rw [k.arb_eq na nl, k.queue_eq nq]
  exact h

theorem RunsHeld.calm (k : Reacts (.monitor :: calmEffects) s t) : RunsHeld s → RunsHeld t := .reacts k (by decide) (by decide) (by decide)

theorem HeadIdle.raiseBalance (answers : ∀ s, HeadIdle s → s.arb.link = .held .balance → RunsHeld (f s)) (h : HeadIdle s) :
    RunsHeld (raiseLink f .balance s) := headIdleRules.raiseLink_then .inl RunsHeld.calm answers h .balance

/-- R138: the next head waits, until it is granted the link. -/
theorem newHead_runsHeld (answers : ∀ s, HeadIdle s → s.arb.link = .held .balance → RunsHeld (f s)) : RunsHeld (newHead f s) := by
  unfold newHead
  split
  next empty => exact .inl (.of_nil empty)
  next j rest _ =>
    split
    · exact (HeadIdle.of_queue (j := { j with state := .queued }) nofun rest).raiseBalance answers
    · exact .inl (.of_queue (j := { j with state := .suspended }) nofun rest)

theorem endHead_runsHeld (answers : ∀ s, HeadIdle s → s.arb.link = .held .balance → RunsHeld (f s)) (reason : EndReason) :
    RunsHeld (endHead f reason s) := by
  unfold endHead
  split
  next empty => exact .inl (.of_nil empty)
  next => exact (newHead_runsHeld answers).reacts (queueEmptied_reacts (E := [.monitor]) _ (by decide)) (by decide) (by decide) (by decide)

/-- R139: a head that is granted the link RUNS, or leaves its place to one that waits. -/
theorem startChecks_runsHeld (held : s.arb.link = .held .balance) : RunsHeld (startChecks s) := by
  unfold startChecks
  split
  · exact .inr held
  next j rest _ =>
    split
    · split
      next way _ => exact .inr ((congrArg Arbiter.link (linkFollow_arb (s.setQueue (headRuns j way s.now :: rest))) :).trans held)
      next => exact endHead_runsHeld (fun _ idle _ => .inl idle) _
    · exact .inr held

theorem finishHead_runsHeld (reason : EndReason) (s : State) : RunsHeld (finishHead reason s) :=
  endHead_runsHeld (fun _ _ => startChecks_runsHeld) reason

theorem endAll_runsHeld (n : Nat) : ∀ {s : State}, RunsHeld s → RunsHeld (endAll n s) := by
  induction n with
  | zero => exact id
  | succ n ih => exact fun _ => ih (finishHead_runsHeld _ _)

/-- R148: a head that runs is ended. -/
theorem linkFaultToEngine_runsHeld (s : State) : RunsHeld (linkFaultToEngine s) := by
  unfold linkFaultToEngine
  split
  next empty => exact .inl (.of_nil empty)
  next j rest queue =>
    split
    · exact finishHead_runsHeld _ _
    next rests =>
      refine .inl fun i head => ?_
      rw [queue] at head
      obtain rfl := Option.some.inj head
      exact rests

theorem suspendHead_runsHeld (s : State) : RunsHeld (suspendHead s) :=
  .inl fun j head => by
    rw [suspendHead_rests s j head]
    nofun

theorem RunsHeld.releaseHead (h : RunsHeld s) : RunsHeld (releaseHead s) := by
  unfold Machine.releaseHead
  split
  · exact h
  next j rest _ =>
    split
    · exact (HeadIdle.of_queue (j := { j with state := .queued }) nofun rest).raiseBalance fun _ _ => startChecks_runsHeld
    · exact h

/-- R126: an event of channel B leaves a head that BALANCE runs for. -/
theorem RunsHeld.commit (h : RunsHeld s) (c : Cell) (y : Change) : RunsHeld (commit c y s) := by
  obtain idle | held := h
  · exact headIdleRules.commit_then .inl RunsHeld.calm (fun _ _ => startChecks_runsHeld) idle c y
  · cases c with
    | a =>
      refine .inr ?_
      rw [(commit_a_reacts y s).arb_eq (by decide) (by decide)]
      exact held
    | b => exact .inr (commit_b_held held).1

theorem RunsHeld.cases (h : RunsHeld s) : HeadIdle s ∨ s.arb.link = .held .balance ∧ ∃ j rest, s.bal.queue = j :: rest ∧ j.state = .running := by
  by_cases idle : HeadIdle s
  · exact .inl idle
  · refine .inr ⟨h.resolve_left idle, ?_⟩
    unfold HeadIdle at idle
    push Not at idle
    obtain ⟨j, head, runs⟩ := idle
    exact ⟨j, _, (List.cons_head?_tail head).symm, runs⟩

/-- R128: a head that yields runs no more. -/
theorem RunsHeld.quantumReport (h : RunsHeld s) : RunsHeld (quantumReport s) := by
  unfold Machine.quantumReport
  split
  · obtain idle | ⟨-, j, rest, queue, runs⟩ := h.cases
    · exact headIdleRules.linkRules.loseLink_then .inl (fun k => RunsHeld.calm (k.mono (by decide))) (fun _ _ => startChecks_runsHeld)
        (cause := .yield) (headIdleRules.lost idle .balance true)
    · refine .inl fun i head => ?_
      rw [(yieldBalance_state queue runs).2] at head
      obtain rfl := Option.some.inj head
      nofun
  · exact h

theorem RunsHeld.engineSample (h : RunsHeld s) : RunsHeld (engineSample s) := by
  cases queue : s.bal.queue with
  | nil =>
    rw [Machine.engineSample, queue]
    exact h
  | cons j rest =>
    have credited : RunsHeld (s.setQueue (creditedHead j s :: rest)) :=
      h.imp (fun idle => .of_queue (j := creditedHead j s) (idle j (by rw [queue]; rfl)) rest) id
    have after : RunsHeld (afterCredit j rest s) := by
      unfold afterCredit
      split
      · exact credited.quantumReport
      · exact credited
    rw [engineSample_cons queue]
    split
    · exact finishHead_runsHeld _ _
    · exact after

theorem RunsHeld.lockLink (h : RunsHeld s) : RunsHeld (lockLink s) := by
  unfold Machine.lockLink
  dsimp only
  split
  · exact linkFaultToEngine_runsHeld _
  · exact h
  · exact h

/-- R140, R174: every part of a sample. -/
theorem runsHeld_parts (l : List FaultReport) : PartRules l RunsHeld where
  apart {s t} k _ h := by
    unfold RunsHeld HeadIdle
    rw [k.arb, k.bal]
    exact h
  prot _ h := h
  samples c h := h.commit c _
  engine h := h.engineSample
  reports {s} x _ h := by
    match x with
    | .cellToChannel c => exact h.commit c _
    | .cellToEngine => exact endAll_runsHeld _ h
    | .dieHot true (.channel c) => exact h.commit c _
    | .dieHot false (.channel c) => exact h.commit c _
    | .dieHot true .engine => exact suspendHead_runsHeld _
    | .dieHot false .engine => exact RunsHeld.releaseHead (s := s.setEngineHot false) h
    | .linkToArbiter => exact h.lockLink
    | .linkToEngine => exact linkFaultToEngine_runsHeld s

end

end Sys2Proof.Machine
end

section
/-! The job that RAN while LINK_FAULT was raised has ended (R148, R174), for O27. -/

namespace Sys2Proof.Machine

section
variable {s t : State} {n : Nat} {last : PerPort (Option LastResult)} {j : Job} {rest : List Job} {l : List FaultReport}

/-! ### An event that leaves channel B not ACTIVE (R99) -/

/-- R99, R117: CHARGE_B, where it does not hold the link, but waits no more. -/
theorem commit_b_idle_unheld {y : Change} (idle : y.ch.state ≠ .active) (unheld : s.arb.link ≠ .held .chargeB) :
    (commit .b y s).bal = s.bal ∧ ((commit .b y s).arb = s.arb ∨ (commit .b y s).arb = (unasked .chargeB s).arb) := by
  have changed := changedB_reacts y s
  have arb : (changedB y s).arb = s.arb := changed.arb_eq (by decide) (by decide)
  have bal : (changedB y s).bal = s.bal := changed.bal_eq (by decide) (by decide) (by decide)
  have state : (changedB y s).chB.state ≠ .active := by
    rw [show (changedB y s).chB.state = y.ch.state from (congrArg Channel.state (changedB_chB y s) :)]
    exact idle
  have settled := settleChange_reacts y s.chB.state (syncChargeB (changedB y s))
  rw [commit_b_eq, settled.arb_eq (by decide) (by decide), settled.bal_eq (by decide) (by decide) (by decide)]
  generalize changedB y s = u at arb bal state ⊢
  have wantsNot : u.chB.wantsLink u.profile = false := by
    rw [Channel.wantsLink, beq_eq_false_iff_ne.mpr state]
    rfl
  unfold syncChargeB
  dsimp only
  rw [wantsNot]
  split
  · exact ⟨bal, .inl arb⟩
  · refine ⟨?_, .inr ?_⟩
    · rw [if_neg nofun, withdrawReq, withdrawLink_unheld _ (by show u.arb.link ≠ _; rw [arb]; exact unheld)]
      exact bal
    · rw [if_neg nofun, withdrawReq, withdrawLink_unheld _ (by show u.arb.link ≠ _; rw [arb]; exact unheld)]
      show (unasked .chargeB u).arb = (unasked .chargeB s).arb
      unfold unasked State.setArb
      dsimp only
      rw [arb]

/-! ### A head that has not run (R134, R142) -/

theorem countedTime_fresh (fresh : j.runs = []) (rests : j.state ≠ .running) (start stop : Nat) : j.countedTime start stop = 0 := by
  rw [Job.countedTime_eq, List.length_eq_zero_iff, List.filter_eq_nil_iff]
  intro k _
  rw [fresh, decide_eq_false rests]
  simp

/-- R142, R144: there is nothing to credit to it. -/
theorem engineSample_fresh {st : JobState} (rests : st ≠ .running) {q : List Job} (fresh : ∀ k ∈ q.head?, k.Fresh ∧ 1 ≤ k.count)
    (queue : s.bal.queue = headed st q) : engineSample s = s := by
  cases q with
  | nil => rw [engineSample, show s.bal.queue = [] from queue]
  | cons k rest =>
    obtain ⟨⟨-, resolved, moved, residue, since, runs⟩, count⟩ := fresh k rfl
    let h : Job := { k with state := st }
    have is : s.bal.queue = h :: rest := queue
    have none : creditOf h s = 0 := by
      rw [creditOf, countedTime_fresh (j := h) runs rests, Job.credit, if_pos rfl]
    have same : creditedHead h s = h := by
      rw [creditedHead, none]
      cases k
      cases moved
      cases residue
      cases runs
      simp [h, Job.credited]
    have goes : (creditedHead h s).endsOn s.sample (h.completed (creditOf h s)) = Option.none := by
      have unfinished : k.moved ≠ k.count := by omega
      have quanta : h.completed 0 = 0 := by
        rw [Job.completed, show h.residue = 0 from residue]
        rfl
      rw [same, none, quanta, Job.endsOn_eq]
      simp [h, unfinished, rests]
    rw [engineSample_goesOn is goes, afterCredit_keeps fun runs => rests runs.1, same, ← is]
    rfl

/-! ### The jobs behind wait out the backoff (R129, R138) -/

/-- The reports of a sample that change no cell's faults and raise no DIE_HOT. -/
def FaultReport.spares : FaultReport → Bool
  | .cellToChannel _ => false
  | .cellToEngine => false
  | .dieHot b _ => !b
  | .linkToArbiter => true
  | .linkToEngine => true

theorem noticed_parts (l : List FaultReport) (p : Port) (k : Notice) : PartRules l fun s => Noticed s p k where
  apart _ mono := mono p k
  prot _ h := h
  samples c h := (channelSample_reacts _ c).noticed h
  engine h := (engineSample_reacts _).noticed h
  reports x _ h := (takeReport_reacts _ x).noticed h

theorem PartRules.and {P Q : State → Prop} (p : PartRules l P) (q : PartRules l Q) : PartRules l fun s => P s ∧ Q s where
  apart k mono h := ⟨p.apart k mono h.1, q.apart k mono h.2⟩
  prot x h := ⟨p.prot x h.1, q.prot x h.2⟩
  samples c h := ⟨p.samples c h.1, q.samples c h.2⟩
  engine h := ⟨p.engine h.1, q.engine h.2⟩
  reports x member h := ⟨p.reports x member h.1, q.reports x member h.2⟩

theorem linkFaultToEngine_idle (h : HeadIdle s) : linkFaultToEngine s = s := by
  unfold linkFaultToEngine
  split
  · rfl
  next j rest queue => exact if_neg (h j (by rw [queue]; rfl))

variable {jobs : List Job}

theorem Passes.releaseHead (h : Passes n last jobs s) : Passes n last jobs (releaseHead s) := by
  obtain ⟨st, -, queue⟩ := h.head
  cases jobs with
  | nil =>
    rw [Machine.releaseHead, show s.bal.queue = [] from queue]
    exact h
  | cons k rest =>
    rw [Machine.releaseHead, queue]
    dsimp only [headed]
    split
    · have named : Passes n last (k :: rest) (s.setQueue ({ k with state := .queued } :: rest)) := ⟨h.arb, h.last, .queued, nofun, rfl⟩
      exact named.raiseLink startChecks .balance
    · exact h

theorem Passes.lockLink (h : Passes n last jobs s) : Passes n last jobs (lockLink s) := by
  let w := s.setArb { s.arb with faultLock := true }
  have still : Still n s.bal w := ⟨⟨h.arb.unheld, h.arb.backoff⟩, rfl⟩
  unfold Machine.lockLink
  dsimp only
  split
  next r held =>
    have passes : Passes n last jobs (lossOf .linkFault r w) := h.of_still rfl (still.lossOf h.rests held nofun)
    rw [linkFaultToEngine_idle passes.rests]
    exact passes
  next => exact h.of_still rfl still
  next => exact h.of_still rfl still

theorem passes_parts (spared : ∀ x ∈ l, x.spares = true) (fresh : ∀ k ∈ jobs.head?, k.Fresh ∧ 1 ≤ k.count) :
    PartRules l (Passes n last jobs) where
  apart k _ h := h.of_still rfl ⟨by rw [k.arb]; exact h.arb, k.bal⟩
  prot _ h := ⟨h.arb, h.last, h.head⟩
  samples c h := h.commit c _
  engine h := by
    obtain ⟨st, rests, queue⟩ := h.head
    rw [engineSample_fresh rests fresh queue]
    exact h
  reports {s} x member h := by
    have spares := spared x member
    match x with
    | .dieHot false (.channel c) => exact h.commit c _
    | .dieHot false .engine => exact Passes.releaseHead (s := s.setEngineHot false) ⟨h.arb, h.last, h.head⟩
    | .linkToArbiter => exact h.lockLink
    | .linkToEngine =>
      show Passes n last jobs (linkFaultToEngine s)
      rw [linkFaultToEngine_idle h.rests]
      exact h

/-- R130: a loss to LINK_FAULT leaves the head to the report that follows. -/
theorem lossQueue_linkFault (now : Nat) (q : List Job) : lossQueue .linkFault now q = q := by
  cases q with
  | nil => rfl
  | cons j rest => simp [lossQueue]

/-! ### The job that RAN (R144, R148, R174) -/

/-- The end reasons of R144 and R148. -/
abbrev runningReasons : List EndReason := [.fault, .countDone, .levelReached, .destFull, .sourceLow]

/-- The head RUNS on the link, and is not to yield. -/
structure JobGoes (last : PerPort (Option LastResult)) (j : Job) (rest : List Job) (s : State) : Prop where
  held : s.arb.link = .held .balance
  stays : s.arb.yieldPending = false
  last : s.bal.last = last
  head : ∃ k, s.bal.queue = k :: rest ∧ k.state = .running ∧ k.tag = j.tag ∧ k.originator = j.originator

/-- The job has ended, and its originator is told. -/
def JobOver (last : PerPort (Option LastResult)) (j : Job) (rest : List Job) (s : State) : Prop :=
  ∃ r ∈ runningReasons, ∃ n moved,
    Passes n (last.set j.originator (some { tag := j.tag, reason := r, moved := moved })) rest s ∧ Noticed s j.originator .balDone

theorem endsOn_reason {x : Sample} {quanta : Nat} {r : EndReason} (ends : j.endsOn x quanta = some r) : r ∈ runningReasons := by
  rw [Job.endsOn_eq] at ends
  split at ends
  · cases ends
    decide
  · split at ends
    · cases ends
      decide
    · split at ends
      · cases ends
        decide
      · split at ends
        · cases ends
          decide
        · cases ends

theorem jobOver_parts (spared : ∀ x ∈ l, x.spares = true) (fresh : ∀ k ∈ rest.head?, k.Fresh ∧ 1 ≤ k.count) :
    PartRules l (JobOver last j rest) := by
  have rules (n : Nat) (results : PerPort (Option LastResult)) : PartRules l fun s => Passes n results rest s ∧ Noticed s j.originator .balDone :=
    (passes_parts spared fresh).and (noticed_parts l _ _)
  exact {
    apart := fun k mono ⟨r, reason, n, moved, h⟩ => ⟨r, reason, n, moved, (rules _ _).apart k mono h⟩
    prot := fun x ⟨r, reason, n, moved, h⟩ => ⟨r, reason, n, moved, (rules _ _).prot x h⟩
    samples := fun c ⟨r, reason, n, moved, h⟩ => ⟨r, reason, n, moved, (rules _ _).samples c h⟩
    engine := fun ⟨r, reason, n, moved, h⟩ => ⟨r, reason, n, moved, (rules _ _).engine h⟩
    reports := fun x member ⟨r, reason, n, moved, h⟩ => ⟨r, reason, n, moved, (rules _ _).reports x member h⟩ }

namespace JobGoes
variable (h : JobGoes last j rest s)
include h

theorem ended {f : State → State} {k : Job} {r : EndReason} (reason : r ∈ runningReasons) (tag : k.tag = j.tag)
    (originator : k.originator = j.originator)
    (ends : Passes n (s.bal.last.set k.originator (some { tag := k.tag, reason := r, moved := k.moved })) rest (f s)
      ∧ Noticed (f s) k.originator .balDone) : JobOver last j rest (f s) := by
  obtain ⟨passes, told⟩ := ends
  rw [h.last, tag, originator] at passes
  rw [originator] at told
  exact ⟨r, reason, n, k.moved, passes, told⟩

theorem commit {c : Cell} {y : Change} (idle : c = .b → y.ch.state ≠ .active) : JobGoes last j rest (commit c y s) := by
  cases c with
  | a =>
    have k := commit_a_reacts y s
    have arb : (Machine.commit .a y s).arb = s.arb := k.arb_eq (by decide) (by decide)
    have bal : (Machine.commit .a y s).bal = s.bal := k.bal_eq (by decide) (by decide) (by decide)
    exact ⟨by rw [arb]; exact h.held, by rw [arb]; exact h.stays, by rw [bal]; exact h.last, by rw [bal]; exact h.head⟩
  | b =>
    obtain ⟨bal, arb⟩ := commit_b_idle_unheld (idle rfl) (s := s) (by rw [h.held]; nofun)
    have link : (Machine.commit .b y s).arb.link = s.arb.link := by
      rcases arb with arb | arb
      · rw [arb]
      · rw [arb]
        rfl
    have stays : (Machine.commit .b y s).arb.yieldPending = false := by
      rcases arb with arb | arb
      · rw [arb]
        exact h.stays
      · rw [arb]
        show (if _ then _ else _) = false
        rw [h.stays]
        simp
    exact ⟨link.trans h.held, stays, by rw [bal]; exact h.last, by rw [bal]; exact h.head⟩

/-- R142, R144: the head is credited, and may end. -/
theorem engineSample : JobGoes last j rest (engineSample s) ∨ JobOver last j rest (engineSample s) := by
  obtain ⟨k, queue, runs, tag, originator⟩ := h.head
  cases ends : (creditedHead k s).endsOn s.sample (k.completed (creditOf k s)) with
  | some r =>
    exact .inr (h.ended (f := Machine.engineSample) (k := creditedHead k s) (endsOn_reason ends) tag originator
      (engineSample_ends h.held queue runs ends))
  | none =>
    rw [engineSample_goesOn queue ends, afterCredit_keeps fun yields => by rw [h.stays] at yields; exact nomatch yields.2.2.1]
    exact .inl ⟨h.held, h.stays, h.last, creditedHead k s, rfl, runs, tag, originator⟩

theorem linkFaultToEngine : JobOver last j rest (linkFaultToEngine s) := by
  obtain ⟨k, queue, runs, tag, originator⟩ := h.head
  have is : Machine.linkFaultToEngine s = finishHead .fault s := by rw [Machine.linkFaultToEngine, queue]; exact if_pos runs
  rw [is]
  exact h.ended (f := finishHead .fault) (by decide) tag originator
    (endHead_gives queue startChecks_reacts .fault h.held (by rw [runs]; nofun))

theorem lockLink : JobOver last j rest (lockLink s) := by
  obtain ⟨k, queue, runs, tag, originator⟩ := h.head
  let w := s.setArb { s.arb with faultLock := true }
  obtain ⟨off, bal⟩ := lossOf_balance .linkFault w
  have queueW : (lossOf .linkFault .balance w).bal.queue = k :: rest := by
    rw [bal]
    exact (lossQueue_linkFault _ _).trans queue
  have is : Machine.lockLink s = finishHead .fault (lossOf .linkFault .balance w) := by
    have locked : Machine.lockLink s = Machine.linkFaultToEngine (lossOf .linkFault .balance w) := by
      unfold Machine.lockLink
      dsimp only
      split
      next r held =>
        obtain rfl : r = .balance := LinkState.held.inj (held.symm.trans h.held)
        rfl
      next free => exact absurd (free.symm.trans h.held) nofun
      next changing => exact absurd (changing.symm.trans h.held) nofun
    rw [locked, Machine.linkFaultToEngine, queueW]
    exact if_pos runs
  have ended := finishHead_passes queueW .fault off
  rw [is]
  rw [bal] at ended
  exact h.ended (f := fun s => finishHead .fault (lossOf .linkFault .balance w)) (by decide) tag originator ended

end JobGoes

/-- R144, R174: so through a whole sample, channel B not ACTIVE. -/
theorem jobGoes_parts (spared : ∀ x ∈ l, x.spares = true) (fresh : ∀ k ∈ rest.head?, k.Fresh ∧ 1 ≤ k.count) :
    PartRules l fun s => s.chB.state ≠ .active ∧ (JobGoes last j rest s ∨ JobOver last j rest s) := by
  have idle : PartRules l fun s => s.chB.state ≠ .active := (notActive_rules l .b).partRules
  have done : PartRules l (JobOver last j rest) := jobOver_parts spared fresh
  exact {
    apart := fun {s t} k mono h => ⟨idle.apart k mono h.1, h.2.imp
      (fun goes => ⟨by rw [k.arb]; exact goes.held, by rw [k.arb]; exact goes.stays, by rw [k.bal]; exact goes.last, by rw [k.bal]; exact goes.head⟩)
      (done.apart k mono)⟩
    prot := fun x h => ⟨h.1, h.2.imp (fun goes => ⟨goes.held, goes.stays, goes.last, goes.head⟩) (done.prot x)⟩
    samples := fun {s} c h => ⟨idle.samples c h.1, h.2.imp
      (fun goes => goes.commit fun own => by subst own; exact (notActive_rules l .b).sample _ _ h.1) (done.samples c)⟩
    engine := fun h => ⟨idle.engine h.1, h.2.elim JobGoes.engineSample fun is => .inr (done.engine is)⟩
    reports := fun {s} x member h => by
      refine ⟨idle.reports x member h.1, h.2.elim (fun goes => ?_) fun is => .inr (done.reports x member is)⟩
      have spares := spared x member
      match x with
      | .dieHot false (.channel c) =>
        refine .inl (goes.commit fun own => ?_)
        subst own
        exact (notActive_rules [.dieHot false (.channel .b)] .b).hot _ false (List.mem_singleton_self _) h.1
      | .dieHot false .engine =>
        obtain ⟨k, queue, runs, named⟩ := goes.head
        have same : releaseHead (s.setEngineHot false) = s.setEngineHot false := by
          rw [releaseHead, show (s.setEngineHot false).bal.queue = k :: rest from queue]
          exact if_neg (by rw [runs]; simp)
        show JobGoes last j rest (releaseHead (s.setEngineHot false)) ∨ _
        rw [same]
        exact .inl ⟨goes.held, goes.stays, goes.last, goes.head⟩
      | .linkToArbiter => exact .inr goes.lockLink
      | .linkToEngine => exact .inr goes.linkFaultToEngine }

end

end Sys2Proof.Machine
end

section
/-! A latched cell fault ends every job with FAULT (R148, R170), for O27. -/

namespace Sys2Proof.Machine

section
variable {s t : State} {f : State → State} {last : PerPort (Option LastResult)} {jobs rest : List Job} {j : Job}

/-! ### BALANCE cannot be granted as the jobs end (R119, R138) -/

/-- No grant follows as a next head raises BALANCE, or no head may raise it. -/
def Bars (s : State) : Prop :=
  (∃ n, HeldOff n s.arb) ∨ s.balanceAllowed = false ∨ s.arb.link = .changeover ∨ s.arb.link = .held .supply

/-- So, and the head waits; where it may not raise BALANCE, it is SUSPENDED. -/
structure Barred (s : State) : Prop where
  bars : Bars s
  idle : HeadIdle s
  rests : s.balanceAllowed = false → HeadRests s

theorem allowed_of_reacts {E : List Effect} (k : Reacts E s t) (nh : .hot ∉ E) : t.balanceAllowed = s.balanceAllowed := by
  rw [Bool.eq_iff_iff, k.allowed_iff nh]

theorem Barred.congr (h : Barred s) (link : t.arb.link = s.arb.link) (backoff : t.arb.backoffBalance = s.arb.backoffBalance)
    (bal : t.bal = s.bal) (allowed : t.balanceAllowed = s.balanceAllowed) : Barred t := by
  obtain ⟨bars, idle, rests⟩ := h
  refine ⟨?_, headIdleRules.same idle bal, fun shut => ?_⟩
  · rw [Bars, link, allowed]
    exact bars.imp_left fun ⟨n, off⟩ => ⟨n, by rw [link]; exact off.unheld, backoff.trans off.backoff⟩
  · unfold HeadRests
    rw [bal]
    exact rests (allowed.symm.trans shut)

theorem newHead_shut (shut : s.balanceAllowed = false) : newHead f s = s.setQueue (headed .suspended s.bal.queue) := by
  unfold newHead
  split
  next empty =>
    rw [empty]
    show s = s.setQueue []
    rw [← empty]
    rfl
  next queue => rw [queue]; exact if_neg (by rw [shut]; nofun)

/-- R124, R126: SUPPLY keeps the link from BALANCE, and a changeover has its end yet to come. -/
theorem raiseBalance_held_back (waits : s.arb.link = .changeover ∨ s.arb.link = .held .supply) :
    raiseReq .balance s = s ∨ raiseReq .balance s = asked .balance s := by
  by_cases asks : s.arb.waiting.balance = true
  · exact .inl (if_pos (Bool.or_eq_true_iff.mpr (.inr asks)))
  · exact .inr (raiseBalance_waits (Bool.eq_false_iff.mpr asks) (waits.imp_right .inl))

/-- R138: the next job becomes the head. -/
theorem newHead_barred (bars : Bars s) : Barred (newHead startChecks s) ∧ JobsStand s.bal.last s.bal.queue (newHead startChecks s) := by
  have allowed := allowed_of_reacts (newHead_reacts startChecks_reacts s) (by decide)
  by_cases shut : s.balanceAllowed = false
  · have rests : HeadRests (newHead startChecks s) := by
      rw [newHead_shut shut]
      cases s.bal.queue with
      | nil => nofun
      | cons k more =>
        intro i head
        obtain rfl := Option.some.inj head
        rfl
    refine ⟨⟨.inr (.inl (allowed.trans shut)), fun j head => by rw [rests j head]; nofun, fun _ => rests⟩, ?_⟩
    rw [newHead_shut shut]
    exact ⟨rfl, headed_plain _ _⟩
  · have mayRaise (now : (newHead startChecks s).balanceAllowed = false) : HeadRests (newHead startChecks s) := absurd (allowed.symm.trans now) shut
    obtain ⟨n, off⟩ | waits := bars.imp_right (Or.resolve_left · shut)
    · have passes := newHead_passes startChecks off
      obtain ⟨arb, last, jobs, rests⟩ := passes.waitsOut
      exact ⟨⟨.inl ⟨n, arb⟩, rests, mayRaise⟩, last, jobs⟩
    · cases queue : s.bal.queue with
      | nil =>
        have same : newHead startChecks s = s := by rw [newHead, queue]
        rw [same] at mayRaise ⊢
        exact ⟨⟨.inr (.inr waits), .of_nil queue, mayRaise⟩, rfl, by rw [queue]⟩
      | cons k more =>
        let w := s.setQueue ({ k with state := .queued } :: more)
        have raised : newHead startChecks s = raiseReq .balance w := by
          rw [newHead, queue]
          exact if_pos (Bool.eq_true_of_not_eq_false shut)
        have named : HeadIdle w := .of_queue (j := { k with state := .queued }) nofun more
        have stands : (newHead startChecks s).bal = w.bal ∧ (newHead startChecks s).arb.link = s.arb.link := by
          rw [raised]
          rcases raiseBalance_held_back (s := w) waits with is | is
          all_goals
            rw [is]
            exact ⟨rfl, rfl⟩
        obtain ⟨bal, link⟩ := stands
        exact ⟨⟨.inr (.inr (by rw [link]; exact waits)), headIdleRules.same named bal, mayRaise⟩, by rw [bal]; rfl, by rw [bal]; rfl⟩

/-- R145: a head ends with FAULT. -/
theorem finishHead_barred (h : Barred s) (queue : s.bal.queue = j :: rest) : Barred (finishHead .fault s)
    ∧ JobsStand (s.bal.last.set j.originator (some { tag := j.tag, reason := .fault, moved := j.moved })) rest (finishHead .fault s) := by
  let w := if j.state = .suspended then s.setQueue rest else withdrawLink startChecks .balance (s.setQueue rest)
  let r := recordEnding j .fault w
  have ended : finishHead .fault s = queueEmptied (newHead startChecks r) := by rw [finishHead, endHead, queue]
  have left : Bars w ∧ w.bal = { s.bal with queue := rest } := by
    by_cases suspended : j.state = .suspended
    · have is : w = s.setQueue rest := if_pos suspended
      rw [is]
      exact ⟨h.bars, rfl⟩
    · have allowed : s.balanceAllowed ≠ false := fun shut => suspended (h.rests shut j (by rw [queue]; rfl))
      have bars := h.bars
      have unheld : s.arb.link ≠ .held .balance := by
        obtain ⟨n, off⟩ | shut | changing | supply := bars
        · exact off.unheld
        · exact absurd shut allowed
        · rw [changing]; nofun
        · rw [supply]; nofun
      have is : w = unasked .balance (s.setQueue rest) := (if_neg suspended).trans (withdrawLink_unheld _ unheld)
      rw [is]
      exact ⟨bars.imp_left fun ⟨n, off⟩ => ⟨n, off.unheld, off.backoff⟩, rfl⟩
  obtain ⟨bars, bal⟩ := left
  obtain ⟨barred, jobs⟩ := newHead_barred (s := r) bars
  have lastR : r.bal.last = s.bal.last.set j.originator (some { tag := j.tag, reason := .fault, moved := j.moved }) := by
    show w.bal.last.set _ _ = _
    rw [bal]
  have queueR : r.bal.queue = rest := (congrArg Balance.queue bal :)
  rw [lastR, queueR] at jobs
  have emptied : Reacts [.monitor] (newHead startChecks r) (queueEmptied (newHead startChecks r)) := queueEmptied_reacts _ (by decide)
  have arb := emptied.arb_eq (by decide) (by decide)
  rw [ended]
  exact ⟨barred.congr (by rw [arb]) (by rw [arb]) (emptied.bal_eq (by decide) (by decide) (by decide)) (allowed_of_reacts emptied (by decide)),
    jobs.reacts emptied (by decide) (by decide)⟩

/-! ### Every job ends (R148, R170) -/

/-- The last results once these jobs have ended with FAULT. -/
def faulted (jobs : List Job) (last : PerPort (Option LastResult)) : PerPort (Option LastResult) :=
  jobs.foldl (fun last j => last.set j.originator (some { tag := j.tag, reason := .fault, moved := j.moved })) last

theorem faulted_get (p : Port) (jobs : List Job) (last : PerPort (Option LastResult)) : ∀ j ∈ (jobs.filter (fun k => k.originator == p)).getLast?,
    (faulted jobs last).get p = some { tag := j.tag, reason := .fault, moved := j.moved } := by
  induction jobs using List.reverseRecOn with
  | nil => exact nofun
  | append_singleton jobs k ih =>
    intro j latest
    rw [faulted, List.foldl_append]
    show ((faulted jobs last).set k.originator _).get p = _
    rw [List.filter_append] at latest
    by_cases own : k.originator = p
    · subst own
      rw [List.filter_singleton, beq_self_eq_true] at latest
      obtain rfl : k = j := by simpa using latest
      exact PerPort.get_set_self _ _ _
    · rw [List.filter_singleton, beq_eq_false_iff_ne.mpr own] at latest
      rw [PerPort.get_set_other _ (Ne.symm own)]
      exact ih j (by simpa using latest)

/-- No job is queued, and the last results are these. -/
structure NoJobs (last : PerPort (Option LastResult)) (s : State) : Prop where
  empty : s.bal.queue = []
  last : s.bal.last = last

/-- The jobs have ended with FAULT, and their originators are told. -/
def AllFaulted (jobs : List Job) (last : PerPort (Option LastResult)) (s : State) : Prop :=
  NoJobs (faulted jobs last) s ∧ ∀ j ∈ jobs, Noticed s j.originator .balDone

theorem plain_cons {q : List Job} (plain : q.map Job.plain = (j :: rest).map Job.plain) : ∃ k more, q = k :: more ∧ k.plain = j.plain
    ∧ more.map Job.plain = rest.map Job.plain := by
  cases q with
  | nil => exact nomatch plain
  | cons k more =>
    obtain ⟨head, tail⟩ := List.cons.inj plain
    exact ⟨k, more, rfl, head, tail⟩

theorem endAll_barred (jobs : List Job) : ∀ {s : State} {last : PerPort (Option LastResult)}, Barred s → JobsStand last jobs s →
    AllFaulted jobs last (endAll jobs.length s) := by
  induction jobs with
  | nil => exact fun _ stands => ⟨⟨List.map_eq_nil_iff.mp stands.jobs, stands.last⟩, nofun⟩
  | cons j rest ih =>
    intro s last barred stands
    obtain ⟨k, more, queue, same, behind⟩ := plain_cons stands.jobs
    have tag : k.tag = j.tag := (congrArg Job.tag same :)
    have originator : k.originator = j.originator := (congrArg Job.originator same :)
    have moved : k.moved = j.moved := (congrArg Job.moved same :)
    obtain ⟨barred', ended⟩ := finishHead_barred barred queue
    have told := endHead_noticed startChecks_reacts queue .fault
    rw [stands.last, tag, originator, moved] at ended
    obtain ⟨none, others⟩ := ih barred' ⟨ended.last, ended.jobs.trans behind⟩
    refine ⟨none, fun i member => ?_⟩
    obtain rfl | later := List.mem_cons.mp member
    · rw [originator] at told
      exact (endAll_reacts rest.length (finishHead .fault s)).noticed told
    · exact others i later

/-- The state in which the jobs can end one after the other: BALANCE is barred, or holds the link for the first of them. -/
def Clears (s : State) : Prop :=
  Barred s ∨ s.balanceAllowed = true ∧ s.arb.link = .held .balance ∧ ∀ j ∈ s.bal.queue.head?, j.state ≠ .suspended

theorem cellFaultToEngine_clears (h : Clears s) : AllFaulted s.bal.queue s.bal.last (cellFaultToEngine s) := by
  obtain barred | ⟨allowed, held, going⟩ := h
  · exact endAll_barred s.bal.queue barred ⟨rfl, rfl⟩
  · unfold cellFaultToEngine
    cases queue : s.bal.queue with
    | nil => exact ⟨⟨queue, rfl⟩, nofun⟩
    | cons j rest =>
      obtain ⟨passes, told⟩ := endHead_gives queue startChecks_reacts .fault held (going j (by rw [queue]; rfl))
      obtain ⟨arb, last, jobs, rests⟩ := passes.waitsOut
      have stays := allowed_of_reacts (endHead_reacts startChecks_reacts .fault s) (by decide)
      have barred : Barred (finishHead .fault s) := ⟨.inl ⟨_, arb⟩, rests, fun shut => by rw [finishHead, stays, allowed] at shut; exact nomatch shut⟩
      obtain ⟨none, others⟩ := endAll_barred rest barred ⟨last, jobs⟩
      refine ⟨none, fun i member => ?_⟩
      obtain rfl | later := List.mem_cons.mp member
      · exact (endAll_reacts rest.length (finishHead .fault s)).noticed told
      · exact others i later

/-! ### The channel takes the fault first (R99, R108) -/

/-- The engine stands at b, whose head is SUSPENDED. -/
theorem restingRules {b : Balance} (rests : ∀ j ∈ b.queue.head?, j.state = .suspended) : BalRules fun s => s.bal = b where
  same h bal := bal.trans h
  told {s cause} h := by
    subst h
    rw [reportLossToEngine_eq, HeadRests.lossQueue rests]
    rfl

theorem startChecks_rests (h : HeadRests s) : startChecks s = s := by
  unfold startChecks
  split
  · rfl
  next j rest queue => exact if_neg (by rw [h j (by rw [queue]; rfl)]; nofun)

theorem Clears.commit (h : Clears s) (c : Cell) {y : Change} (idle : y.ch.state ≠ .active) : Clears (commit c y s) ∧ (commit c y s).bal = s.bal := by
  have allowed : (Machine.commit c y s).balanceAllowed = s.balanceAllowed := allowed_of_reacts (commit_reacts s c y) (by cases c <;> decide)
  have same (arb : (Machine.commit c y s).arb.link = s.arb.link ∧ (Machine.commit c y s).arb.backoffBalance = s.arb.backoffBalance)
      (bal : (Machine.commit c y s).bal = s.bal) : Clears (Machine.commit c y s) ∧ (Machine.commit c y s).bal = s.bal := by
    refine ⟨h.imp (fun barred => barred.congr arb.1 arb.2 bal allowed) ?_, bal⟩
    rw [allowed, arb.1, bal]
    exact id
  cases c with
  | a =>
    have k := commit_a_reacts y s
    have arb : (Machine.commit .a y s).arb = s.arb := k.arb_eq (by decide) (by decide)
    exact same (by rw [arb]; exact ⟨rfl, rfl⟩) (k.bal_eq (by decide) (by decide) (by decide))
  | b =>
    have unheld (ne : s.arb.link ≠ .held .chargeB) : Clears (Machine.commit .b y s) ∧ (Machine.commit .b y s).bal = s.bal := by
      obtain ⟨bal, arb⟩ := commit_b_idle_unheld idle ne
      exact same (by rcases arb with arb | arb <;> rw [arb] <;> exact ⟨rfl, rfl⟩) bal
    obtain ⟨bars, idleHead, rests⟩ | ⟨-, held, -⟩ := h
    · obtain ⟨n, off⟩ | shut | waits := bars
      · have still : Still n s.bal (Machine.commit .b y s) := Still.commit idleHead ⟨off, rfl⟩ .b y
        refine ⟨.inl ⟨.inl ⟨n, still.arb⟩, headIdleRules.same idleHead still.bal, fun shut => ?_⟩, still.bal⟩
        unfold HeadRests
        rw [still.bal]
        exact rests (allowed.symm.trans shut)
      · have resting := rests shut
        have bal : (Machine.commit .b y s).bal = s.bal := (restingRules resting).commit_then (Q := fun u => u.bal = s.bal) id
          (fun k h => (k.bal_eq (by decide) (by decide) (by decide)).trans h)
          (fun u h _ => by rw [startChecks_rests (by unfold HeadRests; rw [h]; exact resting)]; exact h) rfl .b y
        exact ⟨.inl ⟨.inr (.inl (allowed.trans shut)), headIdleRules.same idleHead bal, fun _ => by unfold HeadRests; rw [bal]; exact resting⟩, bal⟩
      · exact unheld (by rcases waits with link | link <;> rw [link] <;> nofun)
    · exact unheld (by rw [held]; nofun)

/-! ### No job is left (R134) -/

theorem NoJobs.startChecks (h : NoJobs last s) : startChecks s = s := by rw [Machine.startChecks, h.empty]
theorem NoJobs.finishHead (h : NoJobs last s) (reason : EndReason) : finishHead reason s = s := by rw [Machine.finishHead, endHead, h.empty]

theorem noJobs_balRules (last : PerPort (Option LastResult)) : BalRules (NoJobs last) where
  same h bal := ⟨by rw [bal]; exact h.empty, by rw [bal]; exact h.last⟩
  told {s cause} h := by
    rw [reportLossToEngine_eq, h.empty]
    exact ⟨rfl, h.last⟩

theorem noJobs_headRules (last : PerPort (Option LastResult)) : HeadRules (NoJobs last) where
  toLinkRules := (noJobs_balRules last).linkRules
  apart k h := (noJobs_balRules last).same h k.bal
  prot _ h := ⟨h.empty, h.last⟩
  answers s h := by
    rw [h.startChecks]
    exact h
  finishes reason h := by
    rw [h.finishHead]
    exact h
  credits queue _ h := by
    rw [h.empty] at queue
    exact nomatch queue
  locks h := ⟨h.empty, h.last⟩
  commits c y h := (noJobs_balRules last).commit_then (Q := NoJobs last) id
    (fun k h => (noJobs_balRules last).reacts k (by decide) (by decide) (by decide) h)
    (fun u hu _ => by rw [hu.startChecks]; exact hu) h c y

theorem noJobs_parts (l : List FaultReport) (last : PerPort (Option LastResult)) : PartRules l (NoJobs last) :=
  (noJobs_headRules last).partRules fun {s} b _ h => by
    have told : NoJobs last (s.setEngineHot b) := ⟨h.empty, h.last⟩
    cases b with
    | true =>
      have same : suspendHead (s.setEngineHot true) = s.setEngineHot true := by rw [suspendHead, told.empty]
      show NoJobs last (suspendHead (s.setEngineHot true))
      rw [same]
      exact told
    | false =>
      have same : releaseHead (s.setEngineHot false) = s.setEngineHot false := by rw [releaseHead, told.empty]
      show NoJobs last (releaseHead (s.setEngineHot false))
      rw [same]
      exact told

theorem allFaulted_parts (l : List FaultReport) (jobs : List Job) (last : PerPort (Option LastResult)) : PartRules l (AllFaulted jobs last) where
  apart k mono h := ⟨(noJobs_parts l _).apart k mono h.1, fun j member => mono _ _ (h.2 j member)⟩
  prot x h := ⟨(noJobs_parts l _).prot x h.1, h.2⟩
  samples c h := ⟨(noJobs_parts l _).samples c h.1, fun j member => (noticed_parts l _ _).samples c (h.2 j member)⟩
  engine h := ⟨(noJobs_parts l _).engine h.1, fun j member => (noticed_parts l _ _).engine (h.2 j member)⟩
  reports x member h := ⟨(noJobs_parts l _).reports x member h.1, fun j mem => (noticed_parts l _ _).reports x member (h.2 j mem)⟩

end

end Sys2Proof.Machine
end

section
/-! Raised and cleared faults reach the other blocks (R94, R108, R141, R148, R170, R172, R174): O27. -/

namespace Sys2Proof.Machine

section
variable {s t : State} {m : RawSample} {order : Nat} {c : Cell}

/-! ### Order 0: the reports as they are listed (R148, R170) -/

theorem arrange_zero {α : Type} (l : List α) : arrange 0 l = l := by
  induction l with
  | nil => rfl
  | cons x rest ih => rw [arrange, Nat.zero_mod, Nat.zero_div, ih, insertAt, List.take_zero, List.drop_zero, List.nil_append]

theorem reportsOf_cell {old new : Protection} (latches : (old.cell c).latches (new.cell c) = true) :
    ∃ d more, reportsOf old new = .cellToChannel d :: .cellToEngine :: more := by
  unfold reportsOf
  dsimp only
  by_cases first : (old.cell .a).latches (new.cell .a) = true
  · rw [if_pos first]
    exact ⟨.a, _, rfl⟩
  · rw [if_neg first, if_pos (show (old.cell .b).latches (new.cell .b) = true by cases c; exacts [absurd latches first, latches])]
    exact ⟨.b, _, rfl⟩

theorem Clears.congr (h : Clears s) (arb : t.arb = s.arb) (bal : t.bal = s.bal) (off : t.hold.state = .off ↔ s.hold.state = .off) : Clears t := by
  have allowed : t.balanceAllowed = s.balanceAllowed := by
    rw [Bool.eq_iff_iff, balanceAllowed_iff, balanceAllowed_iff, State.Allowed, State.Allowed, off, bal]
  refine h.imp (fun barred => barred.congr (by rw [arb]) (by rw [arb]) bal allowed) ?_
  rw [allowed, arb, bal]
  exact id

/-- R148, R170: the reports of a latched cell fault come first. -/
theorem takeReports_faulted (clears : Clears s) (d : Cell) (more : List FaultReport) :
    AllFaulted s.bal.queue s.bal.last ((.cellToChannel d :: .cellToEngine :: more).foldl (fun s x => takeReport x s) s) := by
  obtain ⟨told, bal⟩ := clears.commit d (cellFault_leaves (s.channel d))
  have ended := cellFaultToEngine_clears told
  rw [bal] at ended
  exact foldl_preserves (P := AllFaulted s.bal.queue s.bal.last) (fun s x => takeReport x s) more
    (fun x member _ h => (allFaulted_parts more _ _).reports x member h) _ ended

theorem monitorSample_faulted (latches : (s.prot.cell c).latches ((s.prot.judged s.sample).cell c) = true) (clears : Clears s) :
    AllFaulted s.bal.queue s.bal.last (monitorSample 0 s) := by
  let new := s.prot.judged s.sample
  obtain ⟨d, more, reports⟩ := reportsOf_cell latches
  have changed : new ≠ s.prot := by
    intro same
    rw [show s.prot.judged s.sample = s.prot from same, reportsOf_sameSets (.refl s.prot)] at reports
    exact nomatch reports
  have set : Clears (s.setProt new) := clears.congr rfl rfl .rfl
  have k := Apart.enterFaults_rest new s
  have faulted := takeReports_faulted (set.congr k.arb k.bal k.off) d more
  rw [k.bal, ← reports] at faulted
  unfold monitorSample
  dsimp only
  rw [if_neg changed, arrange_zero]
  exact (allFaulted_parts [] _ _).trigger faulted

/-- R148: with order 0 the engine takes a latched cell fault before any other change. -/
theorem arriveSample_faulted (on : s.operating = true) (running : s.power.phase = .running)
    (latches : (s.prot.cell c).latches ((s.prot.judged (recordSample m s).sample).cell c) = true) (clears : Clears s) :
    AllFaulted s.bal.queue s.bal.last (arriveSample m 0 s) := by
  let r := recordSample m s
  have onR : r.operating = true := on
  have sensed : AllFaulted s.bal.queue s.bal.last (monitorSample 0 r) :=
    monitorSample_faulted (s := r) latches (clears.congr (t := r) rfl rfl .rfl)
  have first : arriveSample m 0 s = everyReceiver.tail.foldl (fun s x => receive 0 x s) (monitorSample 0 r) := by
    rw [arriveSample, arrange_zero]
    rfl
  rw [first]
  refine (foldl_preserves (P := fun u => Carries r u ∧ AllFaulted s.bal.queue s.bal.last u) (fun s x => receive 0 x s) everyReceiver.tail
    (fun y member u h => ?_) _ ⟨Carries.monitorSample onR 0, sensed⟩).2
  obtain ⟨carried, faulted⟩ := h
  have ne : y ≠ .monitor := fun same => absurd member (by rw [same]; decide)
  exact ⟨carried.trans (Carries.receive (carried.operating onR) 0 y),
    (allFaulted_parts [] s.bal.queue s.bal.last).receive ne (carried.phase running) faulted⟩

/-- R138 to R141, R148: what O27 asks of a head that could be granted the link as it ends. -/
theorem clears_of_sound (sound : s.LinkUsersSound) {j : Job} {rest : List Job} (queue : s.bal.queue = j :: rest)
    (free : j.state ≠ .queued ∨ s.arb.link = .changeover ∨ s.arb.link = .held .supply ∨ s.arb.backoffBalance ≠ none) : Clears s := by
  obtain ⟨-, -, -, ⟨-, told, -, -, head⟩, -⟩ := sound
  obtain ⟨suspended, running⟩ := head j (by rw [queue]; rfl)
  rw [← told, ← not_iff_not] at suspended
  have allowed : s.balanceAllowed = true ↔ j.state ≠ .suspended := by
    rw [balanceAllowed_iff, State.Allowed, Ne, suspended]
    simp
  have only {p : Job → Prop} (h : p j) : ∀ i ∈ s.bal.queue.head?, p i := by
    rw [queue]
    intro i first
    obtain rfl := Option.some.inj first
    exact h
  cases state : j.state with
  | running => exact .inr ⟨allowed.mpr (by rw [state]; nofun), running.mp state, only (by rw [state]; nofun)⟩
  | suspended =>
    have shut : s.balanceAllowed = false := Bool.eq_false_iff.mpr fun is => allowed.mp is state
    exact .inl ⟨.inr (.inl shut), only (p := fun i => i.state ≠ .running) (by rw [state]; nofun),
      fun _ => only (p := fun i => i.state = .suspended) state⟩
  | queued =>
    have unheld : s.arb.link ≠ .held .balance := fun held => by rw [running.mpr held] at state; exact nomatch state
    refine .inl ⟨?_, only (p := fun i => i.state ≠ .running) (by rw [state]; nofun), fun shut => ?_⟩
    · obtain changing | supply | backoff := free.resolve_left fun ne => ne state
      · exact .inr (.inr (.inl changing))
      · exact .inr (.inr (.inr supply))
      · obtain ⟨n, is⟩ := Option.ne_none_iff_exists'.mp backoff
        exact .inl ⟨n, unheld, is⟩
    · rw [allowed.mpr (by rw [state]; nofun)] at shut
      exact nomatch shut

/-! ### A sample's reports, whatever the order -/

/-- R146, R148: as many ends as there are jobs leave none. -/
theorem endAll_empties (n : Nat) : ∀ {s : State}, s.bal.queue.length ≤ n → (endAll n s).bal.queue = [] := by
  induction n with
  | zero => exact fun none => List.length_eq_zero_iff.mp (Nat.le_zero.mp none)
  | succ n ih =>
    intro s most
    refine ih ?_
    cases queue : s.bal.queue with
    | nil => rw [finishHead, endHead, queue]; simp [queue]
    | cons j rest =>
      have left : (finishHead .fault s).bal.queue.map Job.tag <:+ rest.map Job.tag := endHead_tags startChecks_tags queue .fault
      have fewer := left.length_le
      rw [List.length_map, List.length_map] at fewer
      rw [queue, List.length_cons] at most
      omega

theorem noPart (l : List FaultReport) : PartRules l fun _ => True := .of_reacts l (fun _ => id) (fun _ => id) fun _ => id

theorem emptyQueue_parts (l : List FaultReport) : PartRules l fun s => s.bal.queue = [] :=
  .of_reacts l (fun k h => (congrArg Balance.queue k.bal :).trans h) (fun _ h => h) fun k h => k.queue_nil h

theorem holdOff_parts (l : List FaultReport) : PartRules l fun s => s.hold.state = .off :=
  .of_reacts l (fun k h => k.off.mpr h) (fun _ h => h) fun k h => k.holdOff_iff.mpr h

section
variable (on : s.operating = true) (running : s.power.phase = .running)
include on running

/-- R108, R170. -/
theorem arriveSample_cellFault (latches : (s.prot.cell c).latches ((s.prot.judged (recordSample m s).sample).cell c) = true) :
    ((arriveSample m order s).channel c).state ≠ .active ∧ (arriveSample m order s).bal.queue = [] := by
  have toChannel : .cellToChannel c ∈ sampleReports m s := mem_reportsOf.mpr (.inl ⟨c, latches, .inl rfl⟩)
  have toEngine : .cellToEngine ∈ sampleReports m s := mem_reportsOf.mpr (.inl ⟨c, latches, .inr rfl⟩)
  have rules := notActive_rules (sampleReports m s) c
  exact ⟨arriveSample_reports on running toChannel (noPart _) rules.partRules (fun u _ => rules.commit_own (cellFault_leaves _)) trivial,
    arriveSample_reports on running toEngine (noPart _) (emptyQueue_parts _) (fun u _ => endAll_empties _ (Nat.le_refl _)) trivial⟩

/-- R94, R172: a change of DIE_HOT reaches each channel. -/
theorem arriveSample_heat (c : Cell) {b : Bool} (was : s.prot.device.dieHot ≠ b) (now : (s.prot.judged (recordSample m s).sample).device.dieHot = b) :
    ((arriveSample m order s).channel c).Heat b := by
  have member : .dieHot b (.channel c) ∈ sampleReports m s := dieHot_mem.mpr ⟨by rw [now]; exact was, now.symm⟩
  have alone : .dieHot (!b) (.channel c) ∉ sampleReports m s := fun other => by
    have same := (dieHot_mem.mp other).2
    rw [now] at same
    cases b <;> exact nomatch same
  have rules := heat_rules b c alone
  refine arriveSample_reports on running member (noPart _) rules.partRules (fun u _ => ?_) trivial
  cases b with
  | true => exact rules.commit_own (withReasons_heat (r := { (u.channel c).reasons with dieHot := true }) rfl _)
  | false => exact rules.commit_own (withReasons_heat (r := { (u.channel c).reasons with dieHot := false }) rfl _)

theorem arriveSample_suspends (was : s.prot.device.dieHot = false) (now : (s.prot.judged (recordSample m s).sample).device.dieHot = true) :
    HeadRests (arriveSample m order s) := by
  have member : .dieHot true .engine ∈ sampleReports m s := dieHot_mem.mpr ⟨by rw [was, now]; nofun, now.symm⟩
  have alone : .dieHot false .engine ∉ sampleReports m s := fun other => by
    have same := (dieHot_mem.mp other).2
    rw [now] at same
    exact nomatch same
  exact (arriveSample_reports on running member (noPart _) (hotRests_parts alone)
    (fun u _ => ⟨(suspendHead_reacts _).hot_eq (by decide), suspendHead_rests _⟩) trivial).rests

theorem arriveSample_releases (was : s.prot.device.dieHot = true) (now : (s.prot.judged (recordSample m s).sample).device.dieHot = false)
    (off : s.hold.state = .off) : HeadReleased (arriveSample m order s) := by
  have member : .dieHot false .engine ∈ sampleReports m s := dieHot_mem.mpr ⟨by rw [was, now]; nofun, now.symm⟩
  have alone : .dieHot true .engine ∉ sampleReports m s := fun other => by
    have same := (dieHot_mem.mp other).2
    rw [now] at same
    exact nomatch same
  exact arriveSample_reports on running member (holdOff_parts _) (headReleased_parts alone)
    (fun u off => releaseHead_released ((balanceAllowed_iff _).mpr ⟨off, rfl⟩)) off

/-- R130, R174. -/
theorem arriveSample_locks (raised : s.prot.device.linkFault ≠ (s.prot.judged (recordSample m s).sample).device.linkFault) :
    Locked (arriveSample m order s).arb ∧ HeadIdle (arriveSample m order s) := by
  have toArbiter : .linkToArbiter ∈ sampleReports m s := mem_reportsOf.mpr (.inr (.inr ⟨raised, .inl rfl⟩))
  have toEngine : .linkToEngine ∈ sampleReports m s := mem_reportsOf.mpr (.inr (.inr ⟨raised, .inr rfl⟩))
  have locked := arriveSample_reports (order := order) on running toArbiter (noPart _) (locked_parts _) (fun u _ => lockLink_locked u) trivial
  have runs := arriveSample_reports (order := order) on running toEngine (noPart _) (runsHeld_parts _)
    (fun u _ => linkFaultToEngine_runsHeld u) trivial
  exact ⟨locked, runs.resolve_right (locked.unheld _)⟩

/-- R144, R148: the job that RAN has ended. -/
theorem arriveSample_jobOver {j : Job} {rest : List Job}
    (raised : s.prot.device.linkFault ≠ (s.prot.judged (recordSample m s).sample).device.linkFault)
    (sound : s.bal.Sound) (queue : s.bal.queue = j :: rest) (runs : j.state = .running) (held : s.arb.link = .held .balance)
    (stays : s.arb.yieldPending = false) (idle : s.chB.state ≠ .active) (cool : (s.prot.judged (recordSample m s).sample).device.dieHot = false)
    (cells : ∀ c, (s.prot.judged (recordSample m s).sample).cell c = s.prot.cell c) : JobOver s.bal.last j rest (arriveSample m order s) := by
  have spared (x : FaultReport) (member : x ∈ sampleReports m s) : x.spares = true := by
    obtain ⟨c, latches, -⟩ | ⟨-, l, rfl⟩ | ⟨-, rfl | rfl⟩ := mem_reportsOf.mp member
    · rw [cells c, CellFaults.latches] at latches
      simp at latches
    · rw [cool]
      rfl
    · rfl
    · rfl
  obtain ⟨-, -, fresh, jobs, -⟩ := sound
  have behind : ∀ k ∈ rest.head?, k.Fresh ∧ 1 ≤ k.count := by
    intro k first
    have member : k ∈ rest := List.mem_of_mem_head? first
    obtain ⟨-, -, count, -⟩ := jobs k (by rw [queue]; exact List.mem_cons_of_mem _ member)
    exact ⟨fresh k (by rw [queue]; exact member), count⟩
  have member : .linkToArbiter ∈ sampleReports m s := mem_reportsOf.mpr (.inr (.inr ⟨raised, .inl rfl⟩))
  exact arriveSample_reports on running member (jobGoes_parts (last := s.bal.last) (j := j) spared behind) (jobOver_parts spared behind)
    (fun u h => h.2.elim JobGoes.lockLink ((jobOver_parts spared behind).reports _ member)) ⟨idle, .inl ⟨held, stays, rfl, j, queue, runs, rfl, rfl⟩⟩

end

end

/-- Settles O27: each report of the sample, and what the other parts keep of it. -/
theorem faultsStopTheirBlocks : Obligations.FaultsStopTheirBlocks := by
  intro s m order on sampling running
  obtain ⟨-, prot, -⟩ := arriveSample_judged (m := m) (order := order) on
  refine ⟨_, exec_sampleArrival on sampling m order, ?_⟩
  rw [prot]
  refine ⟨fun c _ enters => ?_, fun was now => ?_, fun was now => ?_, fun now was => ?_⟩
  · have latches : (s.prot.cell c).latches ((s.prot.judged (recordSample m s).sample).cell c) = true := by
      rw [CellFaults.latches]
      rcases enters with ⟨now, was⟩ | ⟨now, was⟩ <;> simp [now, was]
    obtain ⟨left, none⟩ := arriveSample_cellFault (order := order) on running latches
    refine ⟨left, none, fun zero sound free p _ j latest => ?_⟩
    subst zero
    have member : j ∈ s.bal.queue.filter (fun k => k.originator == p) := List.mem_of_mem_getLast? latest
    obtain ⟨queued, own⟩ := List.mem_filter.mp member
    obtain ⟨k, rest, queue⟩ := List.exists_cons_of_ne_nil (List.ne_nil_of_mem queued)
    have clears := clears_of_sound sound queue (free.imp_left fun waits => waits k (by rw [queue]; rfl))
    obtain ⟨⟨-, last⟩, told⟩ := arriveSample_faulted on running latches clears
    refine ⟨(beq_iff_eq.mp own) ▸ told j queued, ?_⟩
    rw [last]
    exact faulted_get p _ _ j latest
  · refine ⟨fun c _ active => ?_, arriveSample_suspends on running was now⟩
    obtain ⟨hot, none⟩ := arriveSample_heat (order := order) on running c (by rw [was]; nofun) now active
    exact ⟨hot, none rfl⟩
  · refine ⟨fun c _ active => ?_, fun off => (arriveSample_releases on running was now off).2⟩
    exact (arriveSample_heat (order := order) on running c (by rw [was]; nofun) now active).1
  · have raised : s.prot.device.linkFault ≠ (s.prot.judged (recordSample m s).sample).device.linkFault := by rw [was, now]; nofun
    obtain ⟨locked, idle⟩ := arriveSample_locks (order := order) on running raised
    refine ⟨locked.lock, ?_, idle, fun sound j first runs held stays idleB cool cellA cellB => ?_⟩
    · unfold Arbiter.holder
      split
      next r held => exact absurd held (locked.unheld r)
      next => rfl
      next => rfl
    · obtain ⟨rest, queue⟩ : ∃ rest, s.bal.queue = j :: rest := ⟨_, (List.cons_head?_tail first).symm⟩
      obtain ⟨r, reason, n, moved, passes, told⟩ := arriveSample_jobOver (order := order) on running raised sound queue runs held stays idleB cool
        (fun c => by cases c; exacts [cellA, cellB])
      obtain ⟨-, last, jobs, -⟩ := passes.waitsOut
      refine ⟨told, ?_, r, reason, { tag := j.tag, reason := r, moved := moved }, ?_, rfl, rfl⟩
      · rw [tags_of_plain jobs, queue]
        rfl
      · rw [last, PerPort.get_set_self]
        rfl

end Sys2Proof.Machine
end
